-- ==== Sys2Proof/Word.lean ====
section
/-!
DEFINITION. The word types of the OXG-512: registers are 32-bit words (Register Pages), wire octets are bytes, and a
sparse table keyed by a natural number is a list of pairs whose unlisted keys read as a default the table's owner names.
-/

namespace Sys2Proof

/-- One register or table word. -/
abbrev Word := BitVec 32

/-- One octet. -/
abbrev Byte := BitVec 8

/-- A sparse table: keys with the values that differ from the table's default, keys rising. -/
abbrev Tbl (α : Type) := List (Nat × α)

end Sys2Proof
end

