-- ==== Sys2Proof/Syntax.lean ====
section
/-!
DEFINITION. The commands of the OXG-512: one constructor per row of spec/opcode_table.json, and the types of their
operands. Every command carries `dt`, the time that has passed since the command before it, in units of 2^-16 ns
(assumption log 1). Host commands of a page carry the argument words exactly as the page's ARG registers hold them.
-/

namespace Sys2Proof

/-- The two drive planes. -/
inductive Plane
  | a
  | b
  deriving DecidableEq, Repr

/-- The two Ehreri ports. -/
inductive Port
  | e0
  | e1
  deriving DecidableEq, Repr

/-- Where an answer to a COMMAND transaction goes (R283): the transaction ID, the requester's address, the addressed
CMD register, and whether an answer is due at all (a broadcast without ACKREQ has none, R279). -/
structure Reply where
  tid : BitVec 12
  mac : BitVec 48
  addr : Word
  due : Bool
  deriving DecidableEq, Repr

/-- An order: the port on which it entered (its source, R288), its source sequence, and the COMMAND transaction that
waits for its completion, if it came as one (R320). -/
structure Order where
  port : Port
  seq : BitVec 16
  reply : Option Reply
  deriving DecidableEq, Repr

/-- How the frame check of a received link frame came out (R280, R294). -/
inductive Fcs
  | good
  | bad
  | stomped
  deriving DecidableEq, Repr

/-- A received Ehreri frame with the header of Table EHR-2; the opcode stands in the command. -/
structure LinkFrame where
  fcs : Fcs
  etherType : BitVec 16
  src : BitVec 48
  version : BitVec 4
  bcast : Bool
  evt : Bool
  ackreq : Bool
  dev : BitVec 8
  seq : BitVec 16
  tid : BitVec 12
  len : BitVec 16
  addr : Word
  code : BitVec 8
  hops : BitVec 8
  payload : List Word
  deriving DecidableEq, Repr

/-- A frame received on a supervisory lane: whether every code group was valid, whether its FCS holds, and its octets
from the destination address up to and without the FCS (R207). -/
structure LaneFrame where
  codeOk : Bool
  fcsOk : Bool
  octets : List Byte
  deriving DecidableEq, Repr

/-- Who asks for an injected conversion (R148). -/
inductive InjWho
  | sheep
  | host
  | bist
  deriving DecidableEq, Repr

/-- The two reference readings of one converter at one gain in a self-calibration (R152). -/
structure CalReading where
  tile : Fin 608
  conv : Fin 2
  gain : Fin 4
  high : Int
  low : Int
  deriving DecidableEq, Repr

/-- The residual one ring oscillator of a tile was measured with (R136). -/
structure RingResidual where
  tile : Fin 608
  residual : Int
  deriving DecidableEq, Repr

/-- The timed PTP messages the device sends (R260). -/
inductive PtpKind
  | announce
  | sync
  | delayReq
  | pdelayReq
  deriving DecidableEq, Repr

/-- The three thermal level registers (R328). -/
inductive ThmLevel
  | warn
  | throttle
  | shutdown
  deriving DecidableEq, Repr

/-- A reading of one check of a self-test slice (R344): none taken; the converter's result of a CONV or DARK check, before
correction; the deviations of the three LOOPBACK values of a DAC check from what their
codes imply, in 1/10000 of full scale, and whether the DAC limited; the resistance of a HEATER check in mΩ. -/
inductive CheckReading
  | none
  | conv (raw : BitVec 12)
  | dac (d1 d2 d3 : Int) (sc : Bool)
  | dark (raw : BitVec 12)
  | heater (mohm : Nat)
  deriving DecidableEq, Repr

/-- What the PCS of a lane reports (R204, R205): SYNC has risen, or (`conf`) a /C/ ordered set has been received. -/
structure PcsReport where
  lane : Fin 512
  conf : Bool
  deriving DecidableEq, Repr

/-- Levels of the input lands that the boundary register covers (Table PKG-1, R396), true high. -/
structure InLands where
  tref : Bool
  ppsIn : Bool
  nreset : Bool
  nclr : Bool
  nsafeHold : Bool
  deriving DecidableEq, Repr

/-- Levels of the output lands that the boundary register covers (Table PKG-1, R396), true high or released. -/
structure OutLands where
  safeStat : Bool
  thermTrip : Bool
  ppsOut : Bool
  nint : Bool
  nfault : Bool
  deriving DecidableEq, Repr

/-- Operations of the test access port (R396): its reset, an instruction loaded, or a scan of the data register, with the
levels the board holds the input lands at and the values shifted in for the output lands. -/
inductive TapOp
  | reset
  | bypass
  | idcode
  | sample
  | extest
  | other (ir : BitVec 8)
  | scan (ins : InLands) (outs : OutLands)
  deriving DecidableEq, Repr

/-- The commands, one per row of the opcode table. -/
inductive Instr
  /-- CONNECT (R40). -/
  | connect (dt : Nat) (o : Order) (a0 : Word) (a1 : Word)
  /-- CONNECT_OBJ (R43). -/
  | connectObj (dt : Nat) (o : Order) (a0 : Word) (a1 : Word)
  /-- RELEASE (R48). -/
  | release (dt : Nat) (o : Order) (a0 : Word)
  /-- DUPLEX (R39). -/
  | duplex (dt : Nat) (o : Order) (a0 : Word) (a1 : Word)
  /-- PIN (R53). -/
  | pin (dt : Nat) (o : Order) (a0 : Word)
  /-- UNPIN (R53). -/
  | unpin (dt : Nat) (o : Order) (a0 : Word)
  /-- SOLVE_INCR (R46). -/
  | solveIncr (dt : Nat) (o : Order)
  /-- SOLVE_FULL (R52). -/
  | solveFull (dt : Nat) (o : Order)
  /-- DIRECT_MAP (R56). -/
  | directMap (dt : Nat) (o : Order)
  /-- CLEAR_STAGE (R57). -/
  | clearStage (dt : Nat) (o : Order)
  /-- SOLVE_DONE (R55). -/
  | solveDone (dt : Nat)
  /-- PREPARE (R72). -/
  | prepare (dt : Nat) (o : Order) (a0 : Word) (a3 : Word)
  /-- PREPARE_DONE (R72). -/
  | prepareDone (dt : Nat)
  /-- COMMIT_NOW (R76). -/
  | commitNow (dt : Nat) (o : Order) (a0 : Word) (a3 : Word)
  /-- COMMIT_AT (R77). -/
  | commitAt (dt : Nat) (o : Order) (a0 : Word) (a1 : Word) (a2 : Word) (a3 : Word)
  /-- ABORT (R75). -/
  | abort (dt : Nat) (o : Order) (a0 : Word) (a3 : Word)
  /-- PRESTAGE (R83). -/
  | prestage (dt : Nat) (o : Order) (a0 : Word)
  /-- LEASE_EXPIRY (R74). -/
  | leaseExpiry (dt : Nat)
  /-- SCHEDULED_TIME_REACHED (R80). -/
  | scheduledTimeReached (dt : Nat)
  /-- COMMIT (R63). -/
  | commit (dt : Nat)
  /-- RESTORE_COMMIT (R84). -/
  | restoreCommit (dt : Nat)
  /-- KICK_END (R94). -/
  | kickEnd (dt : Nat) (e : Fin 9728)
  /-- SETTLE_TIMEOUT (R103). -/
  | settleTimeout (dt : Nat) (q : Fin 512)
  /-- ARRIVAL_INJECTION (R104). -/
  | arrivalInjection (dt : Nat) (q : Fin 512)
  /-- LOOP_UPDATE (R119). -/
  | loopUpdate (dt : Nat) (pl : Plane) (e : Fin 9728)
  /-- ELEMENT_TABLE_WRITE (R127). -/
  | elementTableWrite (dt : Nat) (e : Fin 9728) (word : Fin 8) (v : Word)
  /-- CELL_TABLE_WRITE (R35). -/
  | cellTableWrite (dt : Nat) (c : Fin 4352) (word : Fin 8) (v : Word)
  /-- WARM_ALL (R27). -/
  | warmAll (dt : Nat)
  /-- HOLD (R131). -/
  | hold (dt : Nat) (o : Order) (a0 : Word) (a1 : Word)
  /-- RESUME (R131). -/
  | resume (dt : Nat) (o : Order) (a0 : Word) (a1 : Word)
  /-- CLEAR_FAULT (R126). -/
  | clearFault (dt : Nat) (o : Order) (a0 : Word) (a1 : Word)
  /-- SET_PER (R131). -/
  | setPer (dt : Nat) (o : Order) (a0 : Word) (a1 : Word)
  /-- ARM (R130). -/
  | arm (dt : Nat) (o : Order) (a0 : Word)
  /-- STOP (R129). -/
  | stop (dt : Nat) (o : Order) (a0 : Word)
  /-- TRIGGER (R129). -/
  | trigger (dt : Nat) (o : Order) (a0 : Word)
  /-- CLEAR (R132). -/
  | clear (dt : Nat) (o : Order) (a0 : Word)
  /-- CONVERSION_SLOT (R137). -/
  | conversionSlot (dt : Nat) (pl : Plane) (t : Fin 608) (raw0 : BitVec 12) (raw1 : BitVec 12)
  /-- INJECTION_REQUEST (R148). -/
  | injectionRequest (dt : Nat) (pl : Plane) (t : Fin 608) (who : InjWho) (chan : Fin 20) (acq : Fin 4) (gain : Fin 4) (acquiring : Bool)
  /-- INJECTION_COMPLETE (R147). -/
  | injectionComplete (dt : Nat) (pl : Plane) (t : Fin 608) (raw : BitVec 12)
  /-- INJECT (R150). -/
  | inject (dt : Nat) (o : Order) (a0 : Word) (a1 : Word)
  /-- SELF_CAL (R151). -/
  | selfCal (dt : Nat) (o : Order) (a0 : Word)
  /-- CAL_DONE (R152). -/
  | calDone (dt : Nat) (pl : Plane) (readings : List CalReading)
  /-- HACC_START (R146). -/
  | haccStart (dt : Nat) (o : Order) (a0 : Word) (a1 : Word)
  /-- HACC_STOP (R146). -/
  | haccStop (dt : Nat) (o : Order) (a0 : Word) (a1 : Word)
  /-- HACC_DONE (R146). -/
  | haccDone (dt : Nat)
  /-- RING_CALIBRATION (R136). -/
  | ringCalibration (dt : Nat) (pl : Plane) (residuals : List RingResidual)
  /-- TILE_TABLE_WRITE (R153). -/
  | tileTableWrite (dt : Nat) (t : Fin 608) (word : Fin 64) (v : Word)
  /-- SET_RANGE (R160). -/
  | setRange (dt : Nat) (o : Order) (a0 : Word) (a1 : Word)
  /-- SYNC (R170). -/
  | sync (dt : Nat) (o : Order) (a0 : Word) (a1 : Word)
  /-- FW_WRITE (R170). -/
  | fwWrite (dt : Nat) (t : Fin 608) (fw : BitVec 16)
  /-- DEGLITCH_HOLD_END (R161). -/
  | deglitchHoldEnd (dt : Nat) (e : Fin 9728)
  /-- DRV_SC (R162). -/
  | drvSc (dt : Nat) (pl : Plane) (e : Fin 9728)
  /-- SC_FLAG_CLEAR (R163). -/
  | scFlagClear (dt : Nat) (v : Word)
  /-- NCLR_FALL (R164). -/
  | nclrFall (dt : Nat)
  /-- NCLR_RISE (R166). -/
  | nclrRise (dt : Nat)
  /-- INPUT_VOA_RELEASE (R166). -/
  | inputVoaRelease (dt : Nat) (p : Fin 512)
  /-- RELIGHT_TIMEOUT (R166). -/
  | relightTimeout (dt : Nat) (q : Fin 512)
  /-- FEED_VALID (R175). -/
  | feedValid (dt : Nat) (pl : Plane)
  /-- FEED_INVALID (R175). -/
  | feedInvalid (dt : Nat) (pl : Plane)
  /-- PLANE_FAULT_DETECT (R180). -/
  | planeFaultDetect (dt : Nat) (pl : Plane) (cause : BitVec 3) (reg : BitVec 6)
  /-- LEASE_RENEWAL (R178). -/
  | leaseRenewal (dt : Nat)
  /-- ALIVE_MARK (R179). -/
  | aliveMark (dt : Nat) (pl : Plane)
  /-- LEASE_END (R178). -/
  | leaseEnd (dt : Nat)
  /-- HEARTBEAT (R179). -/
  | heartbeat (dt : Nat) (pl : Plane)
  /-- HEARTBEAT_MISS (R179). -/
  | heartbeatMiss (dt : Nat) (pl : Plane)
  /-- TOKEN_GRANT (R181). -/
  | tokenGrant (dt : Nat) (pl : Plane) (gap : Nat)
  /-- TOKEN_FREE (R177). -/
  | tokenFree (dt : Nat)
  /-- FENCED_CHECK_END (R176). -/
  | fencedCheckEnd (dt : Nat) (pl : Plane) (ok : Bool)
  /-- PLANE_START_DONE (R191). -/
  | planeStartDone (dt : Nat) (pl : Plane) (ok : Bool)
  /-- REGULATOR_WARN (R189). -/
  | regulatorWarn (dt : Nat) (pl : Plane) (reg : Fin 6)
  /-- REG_WARN_CLEAR (R189). -/
  | regWarnClear (dt : Nat) (pl : Plane) (reg : Fin 6)
  /-- AUTO_HANDOVER (R190). -/
  | autoHandover (dt : Nat)
  /-- HANDOVER (R190). -/
  | handover (dt : Nat) (o : Order)
  /-- PLANE_RESTART (R192). -/
  | planeRestart (dt : Nat) (o : Order) (a0 : Word)
  /-- RESYNC (R192). -/
  | resync (dt : Nat) (o : Order)
  /-- SAFE_ENTER (R199). -/
  | safeEnter (dt : Nat) (o : Order)
  /-- SAFE_EXIT (R199). -/
  | safeExit (dt : Nat) (o : Order)
  /-- NSAFE_HOLD_FALL (R196). -/
  | nsafeHoldFall (dt : Nat)
  /-- NSAFE_HOLD_RISE (R196). -/
  | nsafeHoldRise (dt : Nat)
  /-- LASER_FAIL (R195). -/
  | laserFail (dt : Nat) (n : Fin 32)
  /-- RETRY (R221). -/
  | retry (dt : Nat) (o : Order) (a0 : Word)
  /-- RETRY_END (R221). -/
  | retryEnd (dt : Nat) (ok : Bool)
  /-- LANE_LINK_UP (R205). -/
  | laneLinkUp (dt : Nat) (i : Fin 512)
  /-- LANE_LINK_DOWN (R205). -/
  | laneLinkDown (dt : Nat) (i : Fin 512)
  /-- FRAME_RECEIVE (R207). -/
  | frameReceive (dt : Nat) (i : Fin 512) (f : LaneFrame)
  /-- QUEUE_ADMISSION (R241). -/
  | queueAdmission (dt : Nat) (i : Fin 512)
  /-- TRANSMIT_START (R244). -/
  | transmitStart (dt : Nat) (i : Fin 512)
  /-- TRANSMIT_END (R242). -/
  | transmitEnd (dt : Nat) (i : Fin 512)
  /-- HOST_FRAME_DELIVERY (R215). -/
  | hostFrameDelivery (dt : Nat)
  /-- FLOOD_APPLY (R214). -/
  | floodApply (dt : Nat) (o : Order) (a0 : Word)
  /-- LANE_CFG_WRITE (R205). -/
  | laneCfgWrite (dt : Nat) (i : Fin 512) (v : Word)
  /-- SWEEP_VISIT (R233). -/
  | sweepVisit (dt : Nat) (n : Fin 1048576)
  /-- SEARCH (R235). -/
  | search (dt : Nat) (o : Order) (a0 : Word)
  /-- NEXT (R235). -/
  | next (dt : Nat) (o : Order) (a0 : Word) (a1 : Word)
  /-- FLUSH_LANE (R236). -/
  | flushLane (dt : Nat) (o : Order) (a0 : Word)
  /-- FLUSH_DONE (R236). -/
  | flushDone (dt : Nat)
  /-- INSERT_STATIC (R237). -/
  | insertStatic (dt : Nat) (o : Order) (a0 : Word) (a1 : Word) (a2 : Word)
  /-- DELETE (R237). -/
  | delete (dt : Nat) (o : Order) (a0 : Word)
  /-- SHAPER_WRITE (R246). -/
  | shaperWrite (dt : Nat) (off : Fin 4096) (v : Word)
  /-- COPY (R254). -/
  | copy (dt : Nat) (o : Order) (a0 : Word) (a1 : Word)
  /-- GATE_APPLY (R250). -/
  | gateApply (dt : Nat) (o : Order) (a0 : Word) (a1 : Word)
  /-- GATE_CANCEL (R250). -/
  | gateCancel (dt : Nat) (o : Order) (a0 : Word) (a1 : Word)
  /-- GATE_SWITCH (R250). -/
  | gateSwitch (dt : Nat) (i : Fin 512)
  /-- GATE_ENTRY_BOUNDARY (R249). -/
  | gateEntryBoundary (dt : Nat) (i : Fin 512)
  /-- SET_TIME (R266). -/
  | setTime (dt : Nat) (o : Order) (a0 : Word) (a1 : Word) (a2 : Word)
  /-- ACCEPT_STEP (R266). -/
  | acceptStep (dt : Nat) (o : Order)
  /-- ACCEPT_PATH (R269). -/
  | acceptPath (dt : Nat) (o : Order)
  /-- SERVO_RESET (R274). -/
  | servoReset (dt : Nat) (o : Order)
  /-- ANNOUNCE_TIMEOUT (R274). -/
  | announceTimeout (dt : Nat) (i : Fin 512)
  /-- PTP_MESSAGE_SEND (R260). -/
  | ptpMessageSend (dt : Nat) (i : Fin 512) (kind : PtpKind)
  /-- TREF_LOSS (R270). -/
  | trefLoss (dt : Nat)
  /-- TREF_RESTORE (R270). -/
  | trefRestore (dt : Nat) (f25 : Bool)
  /-- PPS_IN_EDGE (R273). -/
  | ppsInEdge (dt : Nat)
  /-- PPS_IN_MISS (R273). -/
  | ppsInMiss (dt : Nat)
  /-- NO_PPS (R264). -/
  | noPps (dt : Nat)
  /-- PPS_OUT_PULSE (R272). -/
  | ppsOutPulse (dt : Nat)
  /-- PPS_OUT_WIDTH_END (R272). -/
  | ppsOutWidthEnd (dt : Nat)
  /-- EHR_LINK_UP (R277). -/
  | ehrLinkUp (dt : Nat) (p : Port)
  /-- EHR_LINK_DOWN (R277). -/
  | ehrLinkDown (dt : Nat) (p : Port)
  /-- HI_BER (R277). -/
  | hiBer (dt : Nat) (p : Port)
  /-- FEC_UNCORR (R277). -/
  | fecUncorr (dt : Nat) (p : Port)
  /-- READ (R281). -/
  | read (dt : Nat) (p : Port) (f : LinkFrame)
  /-- WRITE (R281). -/
  | write (dt : Nat) (p : Port) (f : LinkFrame)
  /-- WRITE_POSTED (R281). -/
  | writePosted (dt : Nat) (p : Port) (f : LinkFrame)
  /-- RMW (R282). -/
  | rmw (dt : Nat) (p : Port) (f : LinkFrame)
  /-- COMMAND (R283). -/
  | command (dt : Nat) (p : Port) (f : LinkFrame)
  /-- FRAME (R284). -/
  | frame (dt : Nat) (p : Port) (f : LinkFrame)
  /-- ENUM_ASSIGN (R296). -/
  | enumAssign (dt : Nat) (p : Port) (f : LinkFrame)
  /-- ENUM_FINAL (R296). -/
  | enumFinal (dt : Nat) (p : Port) (f : LinkFrame)
  /-- PING (R287). -/
  | ping (dt : Nat) (p : Port) (f : LinkFrame)
  /-- INVALID_OPCODE (R279). -/
  | invalidOpcode (dt : Nat) (p : Port) (op : BitVec 4) (f : LinkFrame)
  /-- FORWARD (R294). -/
  | forward (dt : Nat) (p : Port) (op : BitVec 4) (f : LinkFrame)
  /-- EVENT_SEND (R286). -/
  | eventSend (dt : Nat) (n : Nat)
  /-- CHAIN_RESET (R297). -/
  | chainReset (dt : Nat) (o : Order) (a0 : Word)
  /-- MASTER_RESET (R305). -/
  | masterReset (dt : Nat) (o : Order) (a0 : Word) (beats : BitVec 16)
  /-- MTX_PARK_WRITE (R305). -/
  | mtxParkWrite (dt : Nat) (v : Word)
  /-- EHR_CFG_WRITE (R303). -/
  | ehrCfgWrite (dt : Nat) (p : Port) (v : Word)
  /-- REGISTER_WRITE (R313). -/
  | registerWrite (dt : Nat) (p : Port) (seq : BitVec 16) (addr : Fin 131072) (v : Word)
  /-- SNAPSHOT_READ (R315). -/
  | snapshotRead (dt : Nat) (p : Port) (addr : Word)
  /-- MULTIWORD_WRITE (R316). -/
  | multiwordWrite (dt : Nat) (p : Port) (addr : Fin 131072) (vs : List Word)
  /-- INT_FORCE (R317). -/
  | intForce (dt : Nat) (page : Fin 128) (v : Word)
  /-- PAGE_SOFT_RESET (R319). -/
  | pageSoftReset (dt : Nat) (page : Fin 128)
  /-- TEMP_SAMPLE (R327). -/
  | tempSample (dt : Nat) (sample : Option Int) (feedA : Nat) (feedB : Nat)
  /-- PWR_LIMIT (R332). -/
  | pwrLimit (dt : Nat)
  /-- BULK_EVALUATION (R335). -/
  | bulkEvaluation (dt : Nat) (power : Nat)
  /-- BULK_RELEASE (R336). -/
  | bulkRelease (dt : Nat)
  /-- THM_LEVEL_WRITE (R328). -/
  | thmLevelWrite (dt : Nat) (lvl : ThmLevel) (v : Word)
  /-- PWR_MODE_WRITE (R340). -/
  | pwrModeWrite (dt : Nat) (v : Word)
  /-- SLICE_START (R346). -/
  | sliceStart (dt : Nat) (pl : Plane)
  /-- SLICE_END (R349). -/
  | sliceEnd (dt : Nat) (pl : Plane) (readings : List (CheckReading × CheckReading))
  /-- SLICE_BUDGET_END (R348). -/
  | sliceBudgetEnd (dt : Nat) (pl : Plane)
  /-- RUN (R355). -/
  | run (dt : Nat) (o : Order) (a0 : Word) (a1 : Word)
  /-- WIPE (R378). -/
  | wipe (dt : Nat) (o : Order)
  /-- WIPE_DONE (R378). -/
  | wipeDone (dt : Nat)
  /-- RECORD (R378). -/
  | record (dt : Nat) (o : Order)
  /-- JOURNAL_RECORD_START (R374). -/
  | journalRecordStart (dt : Nat)
  /-- JOURNAL_RECORD_END (R373). -/
  | journalRecordEnd (dt : Nat)
  /-- AUTO_RESTORE_WRITE (R377). -/
  | autoRestoreWrite (dt : Nat) (v : Word)
  /-- NRESET_FALL (R364). -/
  | nresetFall (dt : Nat)
  /-- NRESET_RISE (R364). -/
  | nresetRise (dt : Nat)
  /-- RESET_END (R364). -/
  | resetEnd (dt : Nat)
  /-- FUSE_LOAD_DONE (R356). -/
  | fuseLoadDone (dt : Nat) (corr : List (BitVec 14)) (uncorr : List (BitVec 14))
  /-- TABLE_WIPE_END (R366). -/
  | tableWipeEnd (dt : Nat)
  /-- LASER_WARMUP_END (R367). -/
  | laserWarmupEnd (dt : Nat)
  /-- LOCK_LATE (R369). -/
  | lockLate (dt : Nat)
  /-- READY (R370). -/
  | ready (dt : Nat)
  /-- RETURN_ARM (R380). -/
  | returnArm (dt : Nat) (o : Order) (a0 : Word) (a1 : Word)
  /-- RETURN_COMMIT (R380). -/
  | returnCommit (dt : Nat) (o : Order) (a0 : Word) (a1 : Word)
  /-- RETURN_ARM_EXPIRY (R380). -/
  | returnArmExpiry (dt : Nat)
  /-- RETURN_MARKER_DONE (R380). -/
  | returnMarkerDone (dt : Nat)
  /-- PCS_SYNCHRONISED (R205). -/
  | pcsSynchronised (dt : Nat) (r : PcsReport)
  /-- BLOCK_LOCK (R277). -/
  | blockLock (dt : Nat) (p : Port)
  /-- LOSS_OF_SIGNAL (R206). -/
  | lossOfSignal (dt : Nat) (i : Fin 512) (los : Bool) (power : BitVec 16)
  /-- TIME_BASE_PLL_LOCK (R270). -/
  | timeBasePllLock (dt : Nat) (f25 : Bool)
  /-- BACKWARD_SLEW_END (R266). -/
  | backwardSlewEnd (dt : Nat)
  /-- DITHER_TICK (R168). -/
  | ditherTick (dt : Nat)
  /-- TEST_ACCESS_PORT (R396). -/
  | testAccessPort (dt : Nat) (op : TapOp)
  deriving DecidableEq, Repr

end Sys2Proof
end

