-- ==== Sys2Proof/Decode.lean ====
section
/-!
DEFINITION. The words the opcode table spells commands by: spec/opcode_table.json gives none of its rows bits, so no word
spells a command.
-/

namespace Sys2Proof

/-- The command a word of the opcode table spells: none, because no row has bits. -/
def decodeTableWord (_nbits _w : Nat) : Option Instr := none

end Sys2Proof
end

