-- ==== Sys2Proof/Machine/Bits.lean ====
section
/-!
DEFINITION. Bit fields of 32-bit words, sign extension, clamping and the octet orders the chapters use.
-/

namespace Sys2Proof.Machine

/-- Bits [hi:lo] of a word. -/
def fld (w : Word) (hi lo : Nat) : Nat := w.toNat / 2 ^ lo % 2 ^ (hi + 1 - lo)

/-- Bit i of a word. -/
def bit (w : Word) (i : Nat) : Bool := w.getLsbD i

/-- A natural number as a word, low bits kept. -/
def w32 (n : Nat) : Word := BitVec.ofNat 32 n

/-- An integer as a word, two's complement. -/
def i32 (n : Int) : Word := BitVec.ofInt 32 n

/-- A value in bits [hi:lo] of an otherwise zero number, high bits cut off. -/
def at_ (hi lo : Nat) (v : Nat) : Nat := v % 2 ^ (hi + 1 - lo) * 2 ^ lo

/-- One bit as a number at place i. -/
def flag (i : Nat) (b : Bool) : Nat := if b then 2 ^ i else 0

/-- Word w with bits [hi:lo] replaced by v. -/
def setFld (w : Word) (hi lo : Nat) (v : Nat) : Word :=
  w32 (w.toNat - at_ hi lo (fld w hi lo) + at_ hi lo v)

/-- An n-bit two's complement field as an integer. -/
def sx (n v : Nat) : Int := if v % 2 ^ n < 2 ^ (n - 1) then (v % 2 ^ n : Nat) else (v % 2 ^ n : Nat) - (2 ^ n : Nat)

/-- An integer as an n-bit two's complement field. -/
def enc (n : Nat) (v : Int) : Nat := (v % (2 ^ n : Nat)).toNat

/-- Clamp an integer to lo..hi. -/
def clampI (lo hi v : Int) : Int := if v < lo then lo else if hi < v then hi else v

/-- Clamp an integer to 0..hi. -/
def clampN (hi : Nat) (v : Int) : Nat := if v < 0 then 0 else if (hi : Int) < v then hi else v.toNat

/-- Saturate to n-bit signed. -/
def satI (n : Nat) (v : Int) : Int := clampI (-(2 ^ (n - 1) : Nat)) ((2 ^ (n - 1) : Nat) - 1) v

/-- a divided by b with truncation toward zero, 0 when b is 0. -/
def tdiv (a b : Int) : Int := Int.tdiv a b

/-- Rounded to the nearest integer, ties away from zero. -/
def rdiv (a : Int) (b : Nat) : Int :=
  if 0 ≤ a then (2 * a + b) / (2 * b) else -((2 * (-a) + b) / (2 * b))

/-- The low k octets of n, most significant first (network order). -/
def octBE : Nat → Nat → List Byte
  | 0, _ => []
  | k + 1, n => BitVec.ofNat 8 (n / 2 ^ (8 * k)) :: octBE k n

/-- Octets read most significant first. -/
def natBE (l : List Byte) : Nat := l.foldl (fun n b => n * 256 + b.toNat) 0

/-- Octets read least significant first. -/
def natLE : List Byte → Nat
  | [] => 0
  | b :: t => b.toNat + 256 * natLE t

/-- Octets k to k + n − 1 of a frame. -/
def octets (f : List Byte) (k n : Nat) : List Byte := (f.drop k).take n

/-- Octets packed into words, least significant octet first, the last word padded with zeros (R278); n bounds the number
of words. -/
def packWords : Nat → List Byte → List Word
  | 0, _ => []
  | _ + 1, [] => []
  | n + 1, l => w32 (natLE (l.take 4)) :: packWords n (l.drop 4)

/-- Words unpacked into octets, least significant octet first. -/
def unpackWords : List Word → List Byte
  | [] => []
  | w :: t => BitVec.ofNat 8 w.toNat :: BitVec.ofNat 8 (w.toNat / 2 ^ 8) :: BitVec.ofNat 8 (w.toNat / 2 ^ 16)
      :: BitVec.ofNat 8 (w.toNat / 2 ^ 24) :: unpackWords t

/-- A bitmap word: bit b set when 32n + b is in the list. -/
def mapWord (l : List Nat) (n : Nat) : Word :=
  w32 (l.foldl (fun acc k => if k / 32 = n ∧ acc.testBit (k % 32) = false then acc + 2 ^ (k % 32) else acc) 0)

/-- Insert into an ascending list of numbers, without repeats. -/
def insN (k : Nat) : List Nat → List Nat
  | [] => [k]
  | j :: t => if k < j then k :: j :: t else if k = j then j :: t else j :: insN k t

/-- The two halves of a 16-bit-per-entry table word. -/
def half2 (lo hi : Nat) : Word := w32 (lo % 2 ^ 16 + 2 ^ 16 * (hi % 2 ^ 16))

end Sys2Proof.Machine
end

