-- ==== Sys2Proof/Config.lean ====
section
/-!
DEFINITION. What the manual leaves to the individual device or leaves open: the contents of its fuse array, and the values
it does not state. None has a body, so nothing can be proved of a particular value.
-/

namespace Sys2Proof.Config

/-- The byte the fuse array of this device holds at an offset of the shadow (R356, R357); assumption log 2. -/
opaque fuseByte : Nat → Byte

/-- Whether the linear value of a set-point in 1/16 dB lies in the upper half between two integers, which rounding needs
and the manual gives no table for (assumption log 21). -/
opaque roundUp : Int → Bool

/-- The attenuation in 1/16 dB of a VOA at a code beyond the last stored point of its curve, from the element and the code
(R113; assumption log 22). -/
opaque beyondCurve : Nat → Nat → Nat

/-- Whether an interpolated attenuation that is no whole number of 1/16 dB is rounded up, from the element and the code
(R113; assumption log 20). -/
opaque curveUp : Nat → Nat → Bool

/-- The value a trace entry holds where the update formed no such value, from the element and the elapsed time (R128;
assumption log 23). -/
opaque traceUnformed : Nat → Nat → Word

/-- The drive gap of a planned handover in ns, from the elapsed time, before it is cut to the 10 µs that R181 allows
(assumption log 25). -/
opaque handoverGap : Nat → Nat

/-- How many words of a journal record, or of a journal wipe, have been written when a reset cuts it off, from the elapsed
time (R338, R374; assumption log 33). -/
opaque wordsWritten : Nat → Nat

/-- How many of the eight marker cells are programmed when a reset cuts the programming off, from the elapsed time (R381;
assumption log 34). -/
opaque markerCells : Nat → Nat

/-- FREE VALUE: how many ns after RETURN_COMMIT, within 5 ms, the marker is programmed and the wipe of the journal begins
(R380), by the elapsed time of the order (assumption log 160). -/
opaque markerNs : Nat → Nat

/-- A wait for a grant at a target of the matrix in ns, from the target and the elapsed time, before it is cut to the 60 ns
of R300 (R305; assumption log 35). -/
opaque grantWait : Nat → Nat → Nat

/-- The matrix IDs a master has outstanding, from the master and the elapsed time (R301, Table EHR-8; assumption log 35). -/
opaque idsHeld : Nat → Nat → Nat

/-- Whether a target of the matrix is serving a burst, from the target and the elapsed time (Table EHR-8; assumption log
35). -/
opaque serving : Nat → Nat → Bool

/-- The beats a master delivers without strobes when a reset finds a burst of it in progress, from the master and the elapsed
time; none where there is no burst (R302; assumption log 45). -/
opaque burstCut : Nat → Nat → Option Nat

/-- How many codewords RS-FEC of a port has corrected since the command before, from the port and the elapsed time (R303;
assumption log 119). -/
opaque fecCorrected : Nat → Nat → Nat

/-- The value of R142 that a conversion of LOOPBACK has for the current of a DAC in its dummy load, from the DAC's full scale in
µA, its code and the gain (R344; assumption log 158). -/
opaque loopback : Nat → Nat → Nat → Int

/-- The resistance in mΩ that a conversion of LOOPBACK in node-sense mode stands for, from its value of R142, the gain and the
heater's current in 2^-16 µA (R344; assumption log 158). -/
opaque nodeOhms : Int → Nat → Nat → Nat

/-- Whether a DAC under a check was limited in a LOOPBACK conversion without a report of its limiter, from the plane, the element
and the elapsed time of the value (R162, R344; assumption log 165). -/
opaque briefLimit : Nat → Nat → Nat → Bool

/-- Whether the device has read a word of the fuse shadow for itself since the command before, from the word and the elapsed
time (R356; assumption log 159). -/
opaque fuseReadByDevice : Nat → Nat → Bool

/-- Wenpor's JEDEC identity code in IDCODE (R396; assumption log 36). -/
opaque jedecId : BitVec 11

/-- The millivolts of a plane's supply reading, from the plane and the elapsed time: the manual gives the field, and no
command brings a measured voltage (assumption log 47). -/
opaque feedMv : Nat → Nat → Nat

/-- How many lookups see an object twice in the pair table while an insertion relocates entries, from the elapsed time (R20,
R232; assumption log 94). -/
opaque doubleSightings : Nat → Nat

/-- The rate correction a backward slew leaves until the next admitted offset, from the elapsed time, before it is cut to
SLEW_MAX (R266; assumption log 29). -/
opaque slewEndRate : Nat → Int

end Sys2Proof.Config
end

