-- ==== Sys2Proof/Machine/State.lean ====
section
/-!
DEFINITION. The state of one OXG-512 as plain data: every register, table, queue, buffer, counter, mode and land the
manual gives the device, the commands waiting in front of it, and what it has put on its wires. Registers a chapter
defines as views of other state are computed where they are read (Views.lean) and have no field here.
-/

namespace Sys2Proof.Machine

/-- Why the device stops. -/
inductive Fault
  /-- Raised by every command while the life cycle is BLANK or TEST: R379 says that the device's behaviour in those
  states is not specified. Safe: the model stops where the manual says nothing. -/
  | lifecycleUnspecified
  deriving DecidableEq, Repr

/-- Why the model has no meaning for a command. -/
inductive Refusal
  /-- Raised by an arm of exec whose command has no meaning yet. Safe: nothing can be proved of such a step. -/
  | notModelled (mnemonic : String)
  deriving DecidableEq, Repr

/-! ### Fabric, routes and epochs (chapters 02 to 04) -/

/-- The three states of a cell (R23). -/
inductive CellState
  | park
  | bar
  | cross
  deriving DecidableEq, Repr

/-- The request that created a circuit: Table ROUTE-6 and the object words. -/
structure Origin where
  src : Nat
  kind : Nat
  seq : Nat
  srcObj : Option Nat
  dstObj : Option Nat
  deriving DecidableEq, Repr

/-- A circuit, identified by its output port (R3), with input, route code (R47), class (0 SAFETY, 1 SERVICE, 2 BULK) and
pin state (always set for SAFETY, R53). -/
structure Circuit where
  out : Nat
  inp : Nat
  mid : Nat
  cls : Nat
  pin : Bool
  org : Origin
  deriving DecidableEq, Repr

/-- A map: its circuits in ascending order of output. -/
abbrev CMap := List Circuit

/-- What the Cell Table keeps per cell beside the three maps (Tables FAB-4, FAB-7 and FAB-8): WARM as stored and as in force
since the cell entered PARK (R27), its last lit state (R26; true CROSS), and the runs of R36. -/
structure CellRec where
  warm : Bool
  inForce : Bool
  lastLit : Option Bool
  moves : Nat
  parkLit : Bool
  dmap : Bool
  run0 : Nat
  run1 : Nat
  deriving DecidableEq, Repr

/-- A request in the request list (R40). `inp` and `out` are the ports named or resolved; `refused` is 0, or the reason
the latest solve gave (R54). -/
structure Req where
  src : Nat
  seq : Nat
  op : Nat
  inp : Nat
  out : Nat
  cls : Nat
  srcObj : Option Nat
  dstObj : Option Nat
  mid : Nat
  covered : Bool
  based : Bool
  discarded : Bool
  refused : Nat
  counted : Bool
  fellBack : Bool
  deriving DecidableEq, Repr

/-- A solve that runs: 1 SOLVE_INCR or 2 SOLVE_FULL, the order that asked for it (none: part of a PREPARE or commit,
R46), when it started in device time (Table ROUTE-21), the requests (source, sequence) it newly covers, and the starting map:
the staging map as the command was issued (R51). -/
structure SolveJob where
  kind : Nat
  ord : Option Order
  start : Nat
  fresh : List (Nat × Nat)
  startMap : CMap
  deriving DecidableEq, Repr

/-- A successful SOLVE_FULL of the epoch (R45, R52): the starting map and the base it began from, and the requests (source,
sequence) it covered. -/
structure FullSolve where
  start : CMap
  base : CMap
  reqs : List (Nat × Nat)
  deriving DecidableEq, Repr

/-- The route solver (chapter 03); `fulls` are the SOLVE_FULLs that led from the map the epoch began with to the base, and
`directLoad` is the map that the DIRECT_MAP named by `baseDirect` loaded (R68). -/
structure Bell where
  list : List Req
  base : CMap
  baseDirect : Option (Nat × Nat)
  stg : CMap
  delta : Tbl Nat
  job : Option SolveJob
  log : List Word
  logOvf : Bool
  cellLost : Bool
  first : List (Nat × Nat)
  fulls : List FullSolve
  directLoad : CMap
  deriving DecidableEq, Repr

/-- An epoch command with its argument words (R70). -/
structure EpochCmd where
  op : Nat
  ord : Order
  a0 : Word
  a1 : Word
  a2 : Word
  a3 : Word
  deriving DecidableEq, Repr

/-- A commit order held for the epoch (R69, R76, R77): `op` 1 COMMIT_NOW or 2 COMMIT_AT, T in ns, whether T has been
missed under LATE_POLICY APPLY, and the identical orders that complete with it. -/
structure Held where
  cmd : EpochCmd
  at_ : Nat
  late : Bool
  waiters : List EpochCmd
  deriving DecidableEq, Repr

/-- A PREPARE that runs (R72): its tag, the PREPARE order if it is explicit, the commit order that performs it if it is
implicit, its phase (2 waiting for another solve to end, 1 its own solve running, 0 solved), and the epoch commands held
until it completes. -/
structure PrepJob where
  tag : Nat
  ord : Option EpochCmd
  forCommit : Option EpochCmd
  phase : Nat
  held : List EpochCmd
  deriving DecidableEq, Repr

/-- Epochs (chapter 04). `tagEnd` is the outcome of the latest recorded PREPARE as Table R71 reads it: 0 none, 1 prepared,
2 committed, 3 expired, 4 discarded, 5 ZERO, 6 REFUSED. -/
structure EpochSt where
  act : Nat
  committed : Bool
  active : CMap
  prep : Option CMap
  leaseEnd : Nat
  job : Option PrepJob
  held : Option Held
  prepRes : Nat
  tag : Nat
  tagEnd : Nat
  lastOut : Nat
  lastEpoch : Nat
  clog : List (Word × Word)
  clogOvf : Bool
  changed : Tbl Nat
  restoring : Bool
  deferred : Bool
  deriving DecidableEq, Repr

/-! ### Events, links and the chain (chapters 14 and 15) -/

/-- An event record (Table EHR-4). `time` is the device time-stamp in units of 2^-16 ns; `plane` is the plane of a
SHARED_FAULT, which no word of it tells and its place in the queue depends on (R324, R352), and 0 in any other. -/
structure Event where
  code : Nat
  src : Nat
  seq : Nat
  epoch : Nat
  time : Nat
  payload : List Word
  plane : Nat
  deriving DecidableEq, Repr

/-- An event that its page withholds because its cause bit is set already (R317): the device time of its happening, the
page and the bit, and the event's code and payload. -/
structure Withheld where
  time : Nat
  page : Nat
  bit : Nat
  code : Nat
  payload : List Word
  deriving DecidableEq, Repr

/-- The states of the output lands (Table PKG-5): levels, released open-drain lands high; `none` is high-impedance. TDO is so
outside a shift under IEEE 1149.1, and what a scan shifts out stands among the sent items (R396). -/
structure LandStates where
  safeStat : Bool
  thermTrip : Bool
  ppsOut : Option Bool
  nint : Bool
  nfault : Bool
  tdo : Option Bool
  deriving DecidableEq, Repr

/-- What a scan of the test access port delivers on TDO (R396): the device identification, least significant bit first; the
bit that BYPASS captures; or the captured lands, in the order of the boundary-scan description file. -/
inductive TdoData
  | idcode (word : Word)
  | bypass (bit : Bool)
  | boundary (ins : InLands) (outs : LandStates)
  deriving DecidableEq, Repr

/-- What the device has put on a wire: a link frame on a port, a frame passed on to a port with its destination as received,
a frame on a supervisory lane with the instant its first octet left, a level change of PPS_OUT, or a scan's bits on TDO. -/
inductive Tx
  | link (port : Port) (op : BitVec 4) (dst : BitVec 48) (frame : LinkFrame)
  | forward (port : Port) (op : BitVec 4) (frame : LinkFrame)
  | lane (i : Nat) (time : Nat) (octets : List Byte)
  | pps (level : Bool) (time : Nat)
  | tdo (data : TdoData)
  deriving DecidableEq, Repr

/-- A request of a port that is outstanding (R289): its transaction ID and which COMMAND it waits for, or none while it
waits for its turn under STRICT (R290). -/
structure Outstanding where
  tid : BitVec 12
  op : BitVec 4
  deriving DecidableEq, Repr

/-- What waits at a port under STRICT (R290): a request that is not issued yet, or one that was turned away and whose answer,
of the given code, waits until its turn. -/
structure Waiter where
  op : BitVec 4
  frame : LinkFrame
  code : Option Nat
  deriving DecidableEq, Repr

/-- One latched multi-word snapshot (R315) or one staged word (R316), by address of the upper word. -/
structure Latched where
  addr : Nat
  value : Word
  deriving DecidableEq, Repr

/-- One Ehreri port (chapter 14): what R277 watches, the instant since when all of it has held, LINK, requests outstanding
and those that wait under STRICT (R289, R290), the next sequence of the device's own, the 48-bit counters (R303), a frame
being reassembled (R284), snapshots and staging (R315, R316), and frames passed on that its loopback returns (R303). -/
structure LinkPort where
  blockLock : Bool
  fecAlign : Bool
  hiBer : Bool
  since : Option Nat
  link : Bool
  out : List Outstanding
  waiting : List Waiter
  txSeq : Nat
  fecCorr : Nat
  rxTrans : Nat
  txTrans : Nat
  asm : List Word
  asmOpen : Bool
  snap : List Latched
  staged : List Latched
  looped : List (BitVec 4 × LinkFrame)
  deriving DecidableEq, Repr

/-- The chain address and the event queue (R286, R296), and the events withheld at the present device time (R317). -/
structure Chain where
  enumerated : Bool
  addr : Nat
  ring : Bool
  count : Nat
  queue : List Event
  dropped : Nat
  withheld : List Withheld
  deriving DecidableEq, Repr

/-! ### Clocks -/

/-- The elapsed-time counter, in units of 2^-16 ns, and device time, held exactly in units of 2^-32 × 10^-9 ns so that the
servo's rate, in units of 2^-16 ppb, loses nothing (R257, R264). -/
structure Clock where
  elapsed : Nat
  fine : Nat
  rate : Int
  deriving DecidableEq, Repr
/-! ### Elements, loops, transitions and drive (chapters 05, 06, 08) -/

/-- The state of an element's loop (Table LOOP-3); HOLD and FAULT carry their cause (Table LOOP-7). -/
inductive ElSt
  | off
  | parked
  | ramp
  | kick
  | settle
  | lock
  | hold (cause : Nat)
  | fault (cause : Nat)
  deriving DecidableEq, Repr

/-- What an element in HOLD is driven at (Table LOOP-3): its held loop code, its clear code, or its blanking code. -/
inductive HoldDrive
  | loop
  | clear
  | blank
  deriving DecidableEq, Repr

/-- One element as both planes share it: the Element Table fields, its last code in LOCK (R26), the kick in force with
the code it is kicked from, its kick code, its target and the instant it ends (R94), what a written value has yet to reach
at the next tick (R127): a TARGET written since the latest tick, and the dither amplitude and clear code in force, and
whether a CLEAR_FAULT has left RAMP to be judged for a short at the next update (R126). `none` stands for the value the
element's type and fuse word give (Table LOOP-2, R127). -/
structure Elem where
  st : ElSt
  held : HoldDrive
  hh : Bool
  deadline : Bool
  limit : Bool
  bal : Bool
  dark : Bool
  band : Nat
  lkxV : Bool
  lkbV : Bool
  lockX : Nat
  lockB : Nat
  lastLock : Option Nat
  step : Option Nat
  width : Option Nat
  per : Option Nat
  amp : Option Nat
  judge : Option Nat
  target : Nat
  clear : Option Nat
  metric : Int
  dlCnt : Word
  kickCode : Nat
  kickTo : Nat
  kickFrom : Nat
  kickEnd : Nat
  wrote : Bool
  ampNow : Option Nat
  clearNow : Option Nat
  recheck : Bool
  deriving DecidableEq, Repr

/-- The copy of one channel's sums and counts a loop took at its latest complete update (R115). -/
structure Copy where
  sumP : Nat
  cntP : Nat
  sumM : Nat
  cntM : Nat
  deriving DecidableEq, Repr

/-- The loop of one element on one plane: loop code (none: the reset clear code, Table LOOP-11), search direction and
judgement (R119), set-point (R123; VOA in 1/16 dBm), VOA target in force, window copies, the latest complete window's means
and its instant (R114), the runs the rules count, whether the latest complete update was in band, the divergence run
(R187), the instant of the latest update (R347), and a recorded DAC code (R181): on a fenced holder the one its hold cell
recorded, while nothing has changed the element since; on a new holder the one it drives until its next update. -/
structure Lp where
  code : Option Nat
  down : Bool
  pend : Nat
  dStep : Nat
  sp : Option Int
  tgt : Nat
  w0 : Copy
  w1 : Copy
  u0 : Nat
  u1 : Nat
  uAt : Option Nat
  run : Nat
  miss : Nat
  rail : Nat
  wasIn : Bool
  div : Nat
  dac : Option Nat
  upAt : Option Nat
  deriving DecidableEq, Repr

/-- What abandoned a transition (R107, R108): 0 nothing, 1 SAFE_HOLD, 2 NCLR, 3 PLANES. -/
abbrev Abandon := Nat

/-- The transition sequencer (chapter 05). A circuit waiting to settle is an output with its settle set (R98). -/
structure Trans where
  /-- A transition runs in the sense of R79, and how it was abandoned, if it was. -/
  running : Bool
  abandon : Abandon
  epoch : Nat
  /-- Commit instant in elapsed time, from which the settle timeout runs (or from the recovery, R108), and in device time. -/
  start : Nat
  startNow : Nat
  /-- SHEEP.SETTLE.PER and M, SETTLE_BAND, SETTLE_TO and the throttle F, N as sampled at the commit instant (R105, R111). -/
  per : Nat
  m : Nat
  band : Nat
  to_ : Nat
  f : Nat
  n : Nat
  /-- Affected circuits of the committed map neither unblanked nor timed out (R102), with their settle sets. -/
  waiting : List (Nat × List Nat)
  /-- Affected outputs of this transition. -/
  mine : List Nat
  /-- The UNSETTLED circuits (R103), with their settle sets. -/
  unsettled : List (Nat × List Nat)
  /-- By output, the epoch of the latest transition that affected it, which its events carry (R111). -/
  epochs : Tbl Nat
  /-- SHEEP.CFG as sampled at the commit instant (R111): DONE_EVT and ARRIVAL_EN. -/
  doneEvt : Bool
  arrEn : Bool
  /-- Until wave 1 begins: when it does in elapsed time, and the map before the commit (Table TRANS-2, step 3). -/
  waveAt : Option Nat
  before : CMap
  /-- Cells on the path of a SAFETY circuit in either map (R94, R97). -/
  safe : List Nat
  /-- Kicked elements that have settled. -/
  settled : List Nat
  /-- Affected outputs and inputs the sequencer keeps blanked (Table TRANS-7). -/
  blankOut : List Nat
  blankIn : List Nat
  /-- Elements in KICK, and the waves to come (R97). -/
  kicking : List Nat
  waves : List (List Nat)
  /-- Source elements with their code at the commit instant, and the compensated elements (R87, R96). -/
  sources : List (Nat × Nat)
  comp : List Nat
  /-- Whether clear has ended since a transition was abandoned under R108. -/
  recovered : Bool
  /-- Counts for SHEEP.LAST_MOVE, LAST_PORTS and LAST_WAVES. -/
  nKicked : Nat
  nParking : Nat
  nOut : Nat
  nIn : Nat
  nWaves : Nat
  /-- Arrival entries that hold a value, by output (R104), and outputs whose arrival injection is due, with its instant. -/
  arrival : Tbl Nat
  arrivalDue : List (Nat × Nat)
  /-- The tiles of whose kicked elements the first has been handed over (R99). -/
  held : List Nat
  deriving DecidableEq, Repr

/-- The sine generators of a tile, common to both planes (R168): phase at a tick and the frequency word from there on, and
the same three before the latest SYNC or write of the frequency word (R170), for instants before that tick. Tick n is n × 50
ns of the elapsed-time counter. -/
structure Sine where
  phase : Nat
  tick : Nat
  fw : Nat
  phase0 : Nat
  tick0 : Nat
  fw0 : Nat
  deriving DecidableEq, Repr

/-- A deglitch hold (R161): the element, the code whose current is held, and when the hold began. -/
structure Hold where
  elem : Nat
  code : Nat
  since : Nat
  deriving DecidableEq, Repr

/-- An output VOA that waits in step 4 of R166: the cause of its HOLD, the circuit's release instant once it has come,
whether it has timed out, and the in-band runs of the SW elements of its path since then. -/
structure Relight where
  out : Nat
  releaseAt : Option Nat
  timedOut : Bool
  runs : Tbl Nat
  deriving DecidableEq, Repr

/-- Element drive (chapter 08): recognised nCLR level, clear in force, the silent start-up clear (R173), hold cells at their
power-up preset (R167), SC flags by plane, the deglitch holds with the elements and dither ticks that fell into one, the sine
generators, the tiles whose TR elements begin a fresh window at a tick to come (R170), tile ranges set, the VOAs held back
at an exit with the instant of step 3, and until when the presets are held as the first holder's switches close (R161, R167). -/
structure Drive where
  nclrLow : Bool
  clearing : Bool
  silent : Bool
  preset : Bool
  scA : List Nat
  scB : List Nat
  holds : List Hold
  passed : List (Nat × Nat)
  sines : Tbl Sine
  freshAt : List (Nat × Nat)
  ranges : Tbl (Option Bool)
  inWait : List (Nat × Nat)
  relight : List Relight
  presetTill : Nat
  deriving DecidableEq, Repr

/-! ### Tracing (chapter 06) -/

/-- One trace channel (R128 to R132): state 0 IDLE, 1 ARMED, 2 TRIGGERED, 3 DONE. -/
structure TraceCh where
  st : Nat
  wrap : Bool
  trigIdx : Nat
  wrIdx : Nat
  trigNs : Nat
  left : Nat
  seq : Nat
  fire : Bool
  deriving DecidableEq, Repr

/-! ### Conversion (chapter 07) -/

/-- The loop accumulator of one channel on one plane (R144). -/
structure Acc where
  sumP : Nat
  cntP : Nat
  sumM : Nat
  cntM : Nat
  deriving DecidableEq, Repr

/-- The host long accumulator and trackers of one channel on one plane (R146). -/
structure HAcc where
  sum : Nat
  cnt : Nat
  sat : Bool
  min : Option Int
  max : Option Int
  deriving DecidableEq, Repr

/-- What the Tile Table keeps of a tile beside its reset record (Table CONV-5): `corr` lists correction words (OFS, GF) by
8 × plane + 4n + g where a SELF_CAL has stored them. -/
structure TileRec where
  mode : Bool
  len : Nat
  seq : Tbl (Option Word)
  corr : Tbl (Option (Int × Int))
  dropA : Word
  dropB : Word
  ringA : Int
  ringB : Int
  ovl : Bool
  cfailA : Bool
  cfailB : Bool
  deriving DecidableEq, Repr

/-- An injected conversion (R147, R148): requester 1 transition sequencer, 2 self-test, 3 host; channel, acquisition and
gain codes; the output an arrival check is for; and when it was requested. -/
structure Inj where
  who : Nat
  chan : Nat
  acq : Nat
  gain : Nat
  out : Nat
  at_ : Nat
  deriving DecidableEq, Repr

/-- The converter pair of one tile on one plane: the sequence values in force for the running pass (none: as the Tile
Table record holds them), the entry in turn, settle rounds (R140) with the served cells and the step within the round, the
conversion in progress that was injected, the queue of two, when the slot in progress began, and the mode that a host write
replaced in the record while the sequencer holds the tile (R99, R138), and whether the running pass has served a conversion
of an active-plane slice (R345). -/
structure Pair where
  pass : Option (Bool × List Word)
  ptr : Nat
  rounds : Bool
  served : List Nat
  pos : Nat
  cur : Option Inj
  queue : List Inj
  slotAt : Nat
  heldMode : Option Bool
  bistPass : Bool
  deriving DecidableEq, Repr

/-- A running INJECT (R150): its order, tile, plane, request, how many are still to be issued, delivered, and whether one
was dropped. -/
structure InjJob where
  ord : Order
  tile : Nat
  plane : Plane
  inj : Inj
  left : Nat
  delivered : Nat
  dropped : Bool
  deriving DecidableEq, Repr

/-- An open host window (R146): first tile of the range, the tiles whose window is still open, its opening and its end. -/
structure HWin where
  first : Nat
  tiles : List Nat
  openAt : Nat
  endAt : Nat
  deriving DecidableEq, Repr

/-- Conversion (chapter 07): the open host window, whether the latest has closed and whether a channel saturated in it, the
running INJECT, the order of a SELF_CAL the host asked for with its plane, the CAL_STAT states (1 while a SELF_CAL of the
plane runs) with the lowest failing tile, when the latest SELF_CAL of each plane was accepted, and whether and when conversion
has started on a plane (R154). -/
structure ConvSt where
  win : Option HWin
  winDone : Bool
  winSat : Bool
  inject : Option InjJob
  cal : Option (Plane × Order)
  calA : Nat
  calB : Nat
  atA : Nat
  atB : Nat
  failTile : Option Nat
  runA : Bool
  runB : Bool
  beganA : Nat
  beganB : Nat
  deriving DecidableEq, Repr

/-! ### Drive planes, token and safe-hold (chapter 09) -/

/-- Plane states (Table PLANE-2). -/
inductive PlaneSt
  | off
  | start
  | standby
  | active
  | fenced
  | failed
  | cleardrv
  deriving DecidableEq, Repr

/-- One drive plane: state, cause of its latest FAILED or OFF entry, feed validity and power (Table PLANE-20), the sticky
defects of Table PLANE-7, regulators outside ±3 % and ±6 %, heartbeats missed and received in a row, whether it has
declared heartbeat failure, its pending token request, a PLANE_RESTART in progress, and whether a PLANE_RESTART has withdrawn
its clear grant in the present loss of both planes (R186), and whether its timing rings have been calibrated since it entered
START (R191). -/
structure PlaneRec where
  st : PlaneSt
  cause : Nat
  valid : Bool
  pg : Bool
  bistFail : Bool
  sc : Bool
  mismatchLost : Bool
  calFail : Bool
  ring : Bool
  warn : List Nat
  fail : List Nat
  misses : Nat
  beats : Nat
  hbFail : Bool
  request : Bool
  alive : Nat
  restart : Option Order
  noClear : Bool
  rung : Bool
  deriving DecidableEq, Repr

/-- What a hold cell records of an element at a fence (R181): the DAC input code and the loop code; and the code whose current
it holds, which a deglitch hold of that instant keeps from the DAC's (R161). -/
structure HoldRec where
  elem : Nat
  dac : Nat
  code : Nat
  out : Nat
  deriving DecidableEq, Repr

/-- The token cell (R177 to R186): holder, passage, free; the instant and cause of the latest fence and the plane fenced;
the renewals' lease end and latest renewal; whether any grant has been made since reset; the latest handover; the peer
link, and whether PEER_LINK_DOWN has been raised (R183); the codes the hold cells recorded; whether a handover after a lost
mismatch waits (R188, R190). -/
structure TokenSt where
  holder : Option Plane
  free : Bool
  fenceAt : Option Nat
  fenceCause : Nat
  old : Option Plane
  leaseEnd : Nat
  renewed : Nat
  granted : Bool
  hoCause : Nat
  hoGap : Nat
  hoAt : Option Nat
  peerUp : Bool
  linkDown : Bool
  codes : List HoldRec
  mismatchWait : Bool
  deriving DecidableEq, Repr

/-- Safe-hold (R196 to R199): in force, the causes standing, and those present at the latest entry. -/
structure SafeSt where
  active : Bool
  pin : Bool
  host : Bool
  unhealthy : Bool
  bist : Bool
  first : Nat
  deriving DecidableEq, Repr

/-! ### Temperature and power (chapter 16) -/

/-- Temperature and power (R326 to R341): active levels and their counts of consecutive samples, sensor fault with its
runs, the cool run of a restart, the latest valid samples (newest first), the rate-of-rise condition with its runs, latest
RISE, temperature and peak in 1/16 °C, THERM_TRIP and what outlasts a reset, the style with F and N, the power limit with
the instant its steps count from, power readings, and the marked BULK circuits. -/
structure ThermSt where
  warn : Bool
  thr : Bool
  shut : Bool
  wUp : Nat
  wDn : Nat
  tUp : Nat
  tDn : Nat
  sUp : Nat
  sfault : Bool
  bad : Nat
  good : Nat
  cool : Nat
  samples : List Int
  rate : Bool
  rUp : Nat
  rDn : Nat
  rise : Int
  temp : Int
  peak : Int
  tripped : Bool
  trip : Bool
  restarted : Bool
  large : Bool
  f : Nat
  n : Nat
  limit : Nat
  low : Bool
  limitAt : Nat
  now : Nat
  heater : Nat
  marks : List Nat
  skip : Bool
  short : Bool
  deriving DecidableEq, Repr

/-! ### Start-up, journal and life cycle (chapter 18) -/

/-- Start-up (R364 to R371) and life cycle (R379, R380): DEV.STATE, the reset in force with
the beginning of one that lasts 10 µs, the recognised nRESET level,
RESET_CAUSE, the steps of Table START-2 that are done, the restored outputs and the instant loop lock began, START_NS, the
life-cycle bits and marker cells programmed, the port armed with the end of the arming, a RETURN in progress with the elapsed
time it began at, whether neither feed is valid, and whether a plane has passed START since the reset (R353). -/
structure DevSt where
  state : Nat
  inReset : Option Nat
  softFrom : Option Nat
  nresetLow : Bool
  cause : Nat
  pageV : Bool
  page : Nat
  fuseOk : Option Bool
  wiped : Bool
  lasers : Bool
  restoreWait : Bool
  restoreDone : Bool
  restored : List Nat
  lockAt : Option Nat
  lockDone : Bool
  startNs : Nat
  lifeBits : Nat
  marker : Nat
  armed : Option (Port × Nat)
  returning : Bool
  returnAt : Nat
  unpowered : Bool
  passed : Bool
  deriving DecidableEq, Repr

/-- A journal record that runs (R373): its sequence, slot, epoch and the map it captured. -/
structure Rec where
  seq : Nat
  slot : Nat
  epoch : Nat
  map : CMap
  deriving DecidableEq, Repr

/-- The journal's volatile side (R372 to R378, R383): the map of the latest record, a record that runs, when the previous
one started, the highest RSEQ, the RECORD orders that wait with the map each asked for, a WIPE that runs with its order, a
restore's outcome, and the word count. -/
structure JrnlSt where
  last : CMap
  rec_ : Option Rec
  startAt : Option Nat
  rmax : Nat
  orders : List (Order × CMap)
  wiping : Bool
  wipeOrd : Option Order
  v0 : Bool
  v1 : Bool
  newest : Nat
  torn : Bool
  restored : Nat
  slotEpoch : Nat
  writes : Nat
  deriving DecidableEq, Repr

/-! ### Supervisory plane (chapters 10 and 12) -/

/-- One lane (R205, R206): since when it is synchronised without a /C/ ordered set, LINK, loss of signal, receive power. -/
structure Lane where
  sync : Option Nat
  link : Bool
  los : Bool
  power : Nat
  deriving DecidableEq, Repr

/-- What the time block does with a frame as it leaves (R262): nothing; add the residence time, with the peer delay of the
ingress lane; note the residence time of a two-step Sync for its Follow_Up; add what was noted; or stamp the time of
transmission of a message of the device's own (R260), of sequence `seq` of its port. -/
inductive Stamp
  | none
  | residence (extra : Int)
  | twoStep (extra : Int)
  | followUp
  | origin
  | note
  deriving DecidableEq, Repr

/-- A frame copy on its way to a lane (R211, R241): admission instant on the elapsed-time counter, ingress time-stamp in
device time, ingress lane (512: host; 513: the device), queue, whether safe-hold keeps it (R217), the FRAME transaction it
came from, its octets without the FCS, and what the time block does as it leaves. -/
structure QFrame where
  entry : Nat
  time : Nat
  src : Nat
  queue : Nat
  keep : Bool
  host : Option Nat
  octets : List Byte
  stamp : Stamp
  deriving DecidableEq, Repr

/-- One lane's egress (R241 to R244, R249): copies awaiting admission, frames queued in order of admission, the frame in
transmission with its start, whether it has been counted as an overrun, and the instant from which the transmitter is idle
again. -/
structure Egress where
  waiting : List QFrame
  queued : List QFrame
  tx : Option (QFrame × Nat)
  late : Bool
  free : Nat
  deriving DecidableEq, Repr

/-- A frame in the host queue (R215). -/
structure HostFrame where
  lane : Nat
  time : Nat
  keep : Bool
  octets : List Byte
  deriving DecidableEq, Repr

/-- A FRAME transaction whose copies are not all admitted (R216, R242): its number, how it answers, copies left, and
the code of one that was not queued. -/
structure HostTx where
  num : Nat
  port : Port
  reply : Reply
  seq : BitVec 16
  left : Nat
  code : Nat
  deriving DecidableEq, Repr

/-- A frame received that has yet to act in its place among those of its time-stamp (R212, R224): its instant on the
elapsed-time counter, its ingress time-stamp and its lane. -/
structure Arrival where
  at_ : Nat
  time : Nat
  lane : Nat
  octets : List Byte
  deriving DecidableEq, Repr

/-- The supervisory plane: lanes, failed lasers, a RETRY that runs with its laser and its start on the elapsed-time counter,
the host queue, FRAME transactions that wait, and the number of the next one; frames looped back with the instant of elapsed
time their SFD returns at and their lane; and the frames received that have yet to act, by time-stamp and lane (R212, R224). -/
structure OscSt where
  lanes : Tbl Lane
  failed : List Nat
  retry : Option (Order × Nat × Nat)
  hostq : List HostFrame
  waiting : List HostTx
  next : Nat
  loops : List (Nat × Nat × List Byte)
  arrived : List Arrival
  deriving DecidableEq, Repr

/-! ### Egress scheduling (chapter 12) -/

/-- A shaper or policer (R245 to R247, Table SCHED-3): its two words, the bucket in 10^-6 octet, the instant it was updated
in ns of the elapsed-time counter, and its drop counter. -/
structure Bucket where
  shp : Word
  burst : Word
  tokens : Int
  last : Nat
  drop : Word
  deriving DecidableEq, Repr

/-- The banks of a lane (R248, R250): the active bank, the take-over instant of the pending bank if one is pending, the
instant of the latest take-over (both ns of device time). -/
structure Gate where
  act : Bool
  pend : Option Nat
  at_ : Nat
  deriving DecidableEq, Repr

/-- Egress scheduling: lanes' egress, buckets (11 × lane + queue, 11 × lane + 8 + class, the host's at 5632), gates, and
the applies whose lanes have not all taken over (first lane, lanes left). -/
structure SchedSt where
  egress : Tbl Egress
  buckets : Tbl Bucket
  gates : Tbl Gate
  applies : List (Nat × List Nat)
  deriving DecidableEq, Repr
/-! ### Object Table (chapter 11) -/

/-- A valid Object Table entry (Tables OBJ-1 and OBJ-2); the slot of a dual entry is its place in the pair table. -/
structure ObjEntry where
  static_ : Bool
  hit : Bool
  age : Bool
  dual : Option Nat
  dualOk : Bool
  lane : Nat
  cls : Nat
  lastT : Nat
  deriving DecidableEq, Repr

/-- An occupied pair table slot (Table OBJ-4). -/
structure PairEntry where
  s1 : Bool
  ver : Nat
  obj : Nat
  lane1 : Nat
  lane0 : Nat
  deriving DecidableEq, Repr

/-- The sweep (R233): start of the interval in ns of device time, the interval in force in s, the next entry. -/
structure Sweep where
  start : Nat
  interval : Nat
  pos : Nat
  deriving DecidableEq, Repr

/-- The Object Table, pair table, static word of each static object (R375), learn counters by 3 × lane + kind, the sweep,
intervals completed, the running FLUSH_LANE with its lane and number removed, and whether table and restore are ready
(R240). -/
structure ObjSt where
  objs : Tbl (Option ObjEntry)
  pairs : Tbl (Option PairEntry)
  words : Tbl (Option Nat)
  cnts : Tbl Word
  sweep : Option Sweep
  sweeps : Nat
  flush : Option (Order × Nat)
  ready : Bool
  deriving DecidableEq, Repr
/-! ### Network time (chapter 13) -/

/-- The servo (R263 to R266): state of Table TIME-3, integ, causes JUMP, PATH_STEP, NO_MASTER, TREF and NO_PPS standing,
consecutive offsets below LOCK_NS, a jump candidate's sign (true: device ahead), the recorded jump, consecutive offsets
within STEP_LIMIT while it stands, the backward slew's remaining amount at an elapsed instant, SET, whether it has been
LOCKED since reset, and the latest offset (units of 2^-16 ns). -/
structure Servo where
  state : Nat
  integ : Int
  jump : Option Int
  path : Bool
  noMaster : Bool
  tref : Bool
  noPps : Bool
  locks : Nat
  cand : Option Bool
  within : Nat
  slew : Option Int
  slewAt : Nat
  set : Bool
  everLocked : Bool
  offset : Int
  deriving DecidableEq, Repr

/-- Path delay on the slave port (R268, R269), units of 2^-16 ns: filtered mean D, whether the latest exchange was an
outlier and its sign, sum and number of the raw values since the path step, the latest of them, at most 16, and whether
offsets wait for an exchange. -/
structure PathSt where
  d : Int
  out : Option Bool
  sum : Int
  num : Nat
  latest : List Int
  suspended : Bool
  deriving DecidableEq, Repr

/-- What an Announce tells of a master (R259): the best master clock algorithm's data set, most significant first, with
identities of the grandmaster and of the sending port, steps removed, and when it and the Announce before it came; the
domain it was heard in; and the time properties, currentUtcOffset, the flags of octet 7 and timeSource. -/
structure Foreign where
  prio1 : Nat
  qual : Nat
  prio2 : Nat
  gm : Nat
  steps : Nat
  sender : Nat
  prev : Option Nat
  at_ : Nat
  domain : Nat
  utc : Nat
  flags : Nat
  source : Nat
  deriving DecidableEq, Repr

/-- A Sync that awaits its Follow_Up (R262): sequenceId and sourcePortIdentity, its residence by egress lane, its own
correction and ingress time-stamp (for the slave port), and whether the Follow_Up has come. -/
structure PendSync where
  seq : Nat
  ident : Nat
  res : Tbl Int
  corr : Int
  time : Nat
  matched : Bool
  deriving DecidableEq, Repr

/-- One lane's PTP port (R260, R268): Syncs awaiting their Follow_Up, the foreign masters heard, sequences of the messages
sent (Announce, Sync, Delay_Req, Pdelay_Req), the egress stamp of the latest Delay_Req or Pdelay_Req, the peer delay, the
latest Sync's origin and arrival (t1, t2) and a two-step Pdelay_Resp waiting (t4 − correction, t2, sequence). -/
structure PtpPort where
  syncs : List PendSync
  masters : List Foreign
  seqs : Tbl Nat
  t3 : Option (Nat × Int)
  peer : Int
  sync : Option (Int × Int)
  resp : Option (Nat × Int × Int)
  deriving DecidableEq, Repr

/-- Network time (chapter 13): servo, path delay, PTP ports, slave lane, the master port it follows and whether it is
calibrated, grandmaster and its quality, TREF present, its frequency and its latest loss (elapsed), PPS: the latest accepted
edge (elapsed ns), its stamp and error, the level of PPS_OUT with the start of the pulse and the second it belongs to; and the
latest step instant in 2^-16 ns of device time. -/
structure TimeSt where
  servo : Servo
  path : PathSt
  ports : Tbl PtpPort
  slave : Option Nat
  parent : Nat
  gm : Nat
  gmQual : Nat
  cal : Bool
  trefOk : Bool
  f25 : Bool
  lossAt : Nat
  edge : Option Nat
  stamp : Nat
  err : Int
  missAt : Nat
  ppsOut : Bool
  ppsAt : Nat
  ppsSec : Option Nat
  lastStep : Nat
  resMax : Nat
  deriving DecidableEq, Repr
/-! ### Self-test, fuses and test access (chapters 17 and 19) -/

/-- A LOOPBACK value of a slice (R344): the slot whose check it belongs to, its gain, the value of R142, and whether the DAC
was limited in the conversion (R162). -/
structure LoopVal where
  slot : Nat
  gain : Nat
  value : Int
  lim : Bool
  deriving DecidableEq, Repr

/-- One plane's self-test (R342 to R353): type and next tile of the current run, its signature register, whether a slice of
it aborted or failed, repeats in START, consecutive INCOMPLETE runs in all and by type, the slice that runs with type, tile,
budget in µs and start, the end of the previous slice, by tile + 608 × (type − 2) the slots that passed in the latest
DARK or HEATER slice, the values the running slice's conversions have delivered (channel, gain, corrected value, oldest first)
and what it saved: sequence position and mode of its pair (R345), how many of the four runs of START have ended with PASS
(R353), the LOOPBACK values of the running slice, the slot whose check is or was the latest to be taken through LOOPBACK, and
whether a limiter has reported in it (R162, R344). -/
structure BistPlane where
  ty : Nat
  tile : Nat
  crc : BitVec 32
  aborted : Bool
  failed : Bool
  reps : Nat
  starve : Nat
  starves : Tbl Nat
  slice : Option (Nat × Nat × Nat × Nat)
  endAt : Option Nat
  results : Tbl (Option (List Nat))
  got : List (Nat × Nat × Int)
  saved : Option (Nat × Bool)
  started : Nat
  loops : List LoopVal
  turn : Option Nat
  lim : Bool
  deriving DecidableEq, Repr

/-- A RUN (R355): its order, its plane, the types of the runs to come with the current one first, whether a run has failed,
and whether one was INCOMPLETE. -/
structure BistJob where
  ord : Order
  pl : Plane
  runs : List Nat
  failed : Bool
  incomplete : Bool
  deriving DecidableEq, Repr

/-- Self-test of both planes, the RUN that runs, and what the fuse shadow's checks found (R356). -/
structure BistSt where
  a : BistPlane
  b : BistPlane
  job : Option BistJob
  uncorrRun : Bool
  nCorr : Nat
  deriving DecidableEq, Repr


/-- Instructions of the test access port (R396). -/
inductive TapIr
  | bypass
  | idcode
  | sample
  | extest
  deriving DecidableEq, Repr

/-- The test access port (R396): instruction, and the boundary register by land: the input and output levels of the latest
scan, and the output levels last shifted in. -/
structure Tap where
  ir : TapIr
  ins : InLands
  outs : LandStates
  drive : OutLands
  deriving DecidableEq, Repr

/-! ### The device -/

/-- The state of the device. -/
structure State where
  /-- Registers and table windows that hold what was written or recorded, by device-local address (chapter 15); an unlisted
  one reads as its reset value. -/
  regs : Tbl Word
  /-- Trace memory, gate control lists and journal, by device-local address (R307). -/
  mem : List Host.Cell
  /-- Programmed values of the fuse array the model is told (log 2). -/
  fuse : Tbl Byte
  /-- Shadow words whose SECDED code presently shows an error, and whether a reload finds them uncorrectable (R356). -/
  fuseUpset : List (Nat × Bool)
  /-- By address of a counter, an INT_CAUSE word or a record of a latest happening: the device time of its latest happening,
  and how many, which bits, or with which key at that time (R314, R317, R324). -/
  stamps : Tbl (Nat × Nat)
  /-- Longest grant wait in ns at each target of the matrix since it was last read (Table EHR-8). -/
  waits : Tbl Nat
  /-- Elapsed and device time. -/
  clock : Clock
  /-- Cell Table (R35). -/
  cells : Tbl CellRec
  /-- Route solver. -/
  bell : Bell
  /-- Epochs. -/
  epoch : EpochSt
  /-- Element Table, by element index. -/
  elems : Tbl Elem
  /-- Loops of both planes, by element index + 9728 × plane. -/
  lps : Tbl Lp
  /-- Transition sequencer. -/
  trans : Trans
  /-- Element drive. -/
  drv : Drive
  /-- Trace channels. -/
  traces : Tbl TraceCh
  /-- Tile Table. -/
  tiles : Tbl TileRec
  /-- Loop accumulators, by 12160 × plane + 20 × tile + channel. -/
  accs : Tbl Acc
  /-- Host long accumulators, by the same index. -/
  haccs : Tbl HAcc
  /-- Converter pairs, by tile + 608 × plane. -/
  pairs : Tbl Pair
  /-- Conversion. -/
  conv : ConvSt
  /-- Plane A. -/
  pla : PlaneRec
  /-- Plane B. -/
  plb : PlaneRec
  /-- Token cell. -/
  token : TokenSt
  /-- Safe-hold. -/
  safe : SafeSt
  /-- Temperature and power. -/
  therm : ThermSt
  /-- Supervisory plane. -/
  osc : OscSt
  /-- Egress scheduling. -/
  sched : SchedSt
  /-- Object Table and pair table. -/
  obj : ObjSt
  /-- Network time. -/
  time : TimeSt
  /-- Start-up and life cycle. -/
  dev : DevSt
  /-- Journal. -/
  jrnl : JrnlSt
  /-- Self-test and fuse checks. -/
  bist : BistSt
  /-- Test access port (R396). -/
  tap : Tap
  /-- Port E0. -/
  e0 : LinkPort
  /-- Port E1. -/
  e1 : LinkPort
  /-- Chain address and event queue. -/
  chain : Chain
  /-- nINT asserted (R317). -/
  nint : Bool
  /-- What the device has put on its wires, oldest first (the model's own record). -/
  sent : List Tx
  /-- Commands waiting, first in first out (the model's own queue). -/
  pending : List Instr
  deriving DecidableEq, Repr

/-- The device right after reset, as the manual gives it (R38, R60, R86, R109, R306, R325, R364 and the start-up
sections of the other chapters). -/
def State.reset : State where
  regs := []
  mem := []
  fuse := []
  fuseUpset := []
  stamps := []
  waits := []
  clock := ⟨0, 0, 0⟩
  cells := []
  bell := ⟨[], [], none, [], [], none, [], false, false, [], [], []⟩
  epoch := ⟨0, false, [], none, 0, none, none, 0, 0, 0, 0, 0, [], false, [], false, false⟩
  elems := []
  lps := []
  trans := ⟨false, 0, 0, 0, 0, 2, 3, 21, 20, 256, 4352, [], [], [], [], true, true, none, [], [], [], [], [], [], [], [], [], false,
    0, 0, 0, 0, 0, [], [], []⟩
  drv := ⟨false, true, true, true, [], [], [], [], [], [], [], [], [], 0⟩
  traces := []
  tiles := []
  accs := []
  haccs := []
  pairs := []
  conv := ⟨none, false, false, none, none, 0, 0, 0, 0, none, false, false, 0, 0⟩
  pla := ⟨.start, 0, true, true, false, false, false, false, false, [], [], 0, 0, false, false, 0, none, false, false⟩
  plb := ⟨.start, 0, true, true, false, false, false, false, false, [], [], 0, 0, false, false, 0, none, false, false⟩
  token := ⟨none, false, none, 0, none, 0, 0, false, 0, 0, none, false, false, [], false⟩
  safe := ⟨false, false, false, false, false, 0⟩
  therm := ⟨false, false, false, 0, 0, 0, 0, 0, false, 0, 0, 0, [], false, 0, 0, 0, 0, -32768, false, false, false, false, 256, 4352, 70, false, 0, 0, 0, [], false, false⟩
  osc := ⟨[], [], none, [], [], 0, [], []⟩
  sched := ⟨[], [], [], []⟩
  obj := ⟨[], [], [], [], none, 0, none, false⟩
  time := ⟨⟨0, 0, none, false, false, false, false, 0, none, 0, none, 0, false, false, 0⟩, ⟨0, none, 0, 0, [], false⟩, [], none, 0, 0, 0, false, false, false, 0, none, 0, 0, 0, false, 0,
    none, 0, 0⟩
  dev := ⟨0, none, none, false, 1, false, 0, none, false, false, false, false, [], none, false, 0, 3, 0, none, false, 0, false, false⟩
  jrnl := ⟨[], none, none, 0, [], false, none, false, false, 0, false, 0, 0, 0⟩
  bist := ⟨⟨0, 0, 0xFFFFFFFF, false, false, 0, 0, [], none, none, [], [], none, 0, [], none, false⟩,
    ⟨0, 0, 0xFFFFFFFF, false, false, 0, 0, [], none, none, [], [], none, 0, [], none, false⟩, none, false, 0⟩
  tap := ⟨.idcode, ⟨false, false, false, false, false⟩, ⟨false, false, some false, false, false, none⟩, ⟨false, false, false, false, false⟩⟩
  e0 := ⟨false, false, false, none, false, [], [], 0, 0, 0, 0, [], false, [], [], []⟩
  e1 := ⟨false, false, false, none, false, [], [], 0, 0, 0, 0, [], false, [], [], []⟩
  chain := ⟨false, 0, false, 1, [], 0, []⟩
  nint := false
  sent := []
  pending := []

end Sys2Proof.Machine
end

