-- ==== Sys2Proof/Machine/Fabric.lean ====
section
/-!
DEFINITION. The fabric's wiring and paths (Photonic Fabric R22 to R25, Route Solving R47): which bit each stage acts on,
which cell a line meets, the lines and cells of a circuit, and the cell states a map gives.
-/

namespace Sys2Proof.Machine

/-- The bit stage s acts on (R22). -/
def stageBit (s : Nat) : Nat := if s ≤ 8 then s else 16 - s

/-- The row of the cell that line x meets at stage s (R22). -/
def rowOf (x s : Nat) : Nat := x / 2 ^ (stageBit s + 1) * 2 ^ stageBit s + x % 2 ^ stageBit s

/-- The cell input line x meets at stage s (R22). -/
def sideOf (x s : Nat) : Nat := x / 2 ^ stageBit s % 2

/-- The cell line x meets at stage s (R22). -/
def cellOf (x s : Nat) : Nat := s * 256 + rowOf x s

/-- The value bit d(s) takes after stage s on the path to output o with route code mid (R47). -/
def wantBit (o mid s : Nat) : Nat := if s ≤ 7 then mid / 2 ^ s % 2 else o / 2 ^ stageBit s % 2

/-- The line entering stage s on the path from input i to output o with route code mid (R47); at 17, the output line. -/
def lineAt (i o mid : Nat) : Nat → Nat
  | 0 => i
  | s + 1 => if sideOf (lineAt i o mid s) s = wantBit o mid s then lineAt i o mid s
      else Nat.xor (lineAt i o mid s) (2 ^ stageBit s)

/-- One cell of a path: cell index, input, state. -/
structure Hop where
  cell : Nat
  side : Nat
  state : CellState
  deriving DecidableEq, Repr

/-- The cell and state of a circuit's path at stage s (R47). -/
def hopAt (i o mid s : Nat) : Hop :=
  let x := lineAt i o mid s
  ⟨cellOf x s, sideOf x s, if sideOf x s = wantBit o mid s then .bar else .cross⟩

/-- The 17 cells of a circuit's path (R47). -/
def path (i o mid : Nat) : List Hop := (List.range 17).map (hopAt i o mid)

/-- A circuit's path. -/
def Circuit.path (c : Circuit) : List Hop := Machine.path c.inp c.out c.mid

/-- Do two paths use one line at some stage boundary? Paths that use no common line can always coexist (R47). -/
def shareLine (i o mid i' o' mid' : Nat) : Bool :=
  (List.range 18).any fun s => lineAt i o mid s == lineAt i' o' mid' s

/-- Does a circuit hold a line of the path from i to o with route code mid? -/
def Circuit.meets (c : Circuit) (i o mid : Nat) : Bool := shareLine i o mid c.inp c.out c.mid

/-- The circuit of output q in a map. -/
def CMap.at_ (m : CMap) (q : Nat) : Option Circuit := m.find? fun c => c.out == q

/-- The circuit from input p in a map. -/
def CMap.from_ (m : CMap) (p : Nat) : Option Circuit := m.find? fun c => c.inp == p

/-- A map with a circuit put at its output, replacing what that output carried. -/
def CMap.put (m : CMap) (c : Circuit) : CMap :=
  match m with
  | [] => [c]
  | d :: t => if c.out < d.out then c :: d :: t else if c.out = d.out then c :: t else d :: CMap.put t c

/-- A map without output q (R48: the cells it leaves alone return to PARK, since a cell's state is that of the circuits
through it). -/
def CMap.without (m : CMap) (q : Nat) : CMap := m.filter fun c => c.out != q

/-- The hop of a map's circuits in cell c, if any circuit passes it. -/
def CMap.hopIn (m : CMap) (c : Nat) : Option Hop :=
  m.findSome? fun k => let h := hopAt k.inp k.out k.mid (c / 256); if h.cell = c then some h else none

/-- The state a map gives a cell (R25). -/
def CMap.cell (m : CMap) (c : Nat) : CellState :=
  match m.hopIn c with
  | none => .park
  | some h => h.state

/-- The output whose circuit enters cell c on the given input. -/
def CMap.occ (m : CMap) (c side : Nat) : Option Nat :=
  m.findSome? fun k => let h := hopAt k.inp k.out k.mid (c / 256)
    if h.cell = c ∧ h.side = side then some k.out else none

/-- The lit cells of a map, ascending, without repeats. -/
def CMap.lit (m : CMap) : List Nat := m.foldl (fun acc k => k.path.foldl (fun a h => insN h.cell a) acc) []

/-- The 2-bit code of a cell state (R35). -/
def CellState.code : CellState → Nat
  | .park => 0
  | .bar => 1
  | .cross => 2

/-- The element indices of R4: SW and TR of cell c, input VOA of port p, output VOA of port q. -/
def swOf (c : Nat) : Nat := 2 * c
def trOf (c : Nat) : Nat := 2 * c + 1
def ivoaOf (p : Nat) : Nat := 8704 + p
def ovoaOf (q : Nat) : Nat := 9216 + q

/-- The tile of element or monitor n (R5). -/
def tileOf (n : Nat) : Nat :=
  if n < 8704 then (n / 512 + 1) * 32 + n % 512 / 16
  else if n < 9216 then (n - 8704) / 16
  else 18 * 32 + (n - 9216) / 16

/-- The slot of element or monitor n in its tile (R5). -/
def slotOf (n : Nat) : Nat := n % 16

/-- The element or monitor in a slot of a tile: the inverse of R5. -/
def elemAt (t slot : Nat) : Nat :=
  let col := t / 32
  let k := t % 32
  if col = 0 then 8704 + 16 * k + slot
  else if col = 18 then 9216 + 16 * k + slot
  else (col - 1) * 512 + 16 * k + slot

/-- Same circuit state for a commit: input, route code and class (R55). -/
def Circuit.same (a b : Circuit) : Bool :=
  a.inp == b.inp && a.mid == b.mid && a.cls == b.cls

/-- The category of output q between two maps (R55): 0 unchanged, 1 ADDED, 2 REPLACED, 3 MOVED, 4 CLASS, 5 RELEASED. -/
def category (act stg : CMap) (q : Nat) : Nat :=
  match act.at_ q, stg.at_ q with
  | none, none => 0
  | none, some _ => 1
  | some _, none => 5
  | some a, some b =>
    if a.inp ≠ b.inp then 2 else if a.mid ≠ b.mid then 3 else if a.cls ≠ b.cls then 4 else 0

/-- The outputs of one category. -/
def inCategory (act stg : CMap) (k : Nat) : List Nat :=
  (List.range 512).filter fun q => category act stg q == k

end Sys2Proof.Machine
end

