-- ==== Sys2Proof/Machine/Table.lean ====
section
/-!
DEFINITION. Reading and writing sparse tables, and the addressed memories as lists of (address, byte) cells: both keep
their keys rising and list no entry equal to what an unlisted key reads as.
-/

namespace Sys2Proof.Machine

/-- The value at key k, d giving the value of an unlisted key. -/
def tget {α : Type} (d : Nat → α) : Tbl α → Nat → α
  | [], k => d k
  | (j, v) :: t, k => if k = j then v else if k < j then d k else tget d t k

/-- The entries above key k. -/
def tdrop {α : Type} : Tbl α → Nat → Tbl α
  | [], _ => []
  | (j, v) :: t, k => if j ≤ k then tdrop t k else (j, v) :: t

/-- The table with value v at key k; storing the default removes the entry. -/
def tset {α : Type} [DecidableEq α] (d : Nat → α) : Tbl α → Nat → α → Tbl α
  | [], k, v => if v = d k then [] else [(k, v)]
  | (j, u) :: t, k, v =>
    if j < k then (j, u) :: tset d t k v
    else if v = d k then tdrop ((j, u) :: t) k
    else (k, v) :: tdrop ((j, u) :: t) k

/-- The table with f applied at key k. -/
def tupd {α : Type} [DecidableEq α] (d : Nat → α) (t : Tbl α) (k : Nat) (f : α → α) : Tbl α :=
  tset d t k (f (tget d t k))

/-- Keys strictly rising, all above b. -/
def tsortedFrom {α : Type} (b : Nat) : Tbl α → Bool
  | [] => true
  | (j, _) :: t => decide (b ≤ j) && tsortedFrom (j + 1) t

/-- The canonical form of a sparse table: keys strictly rising, no entry equal to the default. -/
def twf {α : Type} [DecidableEq α] (d : Nat → α) (t : Tbl α) : Bool :=
  tsortedFrom 0 t && t.all fun e => decide (e.2 ≠ d e.1)

/-- What a byte of memory reads as that nothing has written: the trace memory, the gate control lists and the journal
read zero after the wipes of R366 (assumption log 3). -/
def Memory.empty (_ : Nat) : Byte := 0

/-- The memory's canonical form. -/
def Memory.wf (m : List Host.Cell) : Bool := twf Memory.empty m

/-- One byte of memory. -/
def Memory.readByte (m : List Host.Cell) (a : Nat) : Byte := tget Memory.empty m a

/-- Store one byte. -/
def Memory.writeByte (m : List Host.Cell) (a : Nat) (b : Byte) : List Host.Cell := tset Memory.empty m a b

/-- One word of memory, least significant octet at the lowest address (R278). -/
def Memory.readWord (m : List Host.Cell) (a : Nat) : Word :=
  BitVec.ofNat 32 ((Memory.readByte m a).toNat + 2 ^ 8 * (Memory.readByte m (a + 1)).toNat
    + 2 ^ 16 * (Memory.readByte m (a + 2)).toNat + 2 ^ 24 * (Memory.readByte m (a + 3)).toNat)

/-- Store one word, least significant octet at the lowest address (R278). -/
def Memory.writeWord (m : List Host.Cell) (a : Nat) (w : Word) : List Host.Cell :=
  let n := w.toNat
  let m := Memory.writeByte m a (BitVec.ofNat 8 n)
  let m := Memory.writeByte m (a + 1) (BitVec.ofNat 8 (n / 2 ^ 8))
  let m := Memory.writeByte m (a + 2) (BitVec.ofNat 8 (n / 2 ^ 16))
  Memory.writeByte m (a + 3) (BitVec.ofNat 8 (n / 2 ^ 24))

/-- Store consecutive words from address a upward. -/
def Memory.writeWords (m : List Host.Cell) (a : Nat) : List Word → List Host.Cell
  | [] => m
  | w :: ws => Memory.writeWords (Memory.writeWord m a w) (a + 4) ws

/-- Drop every byte of an address range: the range reads empty again. -/
def Memory.wipe (m : List Host.Cell) (lo hi : Nat) : List Host.Cell :=
  m.filter fun c => decide (c.1 < lo ∨ hi ≤ c.1)

end Sys2Proof.Machine
end

