-- ==== Sys2Proof/Machine/Fuse.lean ====
section
/-!
DEFINITION. The fuse shadow (Self-Test and Calibration R357, R358; Element Drive and Photonic Fabric for what the fields
mean): which offsets are mapped, and the decoding of element words, monitor words, delays, trims and identities. The
functions take the programmed values `f` the state lists; every other mapped byte is Config.fuseByte.
-/

namespace Sys2Proof.Machine

/-- Is an offset one of Table BIST-3? Offsets not listed read zero (R357). -/
def fuseMapped (o : Nat) : Bool :=
  o < 0x13000 || (0x13000 ≤ o && o < 0x1C800) || (0x1C800 ≤ o && o < 0x1EA00) || (0x1EA00 ≤ o && o < 0x1EE00)
    || (0x1EE00 ≤ o && o < 0x1F780) || (0x1F780 ≤ o && o < 0x1FC40) || (0x1FC40 ≤ o && o < 0x1FD50)
    || (0x1FD50 ≤ o && o < 0x1FD98) || (0x1FDA0 ≤ o && o < 0x1FDEC) || (0x1FE00 ≤ o && o < 0x1FE16)
    || (0x1FE20 ≤ o && o < 0x1FE2E) || (0x1FE30 ≤ o && o < 0x1FE36)

/-- One byte of the fuse shadow but for the life-cycle bits. The SHUTDOWN ceiling is 0x0820 in every device (Table BIST-3). -/
def fuseByte (f : Tbl Byte) (o : Nat) : Byte :=
  if o = 0x1FE14 then 0x20 else if o = 0x1FE15 then 0x08
  else if fuseMapped o then tget Config.fuseByte f o else 0

/-- n consecutive bytes of the shadow, little-endian (R357). -/
def fuseLE (f : Tbl Byte) (o : Nat) : Nat → Nat
  | 0 => 0
  | n + 1 => (fuseByte f o).toNat + 256 * fuseLE f (o + 1) n

/-- The element word of element e (Table BIST-4). -/
def fuseElem (f : Tbl Byte) (e : Nat) : Nat := fuseLE f (8 * e) 8

/-- Bits [hi:lo] of the element word. -/
def fuseElemFld (f : Tbl Byte) (e hi lo : Nat) : Nat := fuseElem f e / 2 ^ lo % 2 ^ (hi + 1 - lo)

/-- Parked code of an element; for a VOA its blanking code (Table BIST-4). -/
def parkedCode (f : Tbl Byte) (e : Nat) : Nat := 16 * fuseElemFld f e 63 52

/-- Production code in BAR, or the minimum-attenuation code of a VOA (Table BIST-4). -/
def barCode (f : Tbl Byte) (e : Nat) : Nat := 16 * fuseElemFld f e 51 40

/-- Production code in CROSS (Table BIST-4). -/
def crossCode (f : Tbl Byte) (e : Nat) : Nat := 16 * fuseElemFld f e 39 28

/-- P_π in relative heater power (Table BIST-4). -/
def piPower (f : Tbl Byte) (e : Nat) : Nat := 16 * fuseElemFld f e 27 16

/-- Overdrive OD (Table BIST-4). -/
def overdrive (f : Tbl Byte) (e : Nat) : Nat := fuseElemFld f e 15 10 + 16

/-- Kick time KT (Table BIST-4). -/
def kickTime (f : Tbl Byte) (e : Nat) : Nat := fuseElemFld f e 9 4

/-- The stored points of a VOA's attenuation curve: code at 0, 3, 10, 20 and 35 dB, attenuation in 1/16 dB (R113). -/
def voaCurve (f : Tbl Byte) (e : Nat) : List (Nat × Nat) :=
  [(0, barCode f e), (48, 64 * fuseElemFld f e 39 30), (160, 64 * fuseElemFld f e 27 18),
    (320, 64 * fuseElemFld f e 15 6), (560, 1024 * fuseElemFld f e 5 0)]

/-- Responsivity of monitor m (Table BIST-3). -/
def responsivity (f : Tbl Byte) (m : Nat) : Nat := fuseLE f (0x13001 + 4 * m) 3

/-- Offset MOFS of monitor m, signed, in units of 16 v (Table BIST-3). -/
def monOffset (f : Tbl Byte) (m : Nat) : Int := sx 8 (fuseLE f (0x13000 + 4 * m) 1)

/-- Group delay of cell c in CROSS or BAR, units of 0.25 ps: stage nominal plus deviation (R358). -/
def cellDelay (f : Tbl Byte) (c : Nat) (crossed : Bool) : Nat :=
  let s := c / 256
  let k := if crossed then 1 else 0
  (((fuseLE f (0x1FD50 + 4 * s + 2 * k) 2 : Nat) : Int) + sx 8 (fuseLE f (0x1C800 + 2 * c + k) 1)).toNat % 2 ^ 16

/-- Path delay of input port p (R34, R358). -/
def inDelay (f : Tbl Byte) (p : Nat) : Nat :=
  (((fuseLE f 0x1FD94 2 : Nat) : Int) + sx 8 (fuseLE f (0x1EA00 + p) 1)).toNat % 2 ^ 16

/-- Path delay of output port q (R34, R358). -/
def outDelay (f : Tbl Byte) (q : Nat) : Nat :=
  (((fuseLE f 0x1FD96 2 : Nat) : Int) + sx 8 (fuseLE f (0x1EC00 + q) 1)).toNat % 2 ^ 16

/-- Optical latency of a circuit, units of 0.25 ps (R33). -/
def latency (f : Tbl Byte) (c : Circuit) : Nat :=
  inDelay f c.inp + (c.path.foldl (fun n h => n + cellDelay f h.cell (h.state == .cross)) 0) + outDelay f c.out

/-- Trim of converter n of a tile on a plane: the correction words OFS and GF (R358). -/
def convTrim (f : Tbl Byte) (t pl n : Nat) : Int × Int :=
  let b := fuseLE f (0x1EE00 + 4 * t + 2 * pl + n) 1
  (16 * sx 4 (b / 16), 16384 + 64 * sx 4 b)

/-- Neighbour coefficient of a source in a column, type 0 SW or 1 TR, relation rel (Table BIST-3). -/
def neighbourCoef (f : Tbl Byte) (col ty rel : Nat) : Nat := fuseLE f (0x1FC40 + 16 * (col - 1) + 8 * ty + rel) 1

/-- The element that a relation of Table BIST-5 names, for a source in cell (s, r). -/
def neighbour (e rel : Nat) : Option Nat :=
  let c := e / 2
  let s := c / 256
  let r := c % 256
  match rel with
  | 0 => some (if e % 2 = 0 then e + 1 else e - 1)
  | 1 => if 1 ≤ r then some (swOf (c - 1)) else none
  | 2 => if r + 1 < 256 then some (swOf (c + 1)) else none
  | 3 => if 1 ≤ r then some (trOf (c - 1)) else none
  | 4 => if r + 1 < 256 then some (trOf (c + 1)) else none
  | 5 => if 2 ≤ r then some (swOf (c - 2)) else none
  | 6 => if r + 2 < 256 then some (swOf (c + 2)) else none
  | _ => if s + 1 < 17 then some (swOf (c + 256)) else none

/-- The reset range of tile t: false ×1, true ×2 (Table BIST-3). -/
def fuseRange (f : Tbl Byte) (t : Nat) : Bool := (fuseLE f (0x1FDA0 + t / 8) 1).testBit (t % 8)

/-- Expected run signature of a slice type (Table BIST-3). -/
def expectedSig (f : Tbl Byte) (ty : Nat) : Nat := fuseLE f (0x1FE00 + 4 * ty) 4

/-- Lane ingress and egress latency to the receptacle, in units of 0.25 ns (R261). -/
def ingressLatency (f : Tbl Byte) : Nat := fuseLE f 0x1FE10 2
def egressLatency (f : Tbl Byte) : Nat := fuseLE f 0x1FE12 2

/-- The serial number (Table BIST-3). -/
def serial (f : Tbl Byte) : Nat := fuseLE f 0x1FE20 8

/-- The MAC of a port as a 48-bit number, first octet transmitted most significant; MAC_LO and MAC_HI as R303 gives them. -/
def macOf (f : Tbl Byte) (p : Port) : BitVec 48 :=
  let o := match p with | .e0 => 0x1FE28 | .e1 => 0x1FE30
  BitVec.ofNat 48 (natBE ((List.range 6).map fun k => fuseByte f (o + k)))
def macLo (f : Tbl Byte) (p : Port) : Nat := fuseLE f (match p with | .e0 => 0x1FE28 | .e1 => 0x1FE30) 4
def macHi (f : Tbl Byte) (p : Port) : Nat := fuseLE f (match p with | .e0 => 0x1FE2C | .e1 => 0x1FE34) 2

end Sys2Proof.Machine
end

