-- ==== Sys2Proof/Machine/RegMap.lean ====
section
/-!
DEFINITION. The register pages as Register Pages (R309 to R311) lays them out: which of the 128 page slots are
occupied, and for every block register its offset, the bits a write stores (RW), the bits a written one clears (WC),
its value after reset and whether it is a common counter (R314). The rows are those of the index and field tables the
block chapters give (FAB-9 to TIME-8, REG-3, REG-7); reserved registers have no row and read zero (R7).
-/

namespace Sys2Proof.Machine

/-- One block register: offset in its page, RW mask, WC mask, reset value, common counter or not. -/
structure RegRow where
  off : Nat
  rw : Nat
  wc : Nat
  reset : Nat
  counter : Bool
  deriving DecidableEq, Repr

/-- One occupied page of Table REG-2: number of registers, table window, offset of CMD (0: none), KIND and INDEX of
PAGE_ID, and the INT_CAUSE bits its chapter assigns. -/
structure PageInfo where
  nreg : Nat
  win : Bool
  cmd : Nat
  kind : Nat
  index : Nat
  cause : Nat
  deriving DecidableEq, Repr

/-- Block registers of page DEV (R309, R310). -/
def rows_dev : List RegRow := [
  ⟨0x044, 0xFFFFFFFF, 0x0, 0x0, false⟩,
  ⟨0x048, 0xFFFFFFFF, 0x0, 0x0, false⟩,
  ⟨0x050, 0x0, 0x0, 0x5120100, false⟩,
  ⟨0x068, 0x0, 0x0, 0x0, true⟩]

/-- Block registers of page INTR (R309, R310). -/
def rows_intr : List RegRow := [
  ⟨0x040, 0x1, 0x0, 0x1, false⟩,
  ⟨0x068, 0xFF, 0x0, 0x0, false⟩,
  ⟨0x06C, 0x0, 0x0, 0x0, true⟩]

/-- Block registers of page PWR (R309, R310). -/
def rows_pwr : List RegRow := [
  ⟨0x040, 0x7, 0x0, 0x4, false⟩,
  ⟨0x054, 0x0, 0x0, 0x0, true⟩]

/-- Block registers of page THM (R309, R310). -/
def rows_thm : List RegRow := [
  ⟨0x040, 0x1, 0x0, 0x1, false⟩,
  ⟨0x044, 0x1FFFFF, 0x0, 0x50640, false⟩,
  ⟨0x048, 0x1FFFFF, 0x0, 0x506E0, false⟩,
  ⟨0x04C, 0x1FFFFF, 0x0, 0xF07D0, false⟩,
  ⟨0x050, 0x83FF0FFF, 0x0, 0x81F40020, false⟩,
  ⟨0x05C, 0x0, 0x0, 0x8000, false⟩,
  ⟨0x060, 0x0, 0x0, 0x0, true⟩,
  ⟨0x064, 0x0, 0x0, 0x0, true⟩,
  ⟨0x068, 0x0, 0x0, 0x0, true⟩,
  ⟨0x06C, 0x0, 0x0, 0x0, true⟩]

/-- Block registers of page TOKEN (R309, R310). -/
def rows_token : List RegRow := [
  ⟨0x044, 0x1, 0x0, 0x0, false⟩,
  ⟨0x04C, 0xFFFFF1FF, 0x0, 0x10041A0, false⟩,
  ⟨0x058, 0x0, 0x0, 0x0, true⟩,
  ⟨0x05C, 0x0, 0x0, 0x0, true⟩]

/-- Block registers of page PLA and its twin (R309, R310). -/
def rows_pl : List RegRow := [
  ⟨0x058, 0x0, 0x0, 0x0, true⟩,
  ⟨0x05C, 0x0, 0x0, 0x0, true⟩,
  ⟨0x060, 0x0, 0x0, 0x0, true⟩,
  ⟨0x064, 0x0, 0x0, 0x0, true⟩,
  ⟨0x068, 0x0, 0x0, 0x0, true⟩]

/-- Block registers of page BIST (R309, R310). -/
def rows_bist : List RegRow := [
  ⟨0x044, 0xFFFFFFFF, 0x0, 0x0, false⟩,
  ⟨0x048, 0xFFFFFFFF, 0x0, 0x0, false⟩,
  ⟨0x050, 0xFFFF0007, 0x0, 0x3E80007, false⟩,
  ⟨0x054, 0xFF, 0x0, 0x14, false⟩,
  ⟨0x070, 0x0, 0x0, 0x0, true⟩,
  ⟨0x074, 0x0, 0x0, 0x0, true⟩,
  ⟨0x078, 0x0, 0x0, 0x0, true⟩,
  ⟨0x07C, 0x0, 0x0, 0x0, true⟩]

/-- Block registers of page FUSE (R309, R310). -/
def rows_fuse : List RegRow := [
  ⟨0x044, 0x0, 0x0, 0x0, true⟩,
  ⟨0x048, 0x0, 0x0, 0x0, true⟩]

/-- Block registers of page JRNL (R309, R310). -/
def rows_jrnl : List RegRow := [
  ⟨0x044, 0xFFFFFFFF, 0x0, 0x0, false⟩,
  ⟨0x048, 0xFFFFFFFF, 0x0, 0x0, false⟩,
  ⟨0x050, 0x203FF, 0x0, 0x20001, false⟩,
  ⟨0x054, 0x7, 0x0, 0x1, false⟩,
  ⟨0x068, 0x0, 0x0, 0x0, true⟩]

/-- Block registers of page MTX (R309, R310). -/
def rows_mtx : List RegRow := [
  ⟨0x044, 0xFFFFFFFF, 0x0, 0x0, false⟩,
  ⟨0x04C, 0xFFFFFFFF, 0x0, 0x7685520, false⟩,
  ⟨0x060, 0x0, 0x0, 0x0, true⟩,
  ⟨0x064, 0x0, 0x0, 0x0, true⟩,
  ⟨0x068, 0x0, 0x0, 0x0, true⟩,
  ⟨0x06C, 0x0, 0x0, 0x0, true⟩,
  ⟨0x070, 0x0, 0x0, 0x0, true⟩,
  ⟨0x074, 0x0, 0x0, 0x0, true⟩,
  ⟨0x078, 0x0, 0x0, 0x0, true⟩,
  ⟨0x07C, 0x0, 0x0, 0x0, true⟩,
  ⟨0x080, 0x0, 0x0, 0x0, true⟩]

/-- Block registers of page EHR0 and its twin (R309, R310). -/
def rows_ehr : List RegRow := [
  ⟨0x040, 0xE0000000, 0x0, 0x80000000, false⟩,
  ⟨0x050, 0xFFFFFFFF, 0x0, 0xFFFFFFFF, false⟩,
  ⟨0x054, 0xFFFF, 0x0, 0xFFFF, false⟩,
  ⟨0x05C, 0x0, 0x0, 0x0, true⟩,
  ⟨0x060, 0x0, 0x0, 0x0, true⟩,
  ⟨0x064, 0x0, 0x0, 0x0, true⟩,
  ⟨0x068, 0x0, 0x0, 0x0, true⟩,
  ⟨0x06C, 0x0, 0x0, 0x0, true⟩,
  ⟨0x070, 0x0, 0x0, 0x0, true⟩,
  ⟨0x074, 0x0, 0x0, 0x0, true⟩,
  ⟨0x078, 0x0, 0x0, 0x0, true⟩,
  ⟨0x07C, 0x0, 0x0, 0x0, true⟩,
  ⟨0x080, 0x0, 0x0, 0x0, true⟩,
  ⟨0x084, 0x0, 0x0, 0x0, true⟩,
  ⟨0x088, 0x0, 0x0, 0x0, true⟩]

/-- Block registers of page CHAIN (R309, R310). -/
def rows_chain : List RegRow := [
  ⟨0x044, 0xFFFFFFFF, 0x0, 0x0, false⟩,
  ⟨0x04C, 0xC0000000, 0x0, 0x40000000, false⟩,
  ⟨0x058, 0x0, 0x0, 0x0, true⟩,
  ⟨0x05C, 0x0, 0x0, 0x0, true⟩]

/-- Block registers of page FAB (R309, R310). -/
def rows_fab : List RegRow := [
  ⟨0x040, 0x1, 0x0, 0x1, false⟩,
  ⟨0x044, 0xFFFF, 0x0, 0xFEE0, false⟩,
  ⟨0x04C, 0x0, 0x0, 0x0, true⟩]

/-- Block registers of page BELL (R309, R310). -/
def rows_bell : List RegRow := [
  ⟨0x044, 0xFFFFFFFF, 0x0, 0x0, false⟩,
  ⟨0x048, 0xFFFFFFFF, 0x0, 0x0, false⟩,
  ⟨0x050, 0x3, 0x0, 0x3, false⟩,
  ⟨0x064, 0x0, 0x0, 0x0, true⟩,
  ⟨0x068, 0x0, 0x0, 0x0, true⟩]

/-- Block registers of page SHEEP (R309, R310). -/
def rows_sheep : List RegRow := [
  ⟨0x040, 0x3, 0x0, 0x3, false⟩,
  ⟨0x044, 0xFF000F, 0x0, 0x20003, false⟩,
  ⟨0x048, 0xFFFF, 0x0, 0x15, false⟩,
  ⟨0x04C, 0xFFFF, 0x0, 0x14, false⟩,
  ⟨0x068, 0x0, 0x0, 0x0, true⟩,
  ⟨0x06C, 0x0, 0x0, 0x0, true⟩,
  ⟨0x070, 0x0, 0x0, 0x0, true⟩,
  ⟨0x074, 0x0, 0x0, 0x0, true⟩,
  ⟨0x078, 0x0, 0x0, 0x0, true⟩]

/-- Block registers of page EPOCH (R309, R310). -/
def rows_epoch : List RegRow := [
  ⟨0x044, 0xFFFFFFFF, 0x0, 0x0, false⟩,
  ⟨0x048, 0xFFFFFFFF, 0x0, 0x0, false⟩,
  ⟨0x04C, 0xFFFFFFFF, 0x0, 0x0, false⟩,
  ⟨0x050, 0x8FFFFFFF, 0x0, 0x0, false⟩,
  ⟨0x058, 0x7, 0x0, 0x6, false⟩,
  ⟨0x05C, 0xFFFFFF, 0x0, 0x2710, false⟩,
  ⟨0x080, 0x0, 0x0, 0x0, true⟩,
  ⟨0x084, 0x0, 0x0, 0x0, true⟩,
  ⟨0x088, 0x0, 0x0, 0x0, true⟩,
  ⟨0x08C, 0x0, 0x0, 0x0, true⟩]

/-- Block registers of page LOOP (R309, R310). -/
def rows_loop : List RegRow := [
  ⟨0x040, 0x1FF, 0x0, 0x104, false⟩,
  ⟨0x044, 0xFFFF, 0x0, 0xFD80, false⟩,
  ⟨0x048, 0xFFFF, 0x0, 0x410, false⟩,
  ⟨0x04C, 0xFF, 0x0, 0x28, false⟩,
  ⟨0x058, 0x0, 0x0, 0x0, true⟩,
  ⟨0x05C, 0x0, 0x0, 0x0, true⟩,
  ⟨0x060, 0x0, 0x0, 0x0, true⟩,
  ⟨0x064, 0x0, 0x0, 0x0, true⟩,
  ⟨0x074, 0xFFFFFFFF, 0x0, 0x0, false⟩,
  ⟨0x078, 0xFFFFFFFF, 0x0, 0x0, false⟩]

/-- Block registers of page CONV (R309, R310). -/
def rows_conv : List RegRow := [
  ⟨0x044, 0xFFFFFFFF, 0x0, 0x0, false⟩,
  ⟨0x048, 0xFFFFFFFF, 0x0, 0x0, false⟩,
  ⟨0x050, 0x3, 0x0, 0x3, false⟩,
  ⟨0x054, 0xFFFFF, 0x0, 0x3E8, false⟩,
  ⟨0x05C, 0x0, 0x0, 0x0, true⟩,
  ⟨0x060, 0x0, 0x0, 0x0, true⟩,
  ⟨0x064, 0x0, 0x0, 0x0, true⟩,
  ⟨0x068, 0x0, 0x0, 0x0, true⟩]

/-- Block registers of page DRV (R309, R310). -/
def rows_drv : List RegRow := [
  ⟨0x044, 0xFFFFFFFF, 0x0, 0x0, false⟩,
  ⟨0x048, 0xFFFFFFFF, 0x0, 0x0, false⟩,
  ⟨0x050, 0x3, 0x0, 0x3, false⟩,
  ⟨0x058, 0x3FF, 0x0, 0x0, false⟩,
  ⟨0x060, 0x0, 0x0, 0x0, true⟩,
  ⟨0x064, 0x0, 0x0, 0x0, true⟩,
  ⟨0x06C, 0x0, 0x0, 0x0, true⟩,
  ⟨0x070, 0x0, 0x0, 0x0, true⟩]

/-- Block registers of page TRACE (R309, R310). -/
def rows_trace : List RegRow := [
  ⟨0x044, 0xFFFF, 0x0, 0x0, false⟩,
  ⟨0x050, 0x1, 0x0, 0x1, false⟩]

/-- Block registers of page COL (R309, R310). -/
def rows_col : List RegRow := [
  ⟨0x040, 0x11F, 0x0, 0x0, false⟩]

/-- Block registers of page OSC (R309, R310). -/
def rows_osc : List RegRow := [
  ⟨0x044, 0xFFFFFFFF, 0x0, 0x0, false⟩,
  ⟨0x04C, 0x777, 0x0, 0x157, false⟩,
  ⟨0x054, 0x80000001, 0x0, 0x80000000, false⟩,
  ⟨0x05C, 0x0, 0x0, 0x0, true⟩,
  ⟨0x060, 0x0, 0x0, 0x0, true⟩]

/-- Block registers of page OSCG (R309, R310). -/
def rows_oscg : List RegRow := [
]

/-- Block registers of page LASER (R309, R310). -/
def rows_laser : List RegRow := [
  ⟨0x044, 0xFFFFFFFF, 0x0, 0x0, false⟩,
  ⟨0x04C, 0x1, 0x0, 0x1, false⟩,
  ⟨0x058, 0x0, 0x0, 0x0, true⟩]

/-- Block registers of page OBJ (R309, R310). -/
def rows_obj : List RegRow := [
]

/-- Block registers of page PAIR (R309, R310). -/
def rows_pair : List RegRow := [
  ⟨0x040, 0x7, 0x0, 0x3, false⟩,
  ⟨0x048, 0x0, 0x0, 0x0, true⟩,
  ⟨0x04C, 0x0, 0x0, 0x0, true⟩,
  ⟨0x050, 0x0, 0x0, 0x0, true⟩]

/-- Block registers of page LEARN (R309, R310). -/
def rows_learn : List RegRow := [
  ⟨0x040, 0x83FF0007, 0x0, 0x80640007, false⟩,
  ⟨0x044, 0x1FF, 0x0, 0x0, false⟩,
  ⟨0x054, 0x0, 0x0, 0x0, true⟩,
  ⟨0x058, 0x0, 0x0, 0x0, true⟩,
  ⟨0x05C, 0x0, 0x0, 0x0, true⟩,
  ⟨0x060, 0x0, 0x0, 0x0, true⟩]

/-- Block registers of page AGE (R309, R310). -/
def rows_age : List RegRow := [
  ⟨0x040, 0xFFF, 0x0, 0x12C, false⟩,
  ⟨0x048, 0x0, 0x0, 0x0, true⟩,
  ⟨0x04C, 0x3, 0x0, 0x2, false⟩]

/-- Block registers of page MULE (R309, R310). -/
def rows_mule : List RegRow := [
  ⟨0x044, 0xFFFFFFFF, 0x0, 0x0, false⟩,
  ⟨0x048, 0xFFFFFFFF, 0x0, 0x0, false⟩,
  ⟨0x04C, 0xFFFFFFFF, 0x0, 0x0, false⟩]

/-- Block registers of page SCHED (R309, R310). -/
def rows_sched : List RegRow := [
  ⟨0x044, 0xFFFFFFFF, 0x0, 0x0, false⟩,
  ⟨0x048, 0xFFFFFFFF, 0x0, 0x0, false⟩,
  ⟨0x050, 0x1, 0x0, 0x0, false⟩,
  ⟨0x054, 0x1FF, 0x0, 0x0, false⟩,
  ⟨0x058, 0x8007FFFF, 0x0, 0x5F5E1, false⟩,
  ⟨0x05C, 0x1FFFF, 0x0, 0x10000, false⟩,
  ⟨0x064, 0x0, 0x0, 0x0, true⟩,
  ⟨0x068, 0x0, 0x0, 0x0, true⟩,
  ⟨0x06C, 0x0, 0x0, 0x0, true⟩]

/-- Block registers of page TGATE (R309, R310). -/
def rows_tgate : List RegRow := [
  ⟨0x044, 0xFFFFFFFF, 0x0, 0x0, false⟩,
  ⟨0x048, 0xFFFFFFFF, 0x0, 0x0, false⟩,
  ⟨0x050, 0xFFFF, 0x0, 0x40D8, false⟩,
  ⟨0x054, 0x1FF, 0x0, 0x0, false⟩]

/-- Block registers of page TIME (R309, R310). -/
def rows_time : List RegRow := [
  ⟨0x044, 0xFFFFFFFF, 0x0, 0x0, false⟩,
  ⟨0x048, 0xFFFFFFFF, 0x0, 0x0, false⟩,
  ⟨0x04C, 0xFFFFFFFF, 0x0, 0x0, false⟩,
  ⟨0x054, 0xF0000000, 0x0, 0xC0000000, false⟩,
  ⟨0x070, 0xFFFFFFFF, 0x0, 0x3E8, false⟩,
  ⟨0x074, 0x1FFFF, 0x0, 0x186A0, false⟩,
  ⟨0x078, 0xFFFF, 0x0, 0x100, false⟩,
  ⟨0x07C, 0xFFFF, 0x0, 0x10, false⟩,
  ⟨0x080, 0xFFFF, 0x0, 0x64, false⟩,
  ⟨0x09C, 0x0, 0x0, 0x0, true⟩,
  ⟨0x0A0, 0x0, 0x0, 0x0, true⟩,
  ⟨0x0A4, 0x0, 0x0, 0x0, true⟩,
  ⟨0x0A8, 0x0, 0x0, 0x0, true⟩]

/-- Block registers of page PTP (R309, R310). -/
def rows_ptp : List RegRow := [
  ⟨0x040, 0xFFFF0000, 0x0, 0x34000000, false⟩,
  ⟨0x044, 0xFFFFFFFF, 0x0, 0xFFFFFFFF, false⟩,
  ⟨0x048, 0xFFFFFFFF, 0x0, 0xFFFFFFFF, false⟩,
  ⟨0x04C, 0xFFFFFFFF, 0x0, 0xFFFFFFFF, false⟩,
  ⟨0x050, 0xFFFFFFFF, 0x0, 0xFFFFFFFF, false⟩,
  ⟨0x054, 0xFFFFFFFF, 0x0, 0xFFFFFFFF, false⟩,
  ⟨0x058, 0xFFFFFFFF, 0x0, 0xFFFFFFFF, false⟩,
  ⟨0x05C, 0xFFFFFFFF, 0x0, 0xFFFFFFFF, false⟩,
  ⟨0x060, 0xFFFFFFFF, 0x0, 0xFFFFFFFF, false⟩,
  ⟨0x064, 0xFFFFFFFF, 0x0, 0xFFFFFFFF, false⟩,
  ⟨0x068, 0xFFFFFFFF, 0x0, 0xFFFFFFFF, false⟩,
  ⟨0x06C, 0xFFFFFFFF, 0x0, 0xFFFFFFFF, false⟩,
  ⟨0x070, 0xFFFFFFFF, 0x0, 0xFFFFFFFF, false⟩,
  ⟨0x074, 0xFFFFFFFF, 0x0, 0xFFFFFFFF, false⟩,
  ⟨0x078, 0xFFFFFFFF, 0x0, 0xFFFFFFFF, false⟩,
  ⟨0x07C, 0xFFFFFFFF, 0x0, 0xFFFFFFFF, false⟩,
  ⟨0x080, 0xFFFFFFFF, 0x0, 0xFFFFFFFF, false⟩,
  ⟨0x084, 0xFFFF, 0x0, 0x8080, false⟩,
  ⟨0x088, 0xFFFFFFFF, 0x0, 0xF8FEFFFF, false⟩,
  ⟨0x094, 0xFFFFFFFF, 0x0, 0xFDFD0103, false⟩,
  ⟨0x0AC, 0xFFFF, 0x0, 0xC8, false⟩,
  ⟨0x0B8, 0x0, 0x0, 0x0, true⟩,
  ⟨0x0BC, 0x0, 0x0, 0x0, true⟩,
  ⟨0x0C0, 0x0, 0x0, 0x0, true⟩,
  ⟨0x0C4, 0x0, 0x0, 0x0, true⟩,
  ⟨0x0C8, 0x0, 0x0, 0x0, true⟩,
  ⟨0x0CC, 0x0, 0x0, 0x0, true⟩]

/-- Block registers of page PPS (R309, R310). -/
def rows_pps : List RegRow := [
  ⟨0x040, 0xE0000000, 0x0, 0x80000000, false⟩,
  ⟨0x044, 0xFFFFF, 0x0, 0x186A0, false⟩,
  ⟨0x048, 0xFFFF, 0x0, 0x0, false⟩,
  ⟨0x04C, 0xFFFF, 0x0, 0x0, false⟩,
  ⟨0x064, 0x0, 0x0, 0x0, true⟩,
  ⟨0x068, 0x0, 0x0, 0x0, true⟩]

/-- The occupied pages of Table REG-2. -/
def pageInfo (n : Nat) : Option PageInfo :=
  if n = 0x00 then some ⟨40, false, 0x040, 0, 0, 0x7⟩ else
  if n = 0x01 then some ⟨48, false, 0x000, 0, 0, 0x0⟩ else
  if n = 0x02 then some ⟨24, false, 0x000, 0, 0, 0x7⟩ else
  if n = 0x03 then some ⟨32, false, 0x000, 0, 0, 0xF⟩ else
  if n = 0x04 then some ⟨24, false, 0x040, 0, 0, 0x1FF⟩ else
  if n = 0x05 then some ⟨40, false, 0x000, 0, 0, 0x0⟩ else
  if n = 0x06 then some ⟨40, false, 0x000, 0, 0, 0x0⟩ else
  if n = 0x07 then some ⟨48, false, 0x040, 0, 0, 0xF⟩ else
  if n = 0x08 then some ⟨20, false, 0x000, 0, 0, 0x3⟩ else
  if n = 0x09 then some ⟨28, false, 0x040, 0, 0, 0x7⟩ else
  if n = 0x0A then some ⟨56, false, 0x040, 0, 0, 0x1⟩ else
  if n = 0x0B then some ⟨48, false, 0x000, 0, 0, 0x1F⟩ else
  if n = 0x0C then some ⟨48, false, 0x000, 0, 0, 0x1F⟩ else
  if n = 0x0D then some ⟨24, false, 0x040, 0, 0, 0x3⟩ else
  if n = 0x10 then some ⟨32, true, 0x000, 0, 0, 0x1⟩ else
  if n = 0x11 then some ⟨40, true, 0x040, 0, 0, 0x7⟩ else
  if n = 0x12 then some ⟨48, true, 0x000, 0, 0, 0x1F⟩ else
  if n = 0x13 then some ⟨36, true, 0x040, 0, 0, 0x3F⟩ else
  if n = 0x14 then some ⟨40, false, 0x070, 0, 0, 0x7⟩ else
  if n = 0x15 then some ⟨40, false, 0x040, 0, 0, 0x1F⟩ else
  if n = 0x16 then some ⟨36, true, 0x040, 0, 0, 0xF⟩ else
  if n = 0x17 then some ⟨32, true, 0x040, 0, 0, 0x1⟩ else
  if 0x20 ≤ n ∧ n < 0x33 then some ⟨32, true, 0, 1, n - 0x20, 0x0⟩ else
  if n = 0x40 then some ⟨32, true, 0x040, 0, 0, 0x3⟩ else
  if 0x41 ≤ n ∧ n < 0x61 then some ⟨38, true, 0, 2, n - 0x41, 0xFFFF⟩ else
  if n = 0x61 then some ⟨24, false, 0x040, 0, 0, 0x7⟩ else
  if n = 0x68 then some ⟨32, false, 0x000, 0, 0, 0x0⟩ else
  if n = 0x69 then some ⟨24, false, 0x000, 0, 0, 0x0⟩ else
  if n = 0x6A then some ⟨40, true, 0x000, 0, 0, 0x7⟩ else
  if n = 0x6B then some ⟨20, false, 0x000, 0, 0, 0x1⟩ else
  if n = 0x6C then some ⟨32, false, 0x040, 0, 0, 0x1⟩ else
  if n = 0x70 then some ⟨40, true, 0x040, 0, 0, 0x7⟩ else
  if n = 0x71 then some ⟨32, false, 0x040, 0, 0, 0x1⟩ else
  if n = 0x78 then some ⟨48, false, 0x040, 0, 0, 0xF⟩ else
  if n = 0x79 then some ⟨56, true, 0x000, 0, 0, 0x7⟩ else
  if n = 0x7A then some ⟨28, false, 0x000, 0, 0, 0x0⟩ else
  none

/-- The block registers of page n that store, clear or start from a value; every other block register is a view. -/
def blockRows (n : Nat) : List RegRow :=
  if n = 0x00 then rows_dev else
  if n = 0x01 then rows_intr else
  if n = 0x02 then rows_pwr else
  if n = 0x03 then rows_thm else
  if n = 0x04 then rows_token else
  if n = 0x05 then rows_pl else
  if n = 0x06 then rows_pl else
  if n = 0x07 then rows_bist else
  if n = 0x08 then rows_fuse else
  if n = 0x09 then rows_jrnl else
  if n = 0x0A then rows_mtx else
  if n = 0x0B then rows_ehr else
  if n = 0x0C then rows_ehr else
  if n = 0x0D then rows_chain else
  if n = 0x10 then rows_fab else
  if n = 0x11 then rows_bell else
  if n = 0x12 then rows_sheep else
  if n = 0x13 then rows_epoch else
  if n = 0x14 then rows_loop else
  if n = 0x15 then rows_conv else
  if n = 0x16 then rows_drv else
  if n = 0x17 then rows_trace else
  if 0x20 ≤ n ∧ n < 0x33 then rows_col else
  if n = 0x40 then rows_osc else
  if 0x41 ≤ n ∧ n < 0x61 then rows_oscg else
  if n = 0x61 then rows_laser else
  if n = 0x68 then rows_obj else
  if n = 0x69 then rows_pair else
  if n = 0x6A then rows_learn else
  if n = 0x6B then rows_age else
  if n = 0x6C then rows_mule else
  if n = 0x70 then rows_sched else
  if n = 0x71 then rows_tgate else
  if n = 0x78 then rows_time else
  if n = 0x79 then rows_ptp else
  if n = 0x7A then rows_pps else
  []

end Sys2Proof.Machine

namespace Sys2Proof.Machine.Reg

/-- Base address of page n (R309). -/
def base (n : Nat) : Nat := n * 0x1000

/-- Base of the EHRn page of a port (R303). -/
def ehr : Port → Nat
  | .e0 => 0xB000
  | .e1 => 0xC000

/-- Base of the PLx page of a plane (R201). -/
def pl : Plane → Nat
  | .a => 0x5000
  | .b => 0x6000

def DEV_CMD : Nat := 0x00040
def DEV_ARG0 : Nat := 0x00044
def DEV_ARG1 : Nat := 0x00048
def DEV_CMD_STATUS : Nat := 0x0004C
def DEV_ID : Nat := 0x00050
def DEV_SERIAL_LO : Nat := 0x00054
def DEV_SERIAL_HI : Nat := 0x00058
def DEV_STATE : Nat := 0x0005C
def DEV_RESET_CAUSE : Nat := 0x00060
def DEV_LIFECYCLE : Nat := 0x00064
def DEV_RESET_CNT : Nat := 0x00068
def DEV_START_NS : Nat := 0x0006C
def INTR_CFG : Nat := 0x01040
def INTR_STAT : Nat := 0x01044
def INTR_PEND0 : Nat := 0x01048
def INTR_PEND1 : Nat := 0x0104C
def INTR_PEND2 : Nat := 0x01050
def INTR_PEND3 : Nat := 0x01054
def INTR_RAW0 : Nat := 0x01058
def INTR_RAW1 : Nat := 0x0105C
def INTR_RAW2 : Nat := 0x01060
def INTR_RAW3 : Nat := 0x01064
def INTR_EVT_MASK : Nat := 0x01068
def INTR_NINT_CNT : Nat := 0x0106C
def PWR_CFG : Nat := 0x02040
def PWR_LIMIT : Nat := 0x02044
def PWR_NOW : Nat := 0x02048
def PWR_HEATER : Nat := 0x0204C
def PWR_STAT : Nat := 0x02050
def PWR_RELEASE_CNT : Nat := 0x02054
def PWR_LAST_RELEASE : Nat := 0x02058
def THM_CFG : Nat := 0x03040
def THM_WARN : Nat := 0x03044
def THM_THROTTLE : Nat := 0x03048
def THM_SHUTDOWN : Nat := 0x0304C
def THM_RATE_RISE : Nat := 0x03050
def THM_TEMP : Nat := 0x03054
def THM_STAT : Nat := 0x03058
def THM_PEAK : Nat := 0x0305C
def THM_WARN_CNT : Nat := 0x03060
def THM_THROTTLE_CNT : Nat := 0x03064
def THM_TRIP_CNT : Nat := 0x03068
def THM_DEFER_CNT : Nat := 0x0306C
def TOKEN_CMD : Nat := 0x04040
def TOKEN_ARG : Nat := 0x04044
def TOKEN_CMD_STATUS : Nat := 0x04048
def TOKEN_CFG : Nat := 0x0404C
def TOKEN_STAT : Nat := 0x04050
def TOKEN_SAFE : Nat := 0x04054
def TOKEN_HANDOVER_CNT : Nat := 0x04058
def TOKEN_SAFE_CNT : Nat := 0x0405C
def PL_STAT (x : Plane) : Nat := pl x + 0x040
def PL_FEED (x : Plane) : Nat := pl x + 0x044
def PL_DEFECT (x : Plane) : Nat := pl x + 0x048
def PL_TILES (x : Plane) : Nat := pl x + 0x04C
def PL_REG (x : Plane) : Nat := pl x + 0x050
def PL_LAST_MISMATCH (x : Plane) : Nat := pl x + 0x054
def PL_MISMATCH_CNT (x : Plane) : Nat := pl x + 0x058
def PL_DISAGREE_CNT (x : Plane) : Nat := pl x + 0x05C
def PL_HB_MISS_CNT (x : Plane) : Nat := pl x + 0x060
def PL_PEER_DOWN_CNT (x : Plane) : Nat := pl x + 0x064
def PL_FAIL_CNT (x : Plane) : Nat := pl x + 0x068
def BIST_CMD : Nat := 0x07040
def BIST_ARG0 : Nat := 0x07044
def BIST_ARG1 : Nat := 0x07048
def BIST_CMD_STATUS : Nat := 0x0704C
def BIST_CFG : Nat := 0x07050
def BIST_BUDGET : Nat := 0x07054
def BIST_STAT : Nat := 0x07058
def BIST_SIG_A : Nat := 0x0705C
def BIST_SIG_B : Nat := 0x07060
def BIST_LAST_SLICE : Nat := 0x07064
def BIST_FAIL_A : Nat := 0x07068
def BIST_FAIL_B : Nat := 0x0706C
def BIST_SLICE_CNT_A : Nat := 0x07070
def BIST_SLICE_CNT_B : Nat := 0x07074
def BIST_ABORT_CNT : Nat := 0x07078
def BIST_FAIL_CNT : Nat := 0x0707C
def FUSE_STAT : Nat := 0x08040
def FUSE_ECC_CORR_CNT : Nat := 0x08044
def FUSE_ECC_UNCORR_CNT : Nat := 0x08048
def FUSE_LAST_ECC : Nat := 0x0804C
def JRNL_CMD : Nat := 0x09040
def JRNL_ARG0 : Nat := 0x09044
def JRNL_ARG1 : Nat := 0x09048
def JRNL_CMD_STATUS : Nat := 0x0904C
def JRNL_CFG : Nat := 0x09050
def JRNL_AUTO_RESTORE : Nat := 0x09054
def JRNL_STAT : Nat := 0x09058
def JRNL_SLOTS : Nat := 0x0905C
def JRNL_WRITES_LO : Nat := 0x09060
def JRNL_WRITES_HI : Nat := 0x09064
def JRNL_TORN_CNT : Nat := 0x09068
def MTX_CMD : Nat := 0x0A040
def MTX_ARG : Nat := 0x0A044
def MTX_CMD_STATUS : Nat := 0x0A048
def MTX_PARK : Nat := 0x0A04C
def MTX_STAT : Nat := 0x0A050
def MTX_OUT0 : Nat := 0x0A054
def MTX_OUT1 : Nat := 0x0A058
def MTX_OUT2 : Nat := 0x0A05C
def MTX_RST_CNT_M0 : Nat := 0x0A060
def MTX_RST_CNT_M1 : Nat := 0x0A064
def MTX_RST_CNT_M2 : Nat := 0x0A068
def MTX_RST_CNT_M3 : Nat := 0x0A06C
def MTX_RST_CNT_M4 : Nat := 0x0A070
def MTX_RST_CNT_M5 : Nat := 0x0A074
def MTX_RST_CNT_M6 : Nat := 0x0A078
def MTX_RST_CNT_M7 : Nat := 0x0A07C
def MTX_RST_CNT_M8 : Nat := 0x0A080
def MTX_WAIT_MAX_T0 : Nat := 0x0A084
def MTX_WAIT_MAX_T1 : Nat := 0x0A088
def MTX_WAIT_MAX_T2 : Nat := 0x0A08C
def MTX_WAIT_MAX_T3 : Nat := 0x0A090
def MTX_WAIT_MAX_T4 : Nat := 0x0A094
def MTX_WAIT_MAX_T5 : Nat := 0x0A098
def MTX_WAIT_MAX_T6 : Nat := 0x0A09C
def MTX_WAIT_MAX_T7 : Nat := 0x0A0A0
def MTX_LAST_RESET : Nat := 0x0A0A4
def EHR_CFG (p : Port) : Nat := ehr p + 0x040
def EHR_STAT (p : Port) : Nat := ehr p + 0x044
def EHR_MAC_LO (p : Port) : Nat := ehr p + 0x048
def EHR_MAC_HI (p : Port) : Nat := ehr p + 0x04C
def EHR_PEER_LO (p : Port) : Nat := ehr p + 0x050
def EHR_PEER_HI (p : Port) : Nat := ehr p + 0x054
def EHR_TX_SEQ (p : Port) : Nat := ehr p + 0x058
def EHR_RX_FCS_CNT (p : Port) : Nat := ehr p + 0x05C
def EHR_RX_DROP_CNT (p : Port) : Nat := ehr p + 0x060
def EHR_FWD_DROP_CNT (p : Port) : Nat := ehr p + 0x064
def EHR_STOMP_CNT (p : Port) : Nat := ehr p + 0x068
def EHR_BUSY_CNT (p : Port) : Nat := ehr p + 0x06C
def EHR_BADTID_CNT (p : Port) : Nat := ehr p + 0x070
def EHR_POSTED_DROP_CNT (p : Port) : Nat := ehr p + 0x074
def EHR_RESP_DROP_CNT (p : Port) : Nat := ehr p + 0x078
def EHR_LINK_DOWN_CNT (p : Port) : Nat := ehr p + 0x07C
def EHR_HI_BER_CNT (p : Port) : Nat := ehr p + 0x080
def EHR_FEC_UNCORR_CNT (p : Port) : Nat := ehr p + 0x084
def EHR_FRAME_ABORT_CNT (p : Port) : Nat := ehr p + 0x088
def EHR_FEC_CORR_LO (p : Port) : Nat := ehr p + 0x08C
def EHR_FEC_CORR_HI (p : Port) : Nat := ehr p + 0x090
def EHR_RX_TRANS_LO (p : Port) : Nat := ehr p + 0x094
def EHR_RX_TRANS_HI (p : Port) : Nat := ehr p + 0x098
def EHR_TX_TRANS_LO (p : Port) : Nat := ehr p + 0x09C
def EHR_TX_TRANS_HI (p : Port) : Nat := ehr p + 0x0A0
def CHAIN_CMD : Nat := 0x0D040
def CHAIN_ARG : Nat := 0x0D044
def CHAIN_CMD_STATUS : Nat := 0x0D048
def CHAIN_CFG : Nat := 0x0D04C
def CHAIN_STAT : Nat := 0x0D050
def CHAIN_EVT_STAT : Nat := 0x0D054
def CHAIN_EVT_DROP_CNT : Nat := 0x0D058
def CHAIN_ENUM_CNT : Nat := 0x0D05C
def FAB_CFG : Nat := 0x10040
def FAB_DARK_TH : Nat := 0x10044
def FAB_STAT : Nat := 0x10048
def FAB_PARK_LIT_CNT : Nat := 0x1004C
def FAB_PARK_LIT_CELL : Nat := 0x10050
def BELL_CMD : Nat := 0x11040
def BELL_ARG0 : Nat := 0x11044
def BELL_ARG1 : Nat := 0x11048
def BELL_CMD_STATUS : Nat := 0x1104C
def BELL_CFG : Nat := 0x11050
def BELL_STAT : Nat := 0x11054
def BELL_SOLVE_RES : Nat := 0x11058
def BELL_DIST_A : Nat := 0x1105C
def BELL_DIST_B : Nat := 0x11060
def BELL_REFUSE_CNT : Nat := 0x11064
def BELL_FALLBACK_CNT : Nat := 0x11068
def BELL_LOG_COUNT : Nat := 0x1106C
def BELL_SOLVE_NS : Nat := 0x11070
def SHEEP_CFG : Nat := 0x12040
def SHEEP_SETTLE : Nat := 0x12044
def SHEEP_SETTLE_BAND : Nat := 0x12048
def SHEEP_SETTLE_TO : Nat := 0x1204C
def SHEEP_STAT : Nat := 0x12050
def SHEEP_THROTTLE : Nat := 0x12054
def SHEEP_LAST_MOVE : Nat := 0x12058
def SHEEP_LAST_PORTS : Nat := 0x1205C
def SHEEP_LAST_WAVES : Nat := 0x12060
def SHEEP_LAST_NS : Nat := 0x12064
def SHEEP_TIMEOUT_CNT : Nat := 0x12068
def SHEEP_HANDOVER_CNT : Nat := 0x1206C
def SHEEP_ABANDON_CNT : Nat := 0x12070
def SHEEP_INJ_DROP_CNT : Nat := 0x12074
def SHEEP_BREAK_CNT : Nat := 0x12078
def SHEEP_LAST_EPOCH : Nat := 0x1207C
def EPOCH_CMD : Nat := 0x13040
def EPOCH_ARG0 : Nat := 0x13044
def EPOCH_ARG1 : Nat := 0x13048
def EPOCH_ARG2 : Nat := 0x1304C
def EPOCH_ARG3 : Nat := 0x13050
def EPOCH_CMD_STATUS : Nat := 0x13054
def EPOCH_CFG : Nat := 0x13058
def EPOCH_LEASE : Nat := 0x1305C
def EPOCH_STAT : Nat := 0x13060
def EPOCH_ACTIVE : Nat := 0x13064
def EPOCH_PREP : Nat := 0x13068
def EPOCH_SCHED_NS : Nat := 0x1306C
def EPOCH_SCHED_SLO : Nat := 0x13070
def EPOCH_SCHED_SHI : Nat := 0x13074
def EPOCH_LEASE_LEFT : Nat := 0x13078
def EPOCH_LAST_EPOCH : Nat := 0x1307C
def EPOCH_CONFLICT_CNT : Nat := 0x13080
def EPOCH_LATE_CNT : Nat := 0x13084
def EPOCH_ABORT_CNT : Nat := 0x13088
def EPOCH_EXPIRE_CNT : Nat := 0x1308C
def LOOP_CFG : Nat := 0x14040
def LOOP_SW_DARK : Nat := 0x14044
def LOOP_RAMP_RATE : Nat := 0x14048
def LOOP_DITHER : Nat := 0x1404C
def LOOP_STAT : Nat := 0x14050
def LOOP_STAT2 : Nat := 0x14054
def LOOP_DEADLINE_CNT : Nat := 0x14058
def LOOP_BANDEXIT_CNT : Nat := 0x1405C
def LOOP_FAULT_CNT : Nat := 0x14060
def LOOP_LIMIT_CNT : Nat := 0x14064
def LOOP_LAST_FAULT : Nat := 0x14068
def LOOP_LAST_DL : Nat := 0x1406C
def LOOP_CMD : Nat := 0x14070
def LOOP_ARG0 : Nat := 0x14074
def LOOP_ARG1 : Nat := 0x14078
def LOOP_CMD_STATUS : Nat := 0x1407C
def LOOP_BALANCED : Nat := 0x14080
def CONV_CMD : Nat := 0x15040
def CONV_ARG0 : Nat := 0x15044
def CONV_ARG1 : Nat := 0x15048
def CONV_CMD_STATUS : Nat := 0x1504C
def CONV_CFG : Nat := 0x15050
def CONV_HWIN : Nat := 0x15054
def CONV_STAT : Nat := 0x15058
def CONV_INJ_DROP_CNT : Nat := 0x1505C
def CONV_CAL_DROP_CNT : Nat := 0x15060
def CONV_OVERLONG_CNT : Nat := 0x15064
def CONV_CAL_FAIL_CNT : Nat := 0x15068
def CONV_LAST_DROP : Nat := 0x1506C
def CONV_CAL_STAT : Nat := 0x15070
def CONV_HACC_STAT : Nat := 0x15074
def DRV_CMD : Nat := 0x16040
def DRV_ARG0 : Nat := 0x16044
def DRV_ARG1 : Nat := 0x16048
def DRV_CMD_STATUS : Nat := 0x1604C
def DRV_CFG : Nat := 0x16050
def DRV_STAT : Nat := 0x16054
def DRV_SC_SEL : Nat := 0x16058
def DRV_SC_FLAGS : Nat := 0x1605C
def DRV_SC_CNT_A : Nat := 0x16060
def DRV_SC_CNT_B : Nat := 0x16064
def DRV_LAST_SC : Nat := 0x16068
def DRV_NCLR_CNT : Nat := 0x1606C
def DRV_RELIGHT_TO_CNT : Nat := 0x16070
def TRACE_CMD : Nat := 0x17040
def TRACE_ARG : Nat := 0x17044
def TRACE_CMD_STATUS : Nat := 0x17048
def TRACE_STAT : Nat := 0x1704C
def TRACE_CFG : Nat := 0x17050
def COL_SEL (c : Nat) : Nat := 0x20000 + 0x1000 * c + 0x040
def COL_STAT (c : Nat) : Nat := 0x20000 + 0x1000 * c + 0x044
def OSC_CMD : Nat := 0x40040
def OSC_ARG : Nat := 0x40044
def OSC_CMD_STATUS : Nat := 0x40048
def OSC_CLASS_PCP : Nat := 0x4004C
def OSC_STAT : Nat := 0x40050
def OSC_HOSTQ_CFG : Nat := 0x40054
def OSC_HOSTQ_STAT : Nat := 0x40058
def OSC_HOSTQ_DROP_CNT : Nat := 0x4005C
def OSC_TX_REFUSE_CNT : Nat := 0x40060
def OSCG_LINK (g : Nat) : Nat := 0x41000 + 0x1000 * g + 0x040
def OSCG_LOS (g : Nat) : Nat := 0x41000 + 0x1000 * g + 0x044
def OSCG_TXDARK (g : Nat) : Nat := 0x41000 + 0x1000 * g + 0x048
def OSCG_EN (g : Nat) : Nat := 0x41000 + 0x1000 * g + 0x04C
def LASER_CMD : Nat := 0x61040
def LASER_ARG : Nat := 0x61044
def LASER_CMD_STATUS : Nat := 0x61048
def LASER_CFG : Nat := 0x6104C
def LASER_FAILED : Nat := 0x61050
def LASER_PAIR_DARK : Nat := 0x61054
def LASER_FAIL_CNT : Nat := 0x61058
def LASER_LAST : Nat := 0x6105C
def OBJ_STAT : Nat := 0x68040
def OBJ_N_STATIC : Nat := 0x68044
def OBJ_N_DUAL : Nat := 0x68048
def OBJ_N_DYN : Nat := 0x6804C
def PAIR_CFG : Nat := 0x69040
def PAIR_STAT : Nat := 0x69044
def PAIR_RELOC_CNT : Nat := 0x69048
def PAIR_NOROOM_CNT : Nat := 0x6904C
def PAIR_DUP_CNT : Nat := 0x69050
def LEARN_CFG : Nat := 0x6A040
def LEARN_LANE_SEL : Nat := 0x6A044
def LEARN_SEL_NOROOM : Nat := 0x6A048
def LEARN_SEL_CONFLICT : Nat := 0x6A04C
def LEARN_SEL_MOVE_IN : Nat := 0x6A050
def LEARN_NEW_CNT : Nat := 0x6A054
def LEARN_MOVE_CNT : Nat := 0x6A058
def LEARN_CONFLICT_CNT : Nat := 0x6A05C
def LEARN_NOROOM_CNT : Nat := 0x6A060
def LEARN_LANE_SEL_RSV : Nat := 0x6A064
def LEARN_LAST_CONFLICT : Nat := 0x6A068
def LEARN_LAST_MOVE : Nat := 0x6A06C
def LEARN_LAST_NOROOM : Nat := 0x6A070
def AGE_INTERVAL : Nat := 0x6B040
def AGE_STAT : Nat := 0x6B044
def AGE_REMOVED_CNT : Nat := 0x6B048
def AGE_CFG : Nat := 0x6B04C
def MULE_CMD : Nat := 0x6C040
def MULE_ARG0 : Nat := 0x6C044
def MULE_ARG1 : Nat := 0x6C048
def MULE_ARG2 : Nat := 0x6C04C
def MULE_CMD_STATUS : Nat := 0x6C050
def MULE_STAT : Nat := 0x6C054
def MULE_RES_ID : Nat := 0x6C058
def MULE_RES0 : Nat := 0x6C05C
def MULE_RES1 : Nat := 0x6C060
def MULE_RES_PAIR : Nat := 0x6C064
def MULE_FLUSH_N : Nat := 0x6C068
def SCHED_CMD : Nat := 0x70040
def SCHED_ARG0 : Nat := 0x70044
def SCHED_ARG1 : Nat := 0x70048
def SCHED_CMD_STATUS : Nat := 0x7004C
def SCHED_CFG : Nat := 0x70050
def SCHED_SEL : Nat := 0x70054
def SCHED_HOST_SHP : Nat := 0x70058
def SCHED_HOST_BURST : Nat := 0x7005C
def SCHED_STAT : Nat := 0x70060
def SCHED_QFULL_CNT : Nat := 0x70064
def SCHED_POLICE_CNT : Nat := 0x70068
def SCHED_OVERRUN_CNT : Nat := 0x7006C
def SCHED_LAST_DROP : Nat := 0x70070
def TGATE_CMD : Nat := 0x71040
def TGATE_ARG0 : Nat := 0x71044
def TGATE_ARG1 : Nat := 0x71048
def TGATE_CMD_STATUS : Nat := 0x7104C
def TGATE_CFG : Nat := 0x71050
def TGATE_SEL : Nat := 0x71054
def TGATE_LANE_STAT : Nat := 0x71058
def TGATE_CYCLE_NS : Nat := 0x7105C
def TGATE_SWITCH_NS : Nat := 0x71060
def TGATE_SWITCH_SLO : Nat := 0x71064
def TGATE_SWITCH_SHI : Nat := 0x71068
def TIME_CMD : Nat := 0x78040
def TIME_ARG0 : Nat := 0x78044
def TIME_ARG1 : Nat := 0x78048
def TIME_ARG2 : Nat := 0x7804C
def TIME_CMD_STATUS : Nat := 0x78050
def TIME_CFG : Nat := 0x78054
def TIME_STAT : Nat := 0x78058
def TIME_NOW_NS : Nat := 0x7805C
def TIME_NOW_SLO : Nat := 0x78060
def TIME_NOW_SHI : Nat := 0x78064
def TIME_ELAPSED_LO : Nat := 0x78068
def TIME_ELAPSED_HI : Nat := 0x7806C
def TIME_STEP_LIMIT : Nat := 0x78070
def TIME_SLEW_MAX : Nat := 0x78074
def TIME_KP : Nat := 0x78078
def TIME_KI : Nat := 0x7807C
def TIME_LOCK_NS : Nat := 0x78080
def TIME_OFFSET : Nat := 0x78084
def TIME_RATE : Nat := 0x78088
def TIME_JUMP_NS : Nat := 0x7808C
def TIME_JUMP_SLO : Nat := 0x78090
def TIME_JUMP_SHI : Nat := 0x78094
def TIME_SLEW_LEFT : Nat := 0x78098
def TIME_STEP_CNT : Nat := 0x7809C
def TIME_JUMP_CNT : Nat := 0x780A0
def TIME_HOLD_CNT : Nat := 0x780A4
def TIME_TREF_LOSS_CNT : Nat := 0x780A8
def TIME_LAST_STEP_NS : Nat := 0x780AC
def TIME_LAST_STEP_SLO : Nat := 0x780B0
def TIME_LAST_STEP_SHI : Nat := 0x780B4
def PTP_CFG : Nat := 0x79040
def PTP_MEMBER0 : Nat := 0x79044
def PTP_DS_PRIO : Nat := 0x79084
def PTP_DS_QUAL : Nat := 0x79088
def PTP_ID_HI : Nat := 0x7908C
def PTP_ID_LO : Nat := 0x79090
def PTP_INTERVALS : Nat := 0x79094
def PTP_STAT : Nat := 0x79098
def PTP_GM_HI : Nat := 0x7909C
def PTP_GM_LO : Nat := 0x790A0
def PTP_GM_QUAL : Nat := 0x790A4
def PTP_MPD : Nat := 0x790A8
def PTP_PATH_STEP_LIMIT : Nat := 0x790AC
def PTP_PATH_NEW : Nat := 0x790B0
def PTP_RES_MAX : Nat := 0x790B4
def PTP_FU_UNMATCH_CNT : Nat := 0x790B8
def PTP_PATH_OUTLIER_CNT : Nat := 0x790BC
def PTP_PATH_STEP_CNT : Nat := 0x790C0
def PTP_MASTER_CHG_CNT : Nat := 0x790C4
def PTP_ANNOUNCE_TO_CNT : Nat := 0x790C8
def PTP_BAD_MSG_CNT : Nat := 0x790CC
def PPS_CFG : Nat := 0x7A040
def PPS_OUT_WIDTH : Nat := 0x7A044
def PPS_OUT_COMP : Nat := 0x7A048
def PPS_IN_COMP : Nat := 0x7A04C
def PPS_IN_NS : Nat := 0x7A050
def PPS_IN_SLO : Nat := 0x7A054
def PPS_IN_SHI : Nat := 0x7A058
def PPS_IN_ERR : Nat := 0x7A05C
def PPS_STAT : Nat := 0x7A060
def PPS_IN_MISS_CNT : Nat := 0x7A064
def PPS_IN_GLITCH_CNT : Nat := 0x7A068

end Sys2Proof.Machine.Reg
end

