-- ==== Sys2Proof/Machine/Ops.lean ====
section
/-!
DEFINITION. The operations every block shares: reading and writing stored registers, common counters (R314), INT_CAUSE
bits (R317), forming events (R323, R324), device time (R257), completing a command (R283, R312, R320) and answering a
request (R278, R279, R291).
-/

namespace Sys2Proof.Machine

/-! ### Stored registers -/

/-- Reset value of a header register (Table REG-5): only PAGE_CTRL.EVT_EN starts set; PAGE_ID and PAGE_CAP are views. -/
def headerReset (off : Nat) : Nat := if off = 0x008 then 1 else 0

/-- Reset value of a word of a table window: the quotas of page LEARN (R239), the flood sets of page OSC (R214, R222),
LANE_CFG of the lane windows (Table OSC-11), and zero elsewhere. -/
def windowReset (page off : Nat) : Nat :=
  if page = 0x6A ∧ off < 0xC00 then 0x08000800
  else if page = 0x40 ∧ off < 0xB80 ∧ off % 0x200 < 0x180 then
    (if off % 0x80 < 0x40 then 0xFFFFFFFF else if off % 0x80 = 0x40 then 1 else 0)
  else if 0x41 ≤ page ∧ page < 0x61 ∧ off % 0x80 = 0 then 0x80000000
  else 0

/-- The value a stored register holds after reset (R325 and the start-up sections). -/
def regReset (a : Nat) : Word :=
  let page := a / 0x1000
  let off := a % 0x1000
  if (pageInfo page).isNone then 0
  else if off < 0x40 then w32 (headerReset off)
  else if off < 0x800 then
    match (blockRows page).find? fun r => r.off == off with
    | some r => w32 r.reset
    | none => 0
  else w32 (windowReset page off)

/-- The stored register at address a. -/
def State.reg (s : State) (a : Nat) : Word := tget regReset s.regs a

/-- The state with the stored register at address a set. -/
def State.setReg (s : State) (a : Nat) (v : Word) : State := { s with regs := tset regReset s.regs a v }

/-- Bits [hi:lo] of a stored register. -/
def State.rf (s : State) (a hi lo : Nat) : Nat := Machine.fld (s.reg a) hi lo

/-- One bit of a stored register. -/
def State.rb (s : State) (a i : Nat) : Bool := Machine.bit (s.reg a) i

/-- A common counter counts once: COUNT saturates at 0xFFFF, and WRAP is set when it saturates (R314). -/
def bumpWord (w : Word) : Word :=
  let n := fld w 15 0
  if n + 1 < 0xFFFF then w32 (flag 31 (bit w 31) + (n + 1)) else w32 (2 ^ 31 + 0xFFFF)

/-! ### Time -/

/-- 2^-16 ns in one nanosecond. -/
def nsUnit : Nat := 65536

/-- Units of the exact device-time counter in 2^-16 ns. -/
def fineUnit : Nat := 65536 * 1000000000

/-- Device time in units of 2^-16 ns (R257). -/
def State.now (s : State) : Nat := s.clock.fine / fineUnit

/-- Device time in whole nanoseconds. -/
def State.nowNs (s : State) : Nat := s.now / nsUnit

/-- Elapsed time in units of 2^-16 ns. -/
def State.elapsed (s : State) : Nat := s.clock.elapsed

/-- A number of nanoseconds in units of 2^-16 ns. -/
def ns (n : Nat) : Nat := n * nsUnit

/-- A number of microseconds in units of 2^-16 ns. -/
def us (n : Nat) : Nat := n * 1000 * nsUnit

/-- The clocks run: the elapsed-time counter by dt, device time by dt × (1 + r), r in units of 2^-16 ppb (R257). -/
def State.elapse (s : State) (dt : Nat) : State :=
  { s with clock := { s.clock with
      elapsed := s.clock.elapsed + dt
      fine := (((s.clock.fine + dt * fineUnit : Nat) : Int) + dt * s.clock.rate).toNat } }

/-- What f does to the state some time later, seen at once: every time-stamp f takes lies dt ahead, and a forward step or a new
rate that f gives device time stays. -/
def State.later (s : State) (dt : Nat) (f : State → State) : State :=
  let ahead := s.elapse dt
  let u := f ahead
  { u with clock := ⟨s.clock.elapsed, s.clock.fine + (u.clock.fine - ahead.clock.fine), u.clock.rate⟩ }

/-- What f does to the state at another instant of device time: every time-stamp f takes is that instant. -/
def State.stamped (s : State) (t : Nat) (f : State → State) : State :=
  { f { s with clock := { s.clock with fine := t * fineUnit } } with clock := s.clock }

/-- The same for an instant in whole ns. -/
def State.back (s : State) (t : Nat) (f : State → State) : State := s.stamped (t * nsUnit) f

/-! ### Counters, causes and records of the latest happening -/

/-- What has happened at the record of address a at the present device time: for a counter how many, for an INT_CAUSE word
which bits, for a record of a latest happening its key and one. -/
def State.nowAt (s : State) (a : Nat) : Nat :=
  let x := tget (fun _ => (0, 0)) s.stamps a
  if x.1 = s.now then x.2 else 0

/-- Note what has happened at the record of address a at the present device time. -/
def State.happen (s : State) (a n : Nat) : State := { s with stamps := tset (fun _ => (0, 0)) s.stamps a (s.now, n) }

/-- A counter kept outside the registers counts at its address. -/
def State.tally (s : State) (a : Nat) : State := s.happen a (s.nowAt a + 1)

/-- Count on the common counter at address a. -/
def State.count (s : State) (a : Nat) : State := (s.setReg a (bumpWord (s.reg a))).tally a

/-- A common counter counts n happenings. -/
def State.countN (s : State) (a n : Nat) : State :=
  let w := s.reg a
  let k := fld w 15 0 + n
  if n = 0 then s
  else (s.setReg a (if k < 0xFFFF then w32 (flag 31 (bit w 31) + k) else w32 (2 ^ 31 + 0xFFFF))).happen a (s.nowAt a + n)

/-- What a cleared counter reads: the happenings at the device time of the clear, which count after it (R314). -/
def State.cleared (s : State) (a : Nat) : Word :=
  let n := s.nowAt a
  w32 (if n < 0xFFFF then n else 2 ^ 31 + 0xFFFF)

/-- The address of a page's INT_CAUSE. -/
def causeAt (page : Nat) : Nat := Reg.base page + 0x010

/-- Set an INT_CAUSE bit of a page; bits the chapter does not assign never set (R311). -/
def State.cause (s : State) (page i : Nat) : State :=
  (s.setReg (causeAt page) (s.reg (causeAt page) ||| w32 (2 ^ i))).happen (causeAt page) (s.nowAt (causeAt page) ||| 2 ^ i)

/-- Is an INT_CAUSE bit of a page set? -/
def State.causeSet (s : State) (page i : Nat) : Bool := s.rb (causeAt page) i

/-- Write a register that shows the latest of several happenings; of those at one device time it shows the one with the
highest key, as if they came in key order. -/
def State.latest (s : State) (a key : Nat) (v : Word) : State :=
  if key + 1 < s.nowAt a then s else (s.setReg a v).happen a (key + 1)

/-! ### Events -/

/-- Is an event of a page and code formed (R323)? -/
def State.formed (s : State) (page code : Nat) : Bool :=
  s.rb (Reg.base page + 0x008) 0 && !(s.rb Reg.INTR_EVT_MASK (code / 4096 - 1))

/-- The key by which a chapter orders its events of one code and time-stamp: the output (R110, R166), cell (R37), element
(R126), element and plane (R162), trace channel (R129), plane or element (R184), or laser (R220) that the payload begins
with; the ingress lane of a learn event (R224); plane, type and tile of self-test (R352). The other chapters give
none. -/
def Event.key (e : Event) : Nat :=
  let p (i : Nat) : Nat := (e.payload.getD i 0).toNat
  if e.code = 0x2300 then 2 * p 0 + p 1
  else if e.code = 0x5100 ∨ e.code = 0x5101 then p 2
  else if e.code = 0x5102 then p 1
  else if e.code = 0x8000 then 4096 * p 0 + 1024 * p 1 + p 2
  else if e.code = 0x8002 then 4 * p 0 + p 1
  else if e.code = 0x8004 then 4096 * e.plane + 1024 * (if p 1 = 0x20 then 2 else 3) + tileOf (p 0)
  else if [0x13, 0x18, 0x21, 0x23, 0x24, 0x30, 0x53].contains (e.code / 0x100) then p 0
  else 0

/-- Is an event before another in the order of R324: by time-stamp, then code, then the key of its chapter? -/
def Event.before (e x : Event) : Bool :=
  decide (e.time < x.time) || (e.time == x.time && (decide (e.code < x.code) || (e.code == x.code && decide (e.key < x.key))))

/-- Put an event into the queue in the order of R324; of equal ones in order of forming. -/
def queueEvent (e : Event) : List Event → List Event
  | [] => [e]
  | x :: t => if e.before x then e :: x :: t else x :: queueEvent e t

/-- An event enters the queue of 1,024 records, or is dropped and counted (R286). -/
def State.enqueue (s : State) (e : Event) : State :=
  if s.chain.queue.length < 1024 then { s with chain := { s.chain with queue := queueEvent e s.chain.queue } }
  else { s.count Reg.CHAIN_EVT_DROP_CNT with chain := { s.chain with dropped := s.chain.dropped + 1 } }

/-- An event forms: EVT_LAST of its page is written and the record queued (R323). `plane` is that of a SHARED_FAULT. -/
def State.eventOf (s : State) (plane page code src seq epoch : Nat) (payload : List Word) : State :=
  if s.formed page code then
    (s.setReg (Reg.base page + 0x020) (w32 (code * 2 ^ 16 + 1))).enqueue ⟨code, src, seq, epoch, s.now, payload, plane⟩
  else s

/-- An event of a source and an epoch. -/
def State.eventAt (s : State) (page code src seq epoch : Nat) (payload : List Word) : State :=
  s.eventOf 0 page code src seq epoch payload

/-- An event of the device's own happenings: source 7, sequence 0, the active epoch (R61, Table EHR-4). -/
def State.event (s : State) (page code : Nat) (payload : List Word) : State :=
  s.eventAt page code 7 0 s.epoch.act payload

/-- An event is withheld because its cause bit stands already; the first happening at the present device time is kept, for a
clear at this time comes before it (R317). -/
def State.withhold (s : State) (page i code : Nat) (payload : List Word) : State :=
  if (s.nowAt (causeAt page)).testBit i then s
  else { s with chain := { s.chain with
    withheld := (s.chain.withheld.filter fun w => w.time == s.now) ++ [⟨s.now, page, i, code, payload⟩] } }

/-- A happening that sets an INT_CAUSE bit and sends its event only while the bit is clear (R317). -/
def State.causeOnce (s : State) (page i code : Nat) (payload : List Word) : State :=
  if s.causeSet page i then (s.withhold page i code payload).cause page i
  else (s.cause page i).event page code payload

/-- The events that a clear of INT_CAUSE bits lets out: their happenings at the present device time follow it (R317). -/
def State.released (s : State) (page : Nat) (v : Word) : State :=
  let out (w : Withheld) : Bool := w.time == s.now && w.page == page && bit v w.bit
  let go := s.chain.withheld.filter out
  go.foldl (fun s w => s.event w.page w.code w.payload)
    { s with chain := { s.chain with withheld := s.chain.withheld.filter fun w => !(out w) } }

/-- The epoch being staged or prepared: A + 1 (R61). -/
def State.nextEpoch (s : State) : Nat := (s.epoch.act + 1) % 2 ^ 32

/-- A numeric event payload. -/
def pay (l : List Nat) : List Word := l.map w32

/-! ### Ports -/

/-- The record of a port. -/
def State.link (s : State) : Port → LinkPort
  | .e0 => s.e0
  | .e1 => s.e1

/-- The state with a port's record replaced. -/
def State.setLink (s : State) (p : Port) (l : LinkPort) : State :=
  match p with
  | .e0 => { s with e0 := l }
  | .e1 => { s with e1 := l }

/-- The other port. -/
def otherPort : Port → Port
  | .e0 => .e1
  | .e1 => .e0

/-- Source code of a host order by its port (Table EPOCH-1). -/
def portSrc : Port → Nat
  | .e0 => 1
  | .e1 => 2

/-- Number of a port in registers and payloads. -/
def portNum : Port → Nat
  | .e0 => 0
  | .e1 => 1

/-- The DEV field of what the device sends: its address, or 0xFF without one (R287). -/
def State.devAddr (s : State) : BitVec 8 := if s.chain.enumerated then BitVec.ofNat 8 s.chain.addr else 0xFF

/-- Put a frame on a port's wire, or discard it because LINK is 0 (R291); TX_TRANS counts what leaves (R303). -/
def State.transmit (s : State) (p : Port) (op : BitVec 4) (dst : BitVec 48) (f : LinkFrame) : State :=
  if (s.link p).link then
    { s.setLink p { s.link p with txTrans := ((s.link p).txTrans + 1) % 2 ^ 48 } with sent := s.sent ++ [.link p op dst f] }
  else s.count (Reg.EHR_RESP_DROP_CNT p)

/-- Completion codes (Table REG-9). -/
def cDONE : Nat := 0
def cZERO : Nat := 1
def cREFUSED : Nat := 2
def cCONFLICT : Nat := 3
def cLATE : Nat := 4
def cNOROOM : Nat := 5
def cBUSY : Nat := 6
def cABORTED : Nat := 7
def cBADARG : Nat := 8
def cLOCKED : Nat := 9
def cTIMEOUT : Nat := 10

/-- May a response of this code carry a payload (R279)? -/
def carriesPayload (code : Nat) : Bool := !(code == cBADARG || code == cZERO || code == cLOCKED)

/-- A response: the request's SEQ, TID and ADDR echoed, sent to the request's source address (R278). -/
def State.respond (s : State) (p : Port) (seq : BitVec 16) (tid : BitVec 12) (mac : BitVec 48) (addr : Word) (code : Nat)
    (words : List Word) : State :=
  let ws := if carriesPayload code then words else []
  s.transmit p 0x5 mac
    { fcs := .good, etherType := 0x88B5, src := macOf s.fuse p, version := 1, bcast := false, evt := false, ackreq := false,
      dev := s.devAddr, seq := seq, tid := tid, len := BitVec.ofNat 16 ws.length, addr := addr,
      code := BitVec.ofNat 8 code, hops := 0, payload := ws }

/-- A request is no longer outstanding (R289). -/
def State.retire (s : State) (p : Port) (tid : BitVec 12) : State :=
  s.setLink p { s.link p with out := (s.link p).out.filter fun o => o.tid != tid }

/-- Answer the COMMAND transaction an order came as, if it came as one, with the page's CMD_STATUS (R283). -/
def State.answer (s : State) (o : Order) (code : Nat) (status : Word) : State :=
  match o.reply with
  | none => s
  | some r =>
    let s := s.retire o.port r.tid
    if r.due then s.respond o.port o.seq r.tid r.mac r.addr code [status] else s

/-- The CMD_STATUS register of a page, next after CMD and its arguments (Table REG-2 and the block tables). -/
def cmdStatus (page : Nat) : Nat :=
  if page = 0x13 then Reg.EPOCH_CMD_STATUS
  else if page = 0x14 then Reg.LOOP_CMD_STATUS
  else if page = 0x6C then Reg.MULE_CMD_STATUS
  else if page = 0x78 then Reg.TIME_CMD_STATUS
  else if page = 0x04 ∨ page = 0x0A ∨ page = 0x0D ∨ page = 0x17 ∨ page = 0x40 ∨ page = 0x61 then Reg.base page + 0x048
  else Reg.base page + 0x04C

/-- A command of a page completes: OPCODE and CODE (and the chapter's own fields, `extra`) are written to CMD_STATUS, an
error is counted (R312, R320), and the transaction it came as is answered (R283). -/
def State.completeX (s : State) (page op code extra : Nat) (o : Option Order) : State :=
  let st := w32 (op * 2 ^ 24 + extra + code)
  let s := s.setReg (cmdStatus page) st
  let s := if code = cBADARG ∨ code = cLOCKED ∨ code = cBUSY then s.count (Reg.base page + 0x01C) else s
  match o with
  | none => s
  | some o => s.answer o code st

/-- A command completes without fields of its chapter's own. -/
def State.complete (s : State) (page op code : Nat) (o : Order) : State := s.completeX page op code 0 (some o)

end Sys2Proof.Machine
end

