-- ==== Sys2Proof/Machine/Elements.lean ====
section
/-!
DEFINITION. Elements: the records of the Element Table and of both planes' loops, type and range (R113, R160), the fuse and
lock codes an element is driven at (R26, R92, R101), relative heater power (R94), neighbour compensation (R96), and the DAC
input code with its dither (R158, R168, R169).
-/

namespace Sys2Proof.Machine

/-! ### Records -/

/-- The other plane. -/
def otherPlane : Plane → Plane
  | .a => .b
  | .b => .a

/-- Plane number in registers, payloads and table keys: 0 A, 1 B. -/
def planeIdx : Plane → Nat
  | .a => 0
  | .b => 1

/-- The record of a plane. -/
def State.plane (s : State) : Plane → PlaneRec
  | .a => s.pla
  | .b => s.plb

/-- The state with a plane's record replaced. -/
def State.setPlane (s : State) (pl : Plane) (r : PlaneRec) : State :=
  match pl with
  | .a => { s with pla := r }
  | .b => { s with plb := r }

/-- The plane whose loops the Element Table reports: the holder, or between holders the one fenced last. -/
def State.lead (s : State) : Plane := s.token.holder.getD (s.token.old.getD .a)

/-- An element after reset (Table LOOP-7 to Table LOOP-14, R133). -/
def elemDefault (e : Nat) : Elem :=
  { st := .off, held := .loop, hh := false, deadline := false, limit := false, bal := false, dark := false, band := 0,
    lkxV := false, lkbV := false, lockX := 0, lockB := 0, lastLock := none, step := none, width := none, per := none,
    amp := none, judge := none, target := if 8704 ≤ e then 0x7FFF else 0, clear := none, metric := 0, dlCnt := 0,
    kickCode := 0, kickTo := 0, kickFrom := 0, kickEnd := 0, wrote := false, ampNow := none, clearNow := none
    recheck := false }

/-- A loop after reset. -/
def lpDefault (k : Nat) : Lp :=
  { code := none, down := false, pend := 0, dStep := 0, sp := none, tgt := if 8704 ≤ k % 9728 then 0x7FFF else 0,
    w0 := ⟨0, 0, 0, 0⟩, w1 := ⟨0, 0, 0, 0⟩, u0 := 0, u1 := 0, uAt := none, run := 0, miss := 0, rail := 0,
    wasIn := false, div := 0, dac := none, upAt := none }

/-- Key of the loop of an element on a plane. -/
def lpKey (pl : Plane) (e : Nat) : Nat := e + 9728 * planeIdx pl

/-- An element's shared record. -/
def State.elem (s : State) (e : Nat) : Elem := tget elemDefault s.elems e

/-- The state with f applied to an element's shared record. -/
def State.updElem (s : State) (e : Nat) (f : Elem → Elem) : State :=
  { s with elems := tset elemDefault s.elems e (f (s.elem e)) }

/-- An element's loop on a plane. -/
def State.lp (s : State) (pl : Plane) (e : Nat) : Lp := tget lpDefault s.lps (lpKey pl e)

/-- The state with f applied to an element's loop on a plane. -/
def State.updLp (s : State) (pl : Plane) (e : Nat) (f : Lp → Lp) : State :=
  { s with lps := tset lpDefault s.lps (lpKey pl e) (f (s.lp pl e)) }

/-- The state with f applied to an element's loop on both planes. -/
def State.updLps (s : State) (e : Nat) (f : Lp → Lp) : State := (s.updLp .a e f).updLp .b e f

/-- A cell record after reset (R35, R38). -/
def cellDefault (_ : Nat) : CellRec := ⟨false, false, none, 0, false, false, 0, 0⟩

/-- A cell's record. -/
def State.cell (s : State) (c : Nat) : CellRec := tget cellDefault s.cells c

/-- The state with f applied to a cell's record. -/
def State.updCell (s : State) (c : Nat) (f : CellRec → CellRec) : State :=
  { s with cells := tset cellDefault s.cells c (f (s.cell c)) }

/-- Apply f to a state for each number of a list in order. -/
def State.each (s : State) (l : List Nat) (f : State → Nat → State) : State := l.foldl f s

/-! ### Type, parameters and fuse codes -/

/-- Type code of an element (Table LOOP-7): 0 SW, 1 TR, 2 input VOA, 3 output VOA. -/
def elType (e : Nat) : Nat := if e < 8704 then e % 2 else if e < 9216 then 2 else 3

/-- The law parameters in force: what was written, else the type's (Table LOOP-2, R127). -/
def State.elStep (s : State) (e : Nat) : Nat := (s.elem e).step.getD (if elType e = 0 then 4 else if elType e = 1 then 16 else 64)
def State.elBand (s : State) (e : Nat) : Nat := (s.elem e).width.getD (if elType e = 0 then 64 else if elType e = 1 then 2 else 24)
def State.elPer (s : State) (e : Nat) : Nat := (s.elem e).per.getD (if elType e = 1 then 128 else 8)
def ampDefault (e : Nat) : Nat := if elType e = 1 then 64 else 0
def State.elAmp (s : State) (e : Nat) : Nat := (s.elem e).amp.getD (ampDefault e)
def State.elJudge (s : State) (e : Nat) : Nat := (s.elem e).judge.getD (if elType e = 0 then 2 else 0)

/-- Is a tile at range ×2 (R160)? -/
def State.range2 (s : State) (t : Nat) : Bool :=
  (tget (fun _ => none) s.drv.ranges t).getD (fuseRange s.fuse t)

/-- A range-×1 code as the element's tile drives it (R160). -/
def State.rc (s : State) (e c : Nat) : Nat := if s.range2 (tileOf e) then c / 2 else c

/-- The parked or blanking code. -/
def State.parkedDrive (s : State) (e : Nat) : Nat := s.rc e (parkedCode s.fuse e)

/-- The minimum-attenuation code of a VOA. -/
def State.minAtt (s : State) (e : Nat) : Nat := s.rc e (barCode s.fuse e)

/-- CLEAR_CODE of the Element Table (Table LOOP-11): what the host has written, else the fuse parked code. -/
def State.clearField (s : State) (e : Nat) : Nat := (s.elem e).clear.getD (s.parkedDrive e)

/-- The clear code in force: what the host had written by the element's latest tick (R127, R165), else the fuse parked code. -/
def State.clearCode (s : State) (e : Nat) : Nat := (s.elem e).clearNow.getD (s.parkedDrive e)

/-- The loop code (Table LOOP-11). -/
def State.loopCode (s : State) (pl : Plane) (e : Nat) : Nat := (s.lp pl e).code.getD (s.parkedDrive e)

/-- The state with an element's loop code set on both planes; what a new holder still drove as recorded ends. -/
def State.setCode (s : State) (e c : Nat) : State := s.updLps e fun l => { l with code := some c, dac := none }

/-! ### Cells -/

/-- The state of a cell in the active map. -/
def State.actCell (s : State) (c : Nat) : CellState := s.epoch.active.cell c

/-- Is a PARK cell driven warm (R26, R27)? -/
def State.effWarm (s : State) (c : Nat) : Bool :=
  (s.cell c).inForce && !(s.therm.thr || s.therm.shut) && !s.safe.active

/-- Does cell c move in the running transition (R87)? -/
def State.moves (s : State) (c : Nat) : Bool := s.trans.running && s.trans.before.cell c != s.actCell c

/-- The state the elements of cell c are driven for: that of the active map, or still that of the map before the commit
while the cell's kick or parking step is to come (assumption log 24). -/
def State.liveCell (s : State) (c : Nat) : CellState :=
  if s.moves c && (s.trans.waveAt.isSome || s.trans.waves.any fun w => w.contains (2 * c)) then s.trans.before.cell c
  else s.actCell c

/-- WARM of cell c is written (R27): it comes into force in a PARK cell outside a transition, else when the cell next enters
PARK. -/
def State.writeWarm (s : State) (c : Nat) (v : Bool) : State :=
  let now := s.actCell c == .park && !(s.moves c)
  s.updCell c fun r => { r with warm := v, inForce := if now then v else r.inForce }

/-- Target code of a kicked or stepped element for a lit state of its cell (R92). -/
def State.targetCode (s : State) (e : Nat) (st : CellState) : Nat :=
  let x := s.elem e
  match st with
  | .cross => if x.lkxV then x.lockX else s.rc e (crossCode s.fuse e)
  | _ => if x.lkbV then x.lockB else s.rc e (barCode s.fuse e)

/-- Warm drive of an element of a PARK cell (R26): for SW the last code in LOCK in the cell's last lit state, for TR its
last code in LOCK; the parked code if there is none. After a SET_RANGE has cleared the LOCK codes, SW takes its parked code
and TR its last code in LOCK, though the other range's (the model's choice, log 132). -/
def State.warmCode (s : State) (e : Nat) : Nat :=
  let x := s.elem e
  match (s.cell (e / 2)).lastLit with
  | none => s.parkedDrive e
  | some lit =>
    if e % 2 = 0 then
      if lit then (if x.lkxV then x.lockX else s.parkedDrive e) else (if x.lkbV then x.lockB else s.parkedDrive e)
    else x.lastLock.getD (s.parkedDrive e)

/-- Unblank code of a VOA (R101): its latest LOCK code, else the minimum-attenuation code. -/
def State.unblankCode (s : State) (e : Nat) : Nat := if (s.elem e).lkbV then (s.elem e).lockB else s.minAtt e

/-! ### Heater power and compensation -/

/-- Relative heater power of a code (R94). -/
def pw (c : Nat) : Nat := c * c / 65536

/-- The code of a relative heater power (R94). -/
def cd (p : Nat) : Nat := min (Nat.sqrt (p * 65536)) 65535

/-- Kick code of an element from code old to code new with overdrive scale f (R94). -/
def kickCodeOf (od f old new : Nat) : Nat :=
  let odEff := 16 + (od - 16) * f / 256
  cd (clampN 65535 ((pw old : Int) + tdiv (odEff * ((pw new : Int) - pw old)) 16))

/-- The drive code of an element outside compensation (Table LOOP-3). -/
def State.plainDrive (s : State) (pl : Plane) (e : Nat) : Nat :=
  match (s.elem e).st with
  | .off => s.parkedDrive e
  | .kick => (s.elem e).kickCode
  | .hold _ =>
    match (s.elem e).held with
    | .loop => s.loopCode pl e
    | .clear => s.clearCode e
    | .blank => s.parkedDrive e
  | _ => s.loopCode pl e

/-- The compensation offset of element i in relative heater power (R96). -/
def State.compOffset (s : State) (pl : Plane) (i : Nat) : Int :=
  s.trans.sources.foldl (fun off j =>
    (List.range 8).foldl (fun off rel =>
      if neighbour j.1 rel = some i then
        off - tdiv (neighbourCoef s.fuse (j.1 / 512 + 1) (j.1 % 2) rel * ((pw (s.plainDrive pl j.1) : Int) - pw j.2)) 1024
      else off) off) 0

/-- The drive code of an element (Table LOOP-3): compensated elements that regulate are driven by R96. -/
def State.driveCode (s : State) (pl : Plane) (e : Nat) : Nat :=
  let x := s.elem e
  if (x.st = .ramp ∨ x.st = .settle ∨ x.st = .lock) ∧ s.trans.comp.contains e then
    cd (clampN 65535 ((pw (s.loopCode pl e) : Int) + s.compOffset pl e))
  else s.plainDrive pl e

/-! ### Dither -/

/-- Entries 0 to 63 of Q (R169). -/
def sineQ0 : List Nat := [
  13, 38, 63, 88, 113, 138, 163, 188, 213, 239, 264, 289, 314, 339, 364, 389,
  414, 439, 464, 489, 514, 539, 564, 588, 613, 638, 663, 688, 712, 737, 762, 787,
  811, 836, 860, 885, 909, 934, 958, 983, 1007, 1032, 1056, 1080, 1104, 1128, 1153, 1177,
  1201, 1225, 1249, 1273, 1296, 1320, 1344, 1368, 1391, 1415, 1439, 1462, 1485, 1509, 1532, 1555]

/-- Entries 64 to 127 of Q (R169). -/
def sineQ1 : List Nat := [
  1579, 1602, 1625, 1648, 1671, 1694, 1717, 1739, 1762, 1785, 1807, 1830, 1852, 1875, 1897, 1919,
  1941, 1964, 1986, 2007, 2029, 2051, 2073, 2094, 2116, 2137, 2159, 2180, 2201, 2223, 2244, 2265,
  2285, 2306, 2327, 2348, 2368, 2389, 2409, 2429, 2449, 2470, 2490, 2509, 2529, 2549, 2569, 2588,
  2608, 2627, 2646, 2665, 2684, 2703, 2722, 2741, 2759, 2778, 2796, 2815, 2833, 2851, 2869, 2887]

/-- Entries 128 to 191 of Q (R169). -/
def sineQ2 : List Nat := [
  2904, 2922, 2940, 2957, 2974, 2992, 3009, 3026, 3043, 3059, 3076, 3093, 3109, 3125, 3141, 3157,
  3173, 3189, 3205, 3221, 3236, 3251, 3267, 3282, 3297, 3311, 3326, 3341, 3355, 3370, 3384, 3398,
  3412, 3426, 3439, 3453, 3466, 3480, 3493, 3506, 3519, 3532, 3544, 3557, 3569, 3581, 3594, 3606,
  3617, 3629, 3641, 3652, 3663, 3675, 3686, 3696, 3707, 3718, 3728, 3739, 3749, 3759, 3769, 3778]

/-- Entries 192 to 255 of Q (R169). -/
def sineQ3 : List Nat := [
  3788, 3798, 3807, 3816, 3825, 3834, 3843, 3851, 3860, 3868, 3876, 3884, 3892, 3900, 3908, 3915,
  3922, 3929, 3936, 3943, 3950, 3957, 3963, 3969, 3975, 3981, 3987, 3993, 3998, 4004, 4009, 4014,
  4019, 4023, 4028, 4033, 4037, 4041, 4045, 4049, 4053, 4056, 4059, 4063, 4066, 4069, 4071, 4074,
  4076, 4079, 4081, 4083, 4085, 4087, 4088, 4089, 4091, 4092, 4093, 4093, 4094, 4095, 4095, 4095]

/-- The table Q of R169. -/
def sineQ (i : Nat) : Nat := (sineQ0 ++ sineQ1 ++ sineQ2 ++ sineQ3).getD i 0

/-- The sine generator of a tile after reset (R173). -/
def sineDefault (_ : Nat) : Sine := ⟨0, 0, 26214, 0, 0, 26214⟩

/-- The 50 ns tick of the elapsed-time counter that an instant follows (R168). -/
def tickOf (instant : Nat) : Nat := instant / ns 50

/-- The latest tick. -/
def State.tickNow (s : State) : Nat := tickOf s.elapsed

/-- A tile's sine generator as it runs at a tick: a phase, the tick it was held at, and the frequency word (R168, R170). -/
def State.sineAt (s : State) (t tick : Nat) : Nat × Nat × Nat :=
  let g := tget sineDefault s.drv.sines t
  if g.tick ≤ tick then (g.phase, g.tick, g.fw) else (g.phase0, g.tick0, g.fw0)

/-- The frequency word in force at a tick. -/
def State.fwAt (s : State) (t tick : Nat) : Nat := (s.sineAt t tick).2.2

/-- A tile's 24-bit sine phase at a tick: it gains FW at every tick, and stands at 0 while FW = 0 (R168). -/
def State.phaseAt (s : State) (t tick : Nat) : Nat :=
  match s.sineAt t tick with
  | (p, k, fw) => if fw = 0 then 0 else (p + fw * (tick - k)) % 2 ^ 24

/-- A tile's sine phase at the latest tick. -/
def State.phase (s : State) (t : Nat) : Nat := s.phaseAt t s.tickNow

/-- The dither of an amplitude at a phase (R169). -/
def dither (phase amp : Nat) : Int :=
  let idx := phase / 2 ^ 14 % 256
  let v (q : Nat) : Int := ((q * amp + 512) / 1024 : Nat)
  match phase / 2 ^ 22 % 4 with
  | 0 => v (sineQ idx)
  | 1 => v (sineQ (255 - idx))
  | 2 => -(v (sineQ idx))
  | _ => -(v (sineQ (255 - idx)))

/-- The DAC input code of an element on a plane at a tick (R158), with the amplitude in force since the element's latest tick
of its own (R127); a generator with FW = 0 adds no dither (R168). A new holder drives the recorded code until its next update
(R181). -/
def State.dacCodeAt (s : State) (pl : Plane) (e tick : Nat) : Nat :=
  if s.drv.clearing then s.clearCode e
  else match (s.lp pl e).dac with
    | some c => c
    | none =>
      let c := s.driveCode pl e
      let x := s.elem e
      let amp := x.ampNow.getD (ampDefault e)
      if elType e = 1 ∧ (x.st = .ramp ∨ x.st = .settle ∨ x.st = .lock) ∧ 0 < amp ∧ s.fwAt (tileOf e) tick ≠ 0 then
        clampN 65535 ((c : Int) + dither (s.phaseAt (tileOf e) tick) amp)
      else c

/-- The DAC input code of an element on a plane at the latest tick. -/
def State.dacCode (s : State) (pl : Plane) (e : Nat) : Nat := s.dacCodeAt pl e s.tickNow

/-! ### What reaches an element (R157, R159, R161, R167) -/

/-- Full scale of an element's DAC in µA (Table DRV-2). -/
def State.fullScale (s : State) (e : Nat) : Nat :=
  (if e < 8704 then 2500 else 10000) * if s.range2 (tileOf e) then 2 else 1

/-- How long the track-and-hold holds (R161). -/
def holdTime : Nat := ns 20

/-- The deglitch hold in force on an element. -/
def State.holdOf (s : State) (e : Nat) : Option Hold :=
  s.drv.holds.find? fun h => h.elem == e && decide (s.elapsed < h.since + holdTime)

/-- The code that the dither step of the latest tick holds for 20 ns, where it changes the upper 6 bits and no deglitch hold
was in force at the tick (R161). A command that changes the code within these 20 ns settles the matter for the tick: it keeps
the hold, or leaves none (newHold, noteHolds). -/
def State.ditherHold (s : State) (pl : Plane) (e : Nat) : Option Nat :=
  let t := ns (50 * s.tickNow)
  let last := s.dacCodeAt pl e (s.tickNow - 1)
  if s.elapsed < t + holdTime ∧ last / 1024 ≠ s.dacCode pl e / 1024
      ∧ !(s.drv.passed.contains (e, s.tickNow)) then some last
  else none

/-- The code of a plane that the track-and-hold follows outside a deglitch hold of a command: the latest code, 20 ns late
after a dither step that changes the upper 6 bits (R161). -/
def State.tracked (s : State) (pl : Plane) (e : Nat) : Nat := (s.ditherHold pl e).getD (s.dacCode pl e)

/-- Are a plane's output switches closed: does it hold the token, or drive clear codes by the clear grant (R157, R185)? -/
def State.switchesClosed (s : State) (pl : Plane) : Bool := s.token.holder == some pl || (s.plane pl).st == .cleardrv

/-- The code whose current an element carries outside the presets: what a deglitch hold holds, else the holder's code, else
the clear code of a plane in CLEARDRV, else what the hold cell recorded at the fence, the parked code for an element that no
command had touched (R157, R161, R165, R181). A hold cell in the gap keeps the current it held at the fence. -/
def State.outCode (s : State) (e : Nat) : Nat :=
  match s.holdOf e with
  | some h => h.code
  | none =>
    match s.token.holder with
    | some pl => s.tracked pl e
    | none =>
      if s.switchesClosed .a || s.switchesClosed .b then s.clearCode e
      else ((s.token.codes.find? fun r => r.elem == e).map (·.out)).getD (s.parkedDrive e)

/-- The current of an element in units of 2^-16 µA (R159): at the power-up preset, which stands until a plane's switches
close and for the 20 ns in which they do (R161), none in a heater, and a VOA's hold cell at the full scale of range ×1
(R167). -/
def State.current (s : State) (e : Nat) : Nat :=
  if s.drv.preset ∨ s.elapsed < s.drv.presetTill then (if e < 8704 then 0 else 10000 * 65536) else s.fullScale e * s.outCode e


/-! ### Windows and state changes -/

/-- A loop accumulator's key: plane, tile and channel (R144). -/
def accKey (pl : Plane) (t ch : Nat) : Nat := planeIdx pl * 12160 + t * 20 + ch

/-- A loop accumulator after reset. -/
def accDefault (_ : Nat) : Acc := ⟨0, 0, 0, 0⟩

/-- The loop accumulator that monitor n feeds on a plane. -/
def State.accOf (s : State) (pl : Plane) (n : Nat) : Acc := tget accDefault s.accs (accKey pl (tileOf n) (slotOf n))

/-- A copy of an accumulator (R115). -/
def Acc.copy (a : Acc) : Copy := ⟨a.sumP, a.cntP, a.sumM, a.cntM⟩

/-- The first monitor an element reads (Table LOOP-1): its cell's bar tap, or its own tap. -/
def tapOf (e : Nat) : Nat := if e < 8704 then e / 2 * 2 else e

/-- A fresh window on one plane (R115). -/
def State.freshOn (s : State) (pl : Plane) (e : Nat) : State :=
  let w0 := (s.accOf pl (tapOf e)).copy
  let w1 := if e < 8704 then (s.accOf pl (tapOf e + 1)).copy else w0
  s.updLp pl e fun l => { l with w0 := w0, w1 := w1 }

/-- A fresh window on both planes (R115). -/
def State.fresh (s : State) (e : Nat) : State := (s.freshOn .a e).freshOn .b e

/-- Put an element into a state. What a new holder still drove as recorded ends (R158), and an element that leaves OFF or
PARKED for a state that updates begins a fresh window (R115). -/
def State.setSt (s : State) (e : Nat) (st : ElSt) : State :=
  let was := (s.elem e).st
  let s := (s.updElem e fun x => { x with st := st, wrote := x.wrote && st == .lock, recheck := false }).updLps e fun l =>
    { l with dac := none }
  if (was = .off ∨ was = .parked) ∧ st ≠ was ∧ st ≠ .off then s.fresh e else s

/-- Entry into RAMP (R123): the set-point is still to be taken, with a fresh window. -/
def State.enterRamp (s : State) (e : Nat) : State :=
  ((s.setSt e .ramp).updLps e fun l => { l with sp := none, tgt := (s.elem e).target }).fresh e

/-- Entry into HOLD with a cause, driven as given. -/
def State.enterHold (s : State) (e cause : Nat) (d : HoldDrive) : State :=
  (s.setSt e (.hold cause)).updElem e fun x => { x with held := d }

/-- Is an element in FAULT with cause SC, which only CLEAR_FAULT ends (R126)? -/
def State.scFault (s : State) (e : Nat) : Bool := (s.elem e).st == .fault 1

/-- An element that neither passes light nor is part of a circuit: OFF, or PARKED if its cell is driven warm (R26). -/
def State.park (s : State) (e : Nat) : State :=
  if e < 8704 ∧ s.effWarm (e / 2) then ((s.setSt e .parked).setCode e (s.warmCode e)).fresh e
  else s.setSt e .off

/-- Blank a VOA: it enters OFF at its blanking code (Table LOOP-4). One in FAULT with cause SC stays there (R126). -/
def State.blank (s : State) (e : Nat) : State := if s.scFault e then s else s.setSt e .off

/-- Unblank a VOA (R101): it enters LOCK at its unblank code. One in FAULT with cause SC stays there (R126). -/
def State.unblank (s : State) (e : Nat) : State :=
  if s.scFault e then s
  else
    let c := s.unblankCode e
    ((((s.setSt e .lock).setCode e c).updLps e fun l => { l with sp := none, tgt := (s.elem e).target }).updElem e fun x =>
    { x with wrote := false }).fresh e

/-- Entry into FAULT (R126): the loop code holds, and the fault is recorded, counted and reported. -/
def State.enterFault (s : State) (e cause : Nat) : State :=
  let s := s.setSt e (.fault cause)
  let s := s.latest Reg.LOOP_LAST_FAULT e (w32 (2 ^ 31 + at_ 18 16 cause + at_ 13 0 e))
  let s := (s.count Reg.LOOP_FAULT_CNT).cause 0x14 0
  if s.rb Reg.LOOP_CFG 8 then s.event 0x14 0x2100 (pay [e, cause]) else s

/-- Does the element's DAC on the token plane report a short (R162)? -/
def State.scFlag (s : State) (pl : Plane) (e : Nat) : Bool :=
  match pl with
  | .a => s.drv.scA.contains e
  | .b => s.drv.scB.contains e

end Sys2Proof.Machine
end

