-- ==== Sys2Proof/Machine/Matrix.lean ====
section
/-!
DEFINITION. The internal matrix (Ehreri Link R299 to R302, R305): resets of masters, the paths of Table MTX-1, parking, and
what of its traffic the registers show. Grants and bursts themselves have no instants in the manual (assumption log 35).
-/

namespace Sys2Proof.Machine

/-- A reset of master m found a burst in progress: counted and reported with the beats delivered without strobes. -/
def State.burstCut (s : State) (m beats : Nat) : State :=
  let s := (s.count (Reg.MTX_RST_CNT_M0 + 4 * m)).latest Reg.MTX_LAST_RESET m
    (w32 (2 ^ 31 + at_ 19 16 m + at_ 15 0 beats))
  (s.cause 0x0A 0).event 0x0A 0x7010 (pay [m, beats])

/-- The burst a reset of master m finds in progress, if any: the beats it delivers without strobes, a free value of at most
16 (assumption log 45). -/
def State.burstAt (s : State) (m : Nat) : Option Nat := (Config.burstCut m s.elapsed).map fun n => min n 16

/-- Master m is reset (R302), with the burst it is found in. -/
def State.masterReset (s : State) (m : Nat) (burst : Option Nat) : State :=
  match burst with
  | none => s
  | some n => s.burstCut m n

/-- Has target t a path from master m (Table MTX-1)? -/
def pathExists (m t : Nat) : Bool :=
  match m with
  | 0 => true
  | 1 => decide (t ≤ 3)
  | 2 => t == 0 || t == 1 || t == 6
  | 3 => t == 0 || t == 2 || t == 3 || t == 5
  | 4 => t == 0 || t == 2
  | 5 => t == 0 || t == 2 || t == 3
  | 6 => t == 0 || t == 1 || t == 2 || t == 3 || t == 5
  | 7 => t == 0 || t == 1 || t == 6
  | 8 => t == 0 || t == 4
  | _ => false

/-- MTX_PARK_WRITE (R305). -/
def State.parkWrite (s : State) (v : Word) : State × Nat :=
  if (List.range 8).all fun t => pathExists (fld v (4 * t + 3) (4 * t)) t then (s.setReg Reg.MTX_PARK v, cDONE)
  else (s, cBADARG)

/-- The IDs master m has outstanding: none right after a reset (R306), else a free value of at most 16 (R301; assumption
log 35). -/
def State.idsOut (s : State) (m : Nat) : Nat := if s.elapsed = 0 then 0 else min (Config.idsHeld m s.elapsed) 16

/-- Is target t serving a burst (Table EHR-8)? A free value; no burst is served right after a reset (assumption log 35). -/
def State.targetBusy (s : State) (t : Nat) : Bool := decide (s.elapsed ≠ 0) && Config.serving t s.elapsed

/-- As time passes, the longest grant wait at each target may grow, to at most the 60 ns of R300; how far, the manual leaves
outside R17 (R305; assumption log 35). -/
def State.grantWaits (s : State) : State :=
  { s with waits := (List.range 8).foldl (fun w t =>
      tset (fun _ => 0) w t (max (tget (fun _ => 0) w t) (min (Config.grantWait t s.elapsed) 60))) s.waits }

/-- As time passes, RS-FEC of an aligned port corrects codewords (R303): how many, the line decides (assumption log 119). -/
def State.fecCorrects (s : State) (p : Port) : State :=
  let l := s.link p
  if l.fecAlign then
    s.setLink p { l with fecCorr := (l.fecCorr + Config.fecCorrected (portNum p) s.elapsed) % 2 ^ 48 }
  else s

end Sys2Proof.Machine
end

