-- ==== Sys2Proof/Machine/Trace.lean ====
section
/-!
DEFINITION. Trace (Element Loops and Trace R128 to R132): recording entries at updates, triggers, and the TRACE commands.
-/

namespace Sys2Proof.Machine

/-- A trace channel after reset (R133). -/
def traceDefault (_ : Nat) : TraceCh := ⟨0, false, 0, 0, 0, 0, 0, false⟩

/-- A trace channel. -/
def State.traceCh (s : State) (k : Nat) : TraceCh := tget traceDefault s.traces k

/-- The state with f applied to a trace channel. -/
def State.updTrace (s : State) (k : Nat) (f : TraceCh → TraceCh) : State :=
  { s with traces := tset traceDefault s.traces k (f (s.traceCh k)) }

/-- CH_CFG and CH_ELEM of a channel (Table LOOP-29). -/
def chCfg (k : Nat) : Nat := 0x17800 + 16 * k
def chElem (k : Nat) : Nat := 0x17804 + 16 * k

/-- Start of a channel's trace memory (R128). -/
def traceBase (k : Nat) : Nat := 0x30000000 + 0x10000 * k

/-- The 3-bit code of a loop state (Table LOOP-3). -/
def ElSt.code : ElSt → Nat
  | .off => 0
  | .parked => 1
  | .ramp => 2
  | .kick => 3
  | .settle => 4
  | .lock => 5
  | .hold _ => 6
  | .fault _ => 7

/-- What one update offers to a trace: METRIC and GRADIENT where the update formed them, BAND bits, loop and drive code,
step, state, whether it missed its deadline, and whether it is a band exit. -/
structure TraceIn where
  metric : Option Int
  gradient : Option Int
  band : Nat
  code : Nat
  drive : Nat
  step : Int
  st : Nat
  missed : Bool
  exit : Bool
  deriving DecidableEq, Repr

/-- The value of the chosen node (R128). -/
def State.traceValue (s : State) (e node : Nat) (t : TraceIn) : Word :=
  match node with
  | 0 => (t.metric.map i32).getD (Config.traceUnformed e s.elapsed)
  | 1 => (t.gradient.map i32).getD (Config.traceUnformed e s.elapsed)
  | 2 => w32 t.band
  | 3 => half2 t.code t.drive
  | 4 => i32 t.step
  | _ => w32 t.st

/-- Does an armed channel trigger at this update (R129)? -/
def State.traceFires (s : State) (k : Nat) (t : TraceIn) : Bool :=
  match s.rf (chCfg k) 15 13 with
  | 1 => t.exit
  | 2 => t.missed
  | _ => (s.traceCh k).fire

/-- A channel has recorded its last entry (R129). -/
def State.traceDone (s : State) (k : Nat) : State :=
  let s := (s.updTrace k fun c => { c with st := 3 }).cause 0x17 0
  if s.rb 0x17050 0 then s.event 0x17 0x2400 (pay [k]) else s

/-- Record one entry of an update on one channel (R128, R129). -/
def State.traceRecord (s : State) (e : Nat) (pl : Plane) (t : TraceIn) (k : Nat) : State :=
  let c := s.traceCh k
  if s.rf (chElem k) 13 0 ≠ e ∨ (c.st ≠ 1 ∧ c.st ≠ 2) then s
  else
    let seq := (c.seq + 1) % 65536
    let w1 := w32 (flag 31 t.missed + flag 30 (pl == .b) + at_ 29 27 t.st + seq)
    let ns := s.nowNs
    let entry := [s.traceValue e (s.rf (chCfg k) 18 16) t, w1, w32 (ns % 1000000000), w32 (ns / 1000000000)]
    let s := { s with mem := Memory.writeWords s.mem (traceBase k + 16 * c.wrIdx) entry }
    let s := s.updTrace k fun d =>
      { d with seq := seq, wrIdx := (c.wrIdx + 1) % 4096, wrap := d.wrap || c.wrIdx == 4095 }
    if c.st = 1 then
      if s.traceFires k t then
        s.updTrace k fun d =>
          { d with st := 2, trigIdx := c.wrIdx, trigNs := ns % 1000000000, left := s.rf (chCfg k) 11 0, fire := false }
      else s
    else
      let s := s.updTrace k fun d => { d with left := d.left - 1 }
      if c.left ≤ 1 then s.traceDone k else s

/-- Record an update on every channel that follows its element, in channel order. -/
def State.traceUpdate (s : State) (e : Nat) (pl : Plane) (t : TraceIn) : State :=
  s.each (List.range 16) fun s k => s.traceRecord e pl t k

/-- A happening with trigger code kind meets every channel armed with it: 0 HOST, 3 HANDOVER, 4 COMMIT (R129). -/
def State.fireTrig (s : State) (kind mask : Nat) : State :=
  s.each (List.range 16) fun s k =>
    if (s.traceCh k).st = 1 ∧ s.rf (chCfg k) 15 13 = kind ∧ mask.testBit k then
      s.updTrace k fun c => { c with fire := true }
    else s

/-- The channels a TRACE command names. -/
def traceNamed (a0 : Word) : List Nat := (List.range 16).filter fun k => bit a0 k

/-- ARM (R130). -/
def State.traceArm (s : State) (o : Order) (a0 : Word) : State :=
  let l := traceNamed a0
  if l = [] then s.complete 0x17 1 cZERO o
  else if l.any fun k => decide (5 < s.rf (chCfg k) 18 16) || decide (4 < s.rf (chCfg k) 15 13) || decide (9727 < s.rf (chElem k) 13 0)
  then s.complete 0x17 1 cBADARG o
  else if l.any fun k => s.rf (chCfg k) 11 0 == 0 then s.complete 0x17 1 cZERO o
  else
    let busy := l.any fun k => (s.traceCh k).st == 1 || (s.traceCh k).st == 2
    let s := s.each l fun s k =>
      if (s.traceCh k).st = 1 ∨ (s.traceCh k).st = 2 then s else s.updTrace k fun _ => { traceDefault k with st := 1 }
    s.complete 0x17 1 (if busy then cLOCKED else cDONE) o

/-- STOP (R129, R130): the named channels return to IDLE and keep their entries; master M8 is reset (R302). -/
def State.traceStop (s : State) (o : Order) (a0 : Word) : State :=
  let l := traceNamed a0
  if l = [] then s.complete 0x17 2 cZERO o
  else
    let s := s.each l fun s k => s.updTrace k fun c => { c with st := 0, fire := false }
    (s.masterReset 8 (s.burstAt 8)).complete 0x17 2 cDONE o

/-- TRIGGER (R129, R130): channels armed with trigger HOST trigger at their element's next update. -/
def State.traceTrigger (s : State) (o : Order) (a0 : Word) : State :=
  if traceNamed a0 = [] then s.complete 0x17 3 cZERO o
  else (s.fireTrig 0 (fld a0 15 0)).complete 0x17 3 cDONE o

/-- CLEAR (R132): the named channels return to IDLE and their memory reads zero; master M8 is reset (R302). -/
def State.traceClear (s : State) (o : Order) (a0 : Word) : State :=
  let l := traceNamed a0
  if l = [] then s.complete 0x17 4 cZERO o
  else
    let s := s.each l fun s k =>
      let s := s.updTrace k fun _ => traceDefault k
      { s with mem := Memory.wipe s.mem (traceBase k) (traceBase (k + 1)) }
    (s.masterReset 8 (s.burstAt 8)).complete 0x17 4 cDONE o

end Sys2Proof.Machine
end

