-- ==== Sys2Proof/Machine/Tiles.lean ====
section
/-!
DEFINITION. Tiles and converter pairs (Monitor Conversion R136 to R140, R153): the Tile Table record, the sequencer's hold on a
tile (Transitions R99), the sequence in force in a pass, the beginning of settle rounds, and the restart of sequences.
-/

namespace Sys2Proof.Machine

/-- A tile's Tile Table record after reset (Table CONV-5). -/
def tileDefault (_ : Nat) : TileRec := ⟨false, 8, [], [], 0, 0, 0, 0, false, false, false⟩

/-- The state with f applied to a tile's record. -/
def State.updTile (s : State) (t : Nat) (f : TileRec → TileRec) : State :=
  { s with tiles := tset tileDefault s.tiles t (f (tget tileDefault s.tiles t)) }

/-- A tile's record. -/
def State.tile (s : State) (t : Nat) : TileRec := tget tileDefault s.tiles t

/-- Is a tile a port tile? -/
def portTile (t : Nat) : Bool := t / 32 == 0 || t / 32 == 18

/-- Sequence entry i of a tile after reset (Table CONV-2). -/
def seqReset (t i : Nat) : Word := if i < 8 then w32 ((if portTile t then 0x1003 else 0x0007) + 0x20000 * i) else 0

/-- Sequence entry i as the record holds it. -/
def State.seqWord (s : State) (t i : Nat) : Word := (tget (fun _ => none) (s.tile t).seq i).getD (seqReset t i)

/-- Mode and sequence of a tile as its record holds them. -/
def State.sequence (s : State) (t : Nat) : Bool × List Word :=
  ((s.tile t).mode, (List.range (s.tile t).len).map (s.seqWord t))

/-- Acquisition time of a code in ns (Table CONV-10). -/
def acqNs (a : Nat) : Nat := if a = 0 then 12 else if a = 1 then 25 else if a = 2 then 50 else 100

/-- Slot of an entry in ns (R136). -/
def slotNs (w : Word) : Nat := acqNs (fld w 13 12) + 13

/-- A converter pair after reset: it runs the reset sequence from entry 0. -/
def pairDefault (_ : Nat) : Pair := ⟨none, 0, false, [], 0, none, [], 0, none, false⟩

/-- Key of a converter pair. -/
def pairKey (pl : Plane) (t : Nat) : Nat := t + 608 * planeIdx pl

/-- A converter pair. -/
def State.pair (s : State) (pl : Plane) (t : Nat) : Pair := tget pairDefault s.pairs (pairKey pl t)

/-- The state with f applied to a converter pair. -/
def State.updPair (s : State) (pl : Plane) (t : Nat) (f : Pair → Pair) : State :=
  { s with pairs := tset pairDefault s.pairs (pairKey pl t) (f (s.pair pl t)) }

/-- The state with f applied to the conversion record. -/
def State.updConv (s : State) (f : ConvSt → ConvSt) : State := { s with conv := f s.conv }

/-- Has conversion started on a plane since its power came (R154), and the record with its start at an instant? -/
def ConvSt.runs (c : ConvSt) : Plane → Bool
  | .a => c.runA
  | .b => c.runB
def ConvSt.begin_ (c : ConvSt) (pl : Plane) (t : Nat) : ConvSt :=
  match pl with
  | .a => { c with runA := true, beganA := t }
  | .b => { c with runB := true, beganB := t }

/-- The record of a plane whose power has come: its conversion has yet to start (R154). -/
def ConvSt.stop (c : ConvSt) (pl : Plane) : ConvSt :=
  match pl with
  | .a => { c with runA := false }
  | .b => { c with runB := false }

/-- Mode and sequence in force in the running pass of a pair (R138). -/
def Pair.inForce (p : Pair) (t : Nat) : Bool × List Word := p.pass.getD (false, (List.range 8).map (seqReset t))

/-! ### The sequencer's hold on a tile (R99, R140) -/

/-- Is a kicked element of the tile still to leave SETTLE, or to come there, for a circuit short of its timeout (R99)? -/
def State.stillKicked (s : State) (t : Nat) : Bool :=
  (List.range 8).any fun k =>
    let e := elemAt t (2 * k)
    decide (e < 8704)
      && ((s.elem e).st == .settle || (s.elem e).st == .kick || s.trans.waves.any fun w => w.contains e)
      && s.trans.waiting.any fun x => x.2.contains e

/-- Does the sequencer hold a tile in INTERLEAVE (R99): from the hand-over of the first kicked element in it until every one
has left SETTLE or belongs only to circuits past their timeout? -/
def State.tileHeld (s : State) (t : Nat) : Bool := s.trans.held.contains t && s.stillKicked t

/-- Mode and sequence of a pass that begins now: the record's, but INTERLEAVE in a tile that the sequencer holds (R99, R138). -/
def State.passValues (s : State) (t : Nat) : Bool × List Word := (s.tileHeld t || (s.tile t).mode, (s.sequence t).2)

/-- A pass begins: it takes its values and starts at entry 0 (R138). A mode written under a hold of the tile waits on while the
hold lasts (R99; the end of the hold within a pass acts at the next one, log 113). -/
def State.newPass (s : State) (pl : Plane) (t : Nat) : State :=
  let q := s.passValues t
  let held := s.tileHeld t
  s.updPair pl t fun p =>
    { p with pass := some q, ptr := 0, heldMode := if held then p.heldMode else none, bistPass := false }

/-- Cells of a tile whose SW element is in SETTLE, ascending. -/
def State.settling (s : State) (t : Nat) : List Nat :=
  ((List.range 8).map fun k => elemAt t (2 * k)).filterMap fun e =>
    if e < 8704 ∧ (s.elem e).st = .settle then some (e / 2) else none

/-- The served cells of the next round: those served that still settle, then the lowest waiting, at most four (R140). -/
def State.serve (s : State) (t : Nat) (old : List Nat) : List Nat :=
  let all := s.settling t
  let stay := old.filter all.contains
  let wait := all.filter fun c => !(stay.contains c)
  (wait.take (4 - stay.length)).foldl (fun l c => insN c l) stay

/-- Settle rounds begin, at a slot boundary, in a tile that the sequencer holds and where a cell settles (R140). -/
def State.beginRounds (s : State) (pl : Plane) (t : Nat) : State :=
  if s.tileHeld t = true ∧ s.settling t ≠ [] then
    s.updPair pl t fun p => { p with rounds := true, served := s.serve t [], pos := 0 }
  else s

/-- A pair that converts nothing begins settle rounds at once, with a slot of its own (R140; log 113). -/
def State.beginIdle (s : State) (pl : Plane) (t : Nat) : State :=
  let p := s.pair pl t
  if p.cur.isNone ∧ p.rounds = false ∧ (p.inForce t).2[p.ptr]? = none ∧ s.tileHeld t = true ∧ s.settling t ≠ [] then
    (s.updPair pl t fun p => { p with slotAt := s.elapsed }).beginRounds pl t
  else s

/-- A kicked element of a tile has been handed over: the sequencer holds the tile from the first such hand-over on (R99), and
the modes that an earlier hold kept have returned. -/
def State.holdTile (s : State) (t : Nat) : State :=
  let s := if s.tileHeld t then s else (s.updPair .a t fun p => { p with heldMode := none }).updPair .b t fun p => { p with heldMode := none }
  let s : State := { s with trans := { s.trans with held := insN t s.trans.held } }
  (s.beginIdle .a t).beginIdle .b t

/-- The entry pointer moves on; after the last entry the next pass begins (R137). -/
def State.nextEntry (s : State) (pl : Plane) (t : Nat) : State :=
  let p := s.pair pl t
  if p.ptr + 1 < (p.inForce t).2.length then s.updPair pl t fun p => { p with ptr := p.ptr + 1 } else s.newPass pl t

/-- A pair restarts its sequence at entry 0. -/
def State.restartPair (s : State) (pl : Plane) (t : Nat) : State :=
  ((s.updPair pl t fun p => { p with rounds := false, served := [], pos := 0, slotAt := s.elapsed }).newPass pl t).beginIdle pl t

/-- Every pair of a plane restarts its sequence at entry 0 (R151, R152). -/
def State.restartSeq (s : State) (pl : Plane) : State := s.each (List.range 608) fun s t => s.restartPair pl t

/-- Conversion starts on a plane (R154), with a first pass in every pair: one whose record and pair are as reset has it before
it. -/
def State.convStart (s : State) (pl : Plane) : State :=
  let tiles := s.tiles.map (·.1) ++ (s.pairs.filter fun x => x.1 / 608 == planeIdx pl).map fun x => x.1 % 608
  s.each tiles fun s t => s.restartPair pl t

/-! ### Self-calibration in progress (R151, R152) -/

/-- The CAL_STAT state of a plane (Table CONV-19): 1 while a SELF_CAL of it runs. -/
def ConvSt.calOf (c : ConvSt) : Plane → Nat
  | .a => c.calA
  | .b => c.calB

/-- The record with the CAL_STAT state of a plane set. -/
def ConvSt.setCal (c : ConvSt) (pl : Plane) (n : Nat) : ConvSt :=
  match pl with
  | .a => { c with calA := n }
  | .b => { c with calB := n }

/-- Does a plane calibrate: a SELF_CAL of the host, or the one of its START? -/
def State.calibrates (s : State) (pl : Plane) : Bool := s.conv.calOf pl == 1

/-- When the latest SELF_CAL of a plane was accepted. -/
def ConvSt.calAt (c : ConvSt) : Plane → Nat
  | .a => c.atA
  | .b => c.atB

/-- A SELF_CAL of a plane is accepted (R151). -/
def State.calStart (s : State) (pl : Plane) : State :=
  { s with conv := match pl with
    | .a => { s.conv with calA := 1, atA := s.elapsed }
    | .b => { s.conv with calB := 1, atB := s.elapsed } }

/-- A SELF_CAL of a plane stops in every tile at once with the old factors, sequences restart at entry 0, and an order of the
host completes with ABORTED (R152): at a grant of the token, and when the plane fails (assumption log 134). -/
def State.calAbort (s : State) (pl : Plane) : State :=
  if s.calibrates pl = false then s
  else
    let ord := s.conv.cal.filter fun c => c.1 == pl
    let s : State := { s with conv := { s.conv.setCal pl 4 with cal := if ord.isSome then none else s.conv.cal } }
    let s := s.restartSeq pl
    match ord with
    | none => s
    | some (_, o) => s.complete 0x15 1 cABORTED o

end Sys2Proof.Machine
end

