-- ==== Sys2Proof/Machine/Transition.lean ====
section
/-!
DEFINITION. The transition sequencer (Transitions Under Live Light R87 to R110): the sets of a transition, blanking, kicks
and steps by waves, settling, unblanking and timeouts, the end of a transition, and what safe-hold, nCLR, the loss of both
planes and a handover do to one that runs.
-/

namespace Sys2Proof.Machine

/-- The state with f applied to the sequencer's record. -/
def State.updTrans (s : State) (f : Trans → Trans) : State := { s with trans := f s.trans }

/-- An event of page SHEEP carries the epoch of its transition (R61, R111). -/
def State.sheepEvent (s : State) (code : Nat) (payload : List Word) : State :=
  s.eventAt 0x12 code 7 0 s.trans.epoch payload

/-- An event about output q carries the epoch of the transition that last affected it. -/
def State.outputEvent (s : State) (code q : Nat) : State :=
  s.eventAt 0x12 code 7 0 (tget (fun _ => 0) s.trans.epochs q) (pay [q])

/-! ### Sets (R87) -/

/-- Affected outputs between two maps (Table TRANS-1). -/
def affectedOutputs (old new : CMap) : List Nat :=
  (List.range 512).filter fun q => let k := category old new q; k == 1 || k == 2 || k == 3 || k == 5

/-- Inputs that feed an affected output in either map, ascending. -/
def affectedInputs (old new : CMap) (outs : List Nat) : List Nat :=
  (old ++ new).foldl (fun acc c => if outs.contains c.out then insN c.inp acc else acc) []

/-- Moving cells: their state differs between the maps. -/
def movingCells (old new : CMap) : List Nat := (List.range 4352).filter fun c => old.cell c != new.cell c

/-- Cells on the path of a SAFETY circuit of a map. -/
def safetyCells (m : CMap) : List Nat := CMap.lit (m.filter fun c => c.cls == 0)

/-- The settle set of a circuit: the kicked elements on its path in the committed map (R87). -/
def settleSet (kicked : List Nat) (c : Circuit) : List Nat :=
  (c.path.map fun h => swOf h.cell).filter fun e => kicked.contains e

/-- Groups of n elements in order (R97). -/
def chunk (n : Nat) : Nat → List Nat → List (List Nat)
  | 0, _ => []
  | _ + 1, [] => []
  | k + 1, l => l.take n :: chunk n k (l.drop n)

/-- The waves of a transition (R97): all SAFETY elements with the first n others, then n at a time. -/
def wavesOf (safety others : List Nat) (n : Nat) : List (List Nat) :=
  if safety = [] ∧ others = [] then [] else (safety ++ others.take n) :: chunk n others.length (others.drop n)

/-! ### End of a transition (R96, R102) -/

/-- Fold the offsets: a compensated element's loop code becomes its drive code, on each plane (R96). -/
def State.foldOffsets (s : State) : State :=
  let codes := s.trans.comp.map fun i => (i, s.driveCode .a i, s.driveCode .b i)
  let s := codes.foldl (fun s x => (s.updLp .a x.1 fun l => { l with code := some x.2.1 }).updLp .b x.1 fun l =>
    { l with code := some x.2.2 }) s
  s.updTrans fun t => { t with sources := [], comp := [] }

/-- The transition ends with its report (R102). Ports it leaves without a circuit, which stay blanked under R28, stay in the
lists of blanked outputs and inputs until the next commit (DESIGN CHOICE, log 152). -/
def State.endTransition (s : State) : State :=
  let t := s.trans
  let left := (t.unsettled.filter fun x => t.mine.contains x.1).length
  let s := s.foldOffsets
  let s := s.setReg Reg.SHEEP_LAST_MOVE (w32 (at_ 28 16 t.nKicked + at_ 12 0 t.nParking))
  let s := s.setReg Reg.SHEEP_LAST_PORTS (w32 (at_ 25 16 t.nOut + at_ 9 0 t.nIn))
  let s := s.setReg Reg.SHEEP_LAST_WAVES (w32 (at_ 28 16 t.comp.length + at_ 12 0 t.nWaves))
  let s := s.setReg Reg.SHEEP_LAST_NS (w32 ((s.now - t.startNow) / nsUnit))
  let s := s.setReg Reg.SHEEP_LAST_EPOCH (w32 t.epoch)
  let s := (s.updTrans fun t => { t with running := false, abandon := 0 }).cause 0x12 0
  if t.doneEvt then s.sheepEvent 0x1300 (pay [t.nKicked, t.nParking, left]) else s

/-- End the transition if nothing it waits for is left: wave 1, kicks and circuits under R102 and R107; under R108, which
abandoned it, the circuits to recover, and then without the report of R102 (the model's choice, log 133). -/
def State.checkEnd (s : State) : State :=
  let t := s.trans
  if t.running = false ∨ t.waiting ≠ [] ∨ t.waveAt.isSome then s
  else if t.abandon ≤ 1 then if t.kicking = [] ∧ t.waves = [] then s.endTransition else s
  else if t.recovered then s.updTrans fun t => { t with running := false, abandon := 0 } else s

/-! ### Unblanking (R101, R103, R104) -/

/-- Unblank the circuit of output q of the active map: both VOAs to their unblank codes, and an arrival check is due where the
ARRIVAL_EN sampled at the latest commit is 1, also where a late unblank comes after its transition (DESIGN CHOICE, log 171). -/
def State.unblankCircuit (s : State) (q : Nat) : State :=
  match s.epoch.active.at_ q with
  | none => s
  | some c =>
    let s := (s.unblank (ovoaOf q)).unblank (ivoaOf c.inp)
    let due := if s.trans.arrEn then [(q, s.elapsed + ns 100)] else []
    s.updTrans fun t => { t with
      blankOut := t.blankOut.filter (· != q)
      blankIn := t.blankIn.filter (· != c.inp)
      arrivalDue := (t.arrivalDue.filter fun x => x.1 != q) ++ due }

/-- A circuit that settles after its timeout, or that R108 recovers, is reported as it unblanks (R103, R108). -/
def State.lateUnblank (s : State) (q : Nat) : State :=
  (((s.unblankCircuit q).updTrans fun t => { t with unsettled := t.unsettled.filter fun x => x.1 != q }).cause 0x12 2).outputEvent
    0x1302 q

/-- Is every element of a settle set settled? -/
def Trans.done (t : Trans) (l : List Nat) : Bool := l.all fun e => t.settled.contains e

/-- Unblank every circuit whose settle set has settled (a circuit of the running transition not before step 3), and end
the transition if it is complete. A circuit that safe-hold keeps dark is in neither list. -/
def State.checkSettled (s : State) : State :=
  if s.drv.clearing then s
  else
    let t := s.trans
    let now := if t.waveAt.isSome then [] else (t.waiting.filter fun x => t.done x.2).map (·.1)
    let late := (t.unsettled.filter fun x => t.done x.2).map (·.1)
    let s := s.each now fun s q =>
      let s := s.updTrans fun t => { t with waiting := t.waiting.filter fun x => x.1 != q }
      if 2 ≤ t.abandon then s.lateUnblank q else s.unblankCircuit q
    (s.each late fun s q => s.lateUnblank q).checkEnd

/-- Is element e in the settle set of a circuit that is not unblanked? -/
def Trans.needs (t : Trans) (e : Nat) : Bool := t.waiting.any (fun x => x.2.contains e) || t.unsettled.any fun x => x.2.contains e

/-- A kicked element has settled, or reaches LOCK in a recovery (R98, R108). -/
def State.elemSettled (s : State) (e : Nat) : State :=
  if s.trans.needs e then (s.updTrans fun t => { t with settled := insN e t.settled }).checkSettled else s

/-- The update period of an element in units of 0.25 µs (R98, R103). -/
def State.updPeriod (s : State) (e : Nat) : Nat :=
  if e < 8704 ∧ e % 2 = 0 ∧ (s.elem e).st = .settle ∧ (s.trans.waiting.any fun x => x.2.contains e) then s.trans.per
  else s.elPer e

/-- SETTLE_TIMEOUT of output q (R103). -/
def State.settleTimeout (s : State) (q : Nat) : State :=
  match s.trans.waiting.find? fun x => x.1 == q with
  | none => s
  | some x =>
    if s.elapsed < s.trans.start + us s.trans.to_ ∨ (2 ≤ s.trans.abandon ∧ s.trans.recovered = false) then s
    else
      let s := s.updTrans fun t =>
        { t with waiting := t.waiting.filter fun y => y.1 != q, unsettled := t.unsettled ++ [x] }
      (((s.count Reg.SHEEP_TIMEOUT_CNT).cause 0x12 1).outputEvent 0x1301 q).checkEnd

/-! ### Kicks, steps and parking (R92 to R97) -/


/-- Hand-over from the kick to the loop (R91, R119): the loop starts from the target code, its direction that of the move, and
the sequencer holds the element's tile (R99). -/
def State.handOver (s : State) (e : Nat) : State :=
  let x := s.elem e
  let s := (s.setSt e .settle).setCode e x.kickTo
  let s := s.updLps e fun l => { l with
    down := if x.kickTo = x.kickFrom then l.down else decide (x.kickTo < x.kickFrom), pend := 0, run := 0 }
  (s.fresh e).holdTile (tileOf e)

/-- A stepped element is driven at its target code and enters SETTLE (R95). -/
def State.stepElem (s : State) (e : Nat) : State :=
  if s.scFault e then s
  else
    let c := s.targetCode e (s.actCell (e / 2))
    (((s.setSt e .settle).setCode e c).updLps e fun l => { l with run := 0 }).fresh e

/-- A kicked element begins its kick, or is handed over at once where its kick time is zero (R94). -/
def State.kickElem (s : State) (e : Nat) : State :=
  let s := s.stepElem (e + 1)
  if s.scFault e then s
  else
    let new := s.targetCode e (s.actCell (e / 2))
    let kt := kickTime s.fuse e
    let f := if s.trans.safe.contains (e / 2) then 256 else s.trans.f
    let old := (s.elem e).kickFrom
    let s := (s.setSt e .kick).updLps e fun l => { l with pend := 0 }
    let s := s.updElem e fun x => { x with
      kickTo := new, kickCode := kickCodeOf (overdrive s.fuse e) f old new, kickEnd := s.elapsed + ns (kt * 50) }
    if kt = 0 then s.handOver e else s.updTrans fun t => { t with kicking := t.kicking ++ [e] }

/-- Begin waves while no kick is in progress and wave 1 is not still to come (R97). -/
def State.nextWaves (s : State) : List (List Nat) → State
  | [] => s.updTrans fun t => { t with waves := [] }
  | w :: rest =>
    if s.trans.kicking ≠ [] ∨ s.trans.waveAt.isSome then s.updTrans fun t => { t with waves := w :: rest }
    else (s.each w fun s e => s.kickElem e).nextWaves rest

/-- KICK_END of element e: hand-over, the next wave when every kick of the wave has ended, and the end if it is due. -/
def State.kickEnd (s : State) (e : Nat) : State :=
  if (s.elem e).st ≠ .kick ∨ s.elapsed < (s.elem e).kickEnd then s
  else
    let s := s.handOver e
    let s := s.updTrans fun t => { t with kicking := t.kicking.filter (· != e) }
    (s.nextWaves s.trans.waves).checkSettled

/-! ### A transition begins (R87 to R90) -/

/-- Cells that enter PARK in the running transition. -/
def State.parkingCells (s : State) : List Nat :=
  (movingCells s.trans.before s.epoch.active).filter fun c => s.epoch.active.cell c == .park

/-- The elements of the parking cells at their target codes (R95). -/
def State.parkCells (s : State) : State :=
  s.each s.parkingCells fun s c => [swOf c, trOf c].foldl (fun s e => if s.scFault e then s else s.park e) s

/-- Does an element of a moving cell differ in drive from its code at the commit instant at any moment of the transition
(R87)? Asked as wave 1 has begun: later waves are judged by their codes to come. -/
def State.isSource (s : State) (e code : Nat) : Bool :=
  !(s.scFault e) &&
    match s.epoch.active.cell (e / 2) with
    | .park => s.plainDrive s.lead e != code
    | lit =>
      let c := s.targetCode e lit
      let f := if s.trans.safe.contains (e / 2) then 256 else s.trans.f
      c != code || (e % 2 == 0 && kickTime s.fuse e != 0 && kickCodeOf (overdrive s.fuse e) f code c != code)

/-- The elements that the neighbour list of an element names: those with a coefficient that is not zero (R96). -/
def State.listed (s : State) (e : Nat) : List Nat :=
  (List.range 8).filterMap fun r =>
    if neighbourCoef s.fuse (e / 512 + 1) (e % 2) r = 0 then none else neighbour e r

/-- Wave 1 begins (Table TRANS-2, steps 3 and 4): kicks, steps and parking, and the compensated elements with their first
offsets. A circuit without a settle set is settled. In a transition that only parks, too, the parking elements are sources;
its offsets are folded at once, as it ends (DESIGN CHOICE, log 170). -/
def State.waveStart (s : State) : State :=
  let old := s.trans.before
  let new := s.epoch.active
  let s := (s.updTrans fun t => { t with waveAt := none }).parkCells
  let s := s.nextWaves s.trans.waves
  let src := s.trans.sources.filter fun x => s.isSource x.1 x.2
  let comp := (src.flatMap fun x => s.listed x.1).foldl (fun acc i =>
    if old.cell (i / 2) != .park && old.cell (i / 2) == new.cell (i / 2) then insN i acc else acc) []
  (s.updTrans fun t => { t with sources := src, comp := comp }).checkSettled

/-- Start the transition from the old map to the active map (R87): the sets, what is sampled, and blanking. Wave 1 begins 40
ns later, the earliest instant of Table TRANS-2 (assumption log 24); a transition that touches nothing ends at once (R89). A
cell the map parks is taken to enter PARK at the commit: the WARM it has then comes into force, and one written before the
transition ends waits for the cell's next entry (DESIGN CHOICE, log 150). -/
def State.startTransition (s : State) (old : CMap) : State :=
  let new := s.epoch.active
  let pl := s.lead
  let outs := affectedOutputs old new
  let ins := affectedInputs old new outs
  let moving := movingCells old new
  let lit := moving.filter fun c => new.cell c != .park
  let kicked := lit.map swOf
  let safe := safetyCells old ++ safetyCells new
  let waves := wavesOf (kicked.filter fun e => safe.contains (e / 2)) (kicked.filter fun e => !(safe.contains (e / 2))) s.therm.n
  let movers := (moving.flatMap fun c => [swOf c, trOf c]).map fun e => (e, s.driveCode pl e)
  let left := s.trans.unsettled.filter fun x => !(outs.contains x.1)
  let leftIn := left.filterMap fun x => (new.at_ x.1).map (·.inp)
  let s := s.updTrans fun t => { t with
    running := true, abandon := 0, epoch := s.epoch.act, start := s.elapsed, startNow := s.now, recovered := false
    per := s.rf Reg.SHEEP_SETTLE 23 16, m := s.rf Reg.SHEEP_SETTLE 3 0, band := s.rf Reg.SHEEP_SETTLE_BAND 15 0
    to_ := s.rf Reg.SHEEP_SETTLE_TO 15 0, f := s.therm.f, n := s.therm.n
    doneEvt := s.rb Reg.SHEEP_CFG 0, arrEn := s.rb Reg.SHEEP_CFG 1
    mine := outs
    epochs := outs.foldl (fun t q => tset (fun _ => 0) t q s.epoch.act) t.epochs
    waveAt := if outs = [] ∧ moving = [] then none else some (s.elapsed + ns 40)
    before := old, safe := safe
    waiting := (new.filter fun c => outs.contains c.out).map fun c => (c.out, settleSet kicked c)
    unsettled := left
    settled := t.settled.filter fun e => !(kicked.contains e)
    blankOut := left.foldl (fun acc x => insN x.1 acc) outs, blankIn := leftIn.foldl (fun acc p => insN p acc) ins
    kicking := [], waves := waves, sources := movers, comp := [], held := []
    nKicked := kicked.length, nParking := moving.length - lit.length, nOut := outs.length, nIn := ins.length
    nWaves := waves.length
    arrivalDue := t.arrivalDue.filter fun x => !(outs.contains x.1) }
  let s := { s with drv := { s.drv with
      relight := s.drv.relight.filter fun r => !(outs.contains r.out)
      inWait := s.drv.inWait.filter fun x => !(ins.contains x.1) } }
  let s := s.each outs fun s q => s.blank (ovoaOf q)
  let s := s.each ins fun s p => s.blank (ivoaOf p)
  let s := movers.foldl (fun s x => s.updElem x.1 fun y => { y with kickFrom := x.2 }) s
  let s := s.each s.parkingCells fun s c => s.updCell c fun r => { r with inForce := r.warm }
  s.checkSettled

/-! ### Collisions (R106 to R108) -/

/-- Safe-hold begins during a transition (R107): it continues for the affected SAFETY circuits only. Where wave 1 has not begun,
the parking elements are parked at once, and not frozen (DESIGN CHOICE, log 172). -/
def State.transSafe (s : State) : State :=
  let t := s.trans
  let m := s.epoch.active
  let isSafe (q : Nat) : Bool := match m.at_ q with | some c => c.cls == 0 | none => false
  let keep := safetyCells (m.filter fun c => t.mine.contains c.out)
  let hold (s : State) (e : Nat) (target : Bool) : State :=
    if s.scFault e then s
    else
      let s := if target then s.setCode e (s.targetCode e (s.actCell (e / 2))) else s
      s.enterHold e 3 .loop
  let s := if t.running ∧ t.abandon = 0 then
      let s := if t.waveAt.isSome then s.parkCells else s
      let s := s.each (t.kicking.filter fun e => !(keep.contains (e / 2))) fun s e => hold s e true
      let s := s.each (t.waves.flatten.filter fun e => !(keep.contains (e / 2))) fun s e => hold (hold s e true) (e + 1) true
      let waves := (t.waves.map fun w => w.filter fun e => keep.contains (e / 2)).filter (· != [])
      let s := s.updTrans fun t => { t with
        abandon := 1
        kicking := t.kicking.filter fun e => keep.contains (e / 2)
        waves := waves
        waveAt := if waves = [] ∧ (t.waiting.all fun x => !(isSafe x.1)) then none else t.waveAt }
      ((s.count Reg.SHEEP_ABANDON_CNT).cause 0x12 3).sheepEvent 0x1303 (pay [1])
    else s
  let dark := ((t.waiting ++ t.unsettled).map (·.1)).filter fun q => !(isSafe q)
  let s := s.each dark fun s q =>
    match m.at_ q with
    | none => s
    | some c => [ovoaOf q, ivoaOf c.inp].foldl (fun s e => (s.setCode e (s.unblankCode e)).enterHold e 3 .blank) s
  let s := s.updTrans fun t => { t with
    waiting := t.waiting.filter fun x => isSafe x.1
    unsettled := t.unsettled.filter fun x => isSafe x.1
    blankOut := t.blankOut.filter fun q => !(dark.contains q)
    blankIn := t.blankIn.filter fun p => !(dark.any fun q => (m.at_ q).map (·.inp) == some p) }
  (s.nextWaves s.trans.waves).checkEnd

/-- Clear begins during a transition (R108): nothing more is kicked or parked, and every offset is discarded. Circuits still
unsettled take part in the recovery. -/
def State.transClear (s : State) (cause : Nat) : State :=
  let s := s.updTrans fun t => { t with
    kicking := [], waves := [], waveAt := none, sources := [], comp := [], settled := [], recovered := false
    held := [] }
  if s.trans.running then
    let s := s.updTrans fun t => { t with abandon := cause }
    ((s.count Reg.SHEEP_ABANDON_CNT).cause 0x12 3).sheepEvent 0x1303 (pay [cause])
  else s

/-- Outputs whose circuits R108 recovers. -/
def Trans.toRecover (t : Trans) : List Nat := (t.waiting ++ t.unsettled).map (·.1)

/-- Clear has ended (R108): the VOAs of the circuits to recover are driven to blanking, and the timeout runs from here. -/
def State.transRecover (s : State) : State :=
  let m := s.epoch.active
  let s := s.each s.trans.toRecover fun s q =>
    match m.at_ q with
    | none => s
    | some c => (s.blank (ovoaOf q)).blank (ivoaOf c.inp)
  (s.updTrans fun t => { t with
    recovered := true, start := s.elapsed
    blankOut := t.toRecover.foldl (fun acc q => insN q acc) []
    blankIn := t.toRecover.foldl (fun acc q => match m.at_ q with | some c => insN c.inp acc | none => acc) [] }).checkSettled

/-- A handover during a transition (R106): kicks end at their target codes, settling elements start their run afresh on the
new plane, and compensated elements are driven with offsets of the codes now driven. -/
def State.transHandover (s : State) : State :=
  if s.trans.running = false then s
  else
    let s := s.each s.trans.kicking fun s e => s.handOver e
    let s := s.updTrans fun t => { t with kicking := [] }
    let s := s.each (s.elems.map (·.1)) fun s e =>
      if (s.elem e).st = .settle then s.updLps e fun l => { l with run := 0 } else s
    let s := s.each s.trans.comp fun s e => s.updLps e fun l => { l with dac := none }
    let s := ((s.count Reg.SHEEP_HANDOVER_CNT).cause 0x12 4).sheepEvent 0x1304 []
    (s.nextWaves s.trans.waves).checkSettled

/-! ### Arrival checks (R104) -/

/-- Is output q's arrival injection due? -/
def State.arrivalIsDue (s : State) (q : Nat) : Bool := s.trans.arrivalDue.any fun x => x.1 == q && decide (x.2 ≤ s.elapsed)

/-- Write output q's arrival entry. -/
def State.setArrival (s : State) (q v : Nat) : State :=
  s.updTrans fun t => { t with arrival := tset (fun _ => 0x8000) t.arrival q v }

end Sys2Proof.Machine
end

