-- ==== Sys2Proof/Machine/Clear.lean ====
section
/-!
DEFINITION. Clear and relight (Element Drive R164 to R166, R173): entering and leaving clear, the steps by which elements
and VOAs come back, and the same steps at a safe-hold exit (R198, R199).
-/

namespace Sys2Proof.Machine

/-- The state with f applied to the drive record. -/
def State.updDrv (s : State) (f : Drive → Drive) : State := { s with drv := f s.drv }

/-- Every element that has a record, in ascending order. -/
def State.touched (s : State) : List Nat := s.elems.map (·.1)

/-- Cells on SAFETY paths of the active map. -/
def State.safeCells (s : State) : List Nat := safetyCells s.epoch.active

/-- Clear begins, or a silent start-up clear is now reported, with a cause (R164, R165, R173): 1 NCLR, 2 PLANES. -/
def State.clearEnter (s : State) (cause : Nat) : State :=
  if s.drv.clearing ∧ s.drv.silent = false then s
  else
    let s := s.updDrv fun d => { d with clearing := true, silent := false, inWait := [], relight := [] }
    let s := s.each s.touched fun s e => if (s.elem e).st = .off then s else s.enterHold e 2 .clear
    let s := s.cause 0x16 1
    let s := if s.rb Reg.DRV_CFG 1 then s.event 0x16 0x2301 (pay [cause]) else s
    s.transClear (cause + 1)

/-- A circuit's VOAs come back under steps 2 to 4 of R166; in the meantime each is driven as given. -/
def State.relightVoas (s : State) (cause : Nat) (d : HoldDrive) (c : Circuit) : State :=
  let i := ivoaOf c.inp
  let o := ovoaOf c.out
  let same (e : Nat) : Bool := s.clearCode e == s.loopCode s.lead e
  let inNow := same i
  let s := if inNow then s.enterRamp i
    else (s.enterHold i cause d).updDrv fun r => { r with inWait := r.inWait ++ [(c.inp, s.elapsed)] }
  if same o then s.enterRamp o
  else (s.enterHold o cause d).updDrv fun r =>
    { r with relight := r.relight ++ [⟨c.out, if inNow then some s.elapsed else none, false, []⟩] }

/-- The elements of a lit cell come back under step 1 of R166. -/
def State.relightCell (s : State) (c : Nat) : State := (s.enterRamp (swOf c)).enterRamp (trOf c)

/-- Clear ends: steps 1 to 5 of R166, R108 for the circuits it recovers, and R198 while safe-hold stands. -/
def State.clearExit (s : State) : State :=
  let m := s.epoch.active
  let quiet := s.drv.silent
  let rec_ := s.trans.toRecover
  let s := s.updDrv fun d => { d with clearing := false, silent := false, inWait := [], relight := [] }
  let s := if quiet then s else
    let s := s.cause 0x16 2
    if s.rb Reg.DRV_CFG 1 then s.event 0x16 0x2302 [] else s
  let lit := CMap.lit m
  let keep := s.safeCells
  let s := s.each s.touched fun s e =>
    if e < 8704 then (if lit.contains (e / 2) then s else s.park e)
    else if e < 9216 then (if (m.from_ (e - 8704)).isSome then s else s.blank e)
    else if (m.at_ (e - 9216)).isSome then s else s.blank e
  let s := s.each lit fun s c =>
    if s.safe.active && !(keep.contains c) then (s.enterHold (swOf c) 3 .loop).enterHold (trOf c) 3 .loop
    else s.relightCell c
  let s := m.foldl (fun s c =>
    if rec_.contains c.out then s
    else if s.safe.active && c.cls != 0 then (s.enterHold (ivoaOf c.inp) 3 .blank).enterHold (ovoaOf c.out) 3 .blank
    else s.relightVoas 2 .clear c) s
  let s := s.transRecover
  if s.safe.active then s.transSafe else s

/-- INPUT_VOA_RELEASE of input p (R166, step 3): 10 µs after the exit. -/
def State.inputVoaRelease (s : State) (p : Nat) : State :=
  match s.drv.inWait.find? fun x => x.1 == p with
  | none => s
  | some x =>
    if s.elapsed < x.2 + us 10 then s
    else
      let s := s.updDrv fun d => { d with inWait := d.inWait.filter fun y => y.1 != p }
      let s := s.enterRamp (ivoaOf p)
      match s.epoch.active.from_ p with
      | none => s
      | some c => s.updDrv fun d => { d with relight := d.relight.map fun r =>
          if r.out = c.out ∧ r.releaseAt.isNone then { r with releaseAt := some s.elapsed } else r }

/-- RELIGHT_TIMEOUT of output q (R166). -/
def State.relightTimeout (s : State) (q : Nat) : State :=
  match s.drv.relight.find? fun r => r.out == q with
  | none => s
  | some r =>
    match r.releaseAt with
    | none => s
    | some t =>
      if r.timedOut ∨ s.elapsed ≤ t + us (s.rf Reg.SHEEP_SETTLE_TO 15 0) then s
      else
        let s := s.updDrv fun d => { d with relight := d.relight.map fun x => if x.out = q then { x with timedOut := true } else x }
        ((s.count Reg.DRV_RELIGHT_TO_CNT).cause 0x16 3).event 0x16 0x2303 (pay [q])

/-- A complete or missed update of SW element e counts toward the waits of step 4 (R166): in-band updates in a row after
the circuit's release instant, a finished run staying finished; an output whose path is done is driven at its held loop
code. -/
def State.relightRun (s : State) (e : Nat) (inBand : Bool) : State :=
  let need := s.rf Reg.SHEEP_SETTLE 3 0
  s.drv.relight.foldl (fun s r =>
    match r.releaseAt, s.epoch.active.at_ r.out with
    | some _, some c =>
      let path := c.path.map fun h => swOf h.cell
      if path.contains e then
        let n := tget (fun _ => 0) r.runs e
        let runs := tset (fun _ => 0) r.runs e (if need ≤ n then n else if inBand then n + 1 else 0)
        if path.all fun x => decide (need ≤ tget (fun _ => 0) runs x) then
          (s.updDrv fun d => { d with relight := d.relight.filter fun x => x.out != r.out }).enterRamp (ovoaOf r.out)
        else s.updDrv fun d => { d with relight := d.relight.map fun x => if x.out = r.out then { x with runs := runs } else x }
      else s
    | _, _ => s) s

/-- NCLR_FALL: nCLR is recognised low (R164). -/
def State.nclrFall (s : State) : State :=
  if s.drv.nclrLow then s
  else ((s.updDrv fun d => { d with nclrLow := true }).count Reg.DRV_NCLR_CNT).clearEnter 1

/-- NCLR_RISE: nCLR is recognised high; clear ends if a plane holds the token (R166). -/
def State.nclrRise (s : State) : State :=
  if s.drv.nclrLow = false then s
  else
    let s := s.updDrv fun d => { d with nclrLow := false }
    if s.drv.clearing ∧ s.token.holder.isSome then s.clearExit else s

/-! ### Safe-hold's elements (R197, R199) -/

/-- Freeze what carries no SAFETY circuit, and blank the VOAs of the other circuits (R197). -/
def State.safeFreeze (s : State) : State :=
  let s := s.transSafe
  let keep := s.safeCells
  let pl := s.lead
  let s := s.each ((CMap.lit s.epoch.active).filter fun c => !(keep.contains c)) fun s c =>
    [swOf c, trOf c].foldl (fun s e =>
      let st := (s.elem e).st
      if st = .lock ∨ st = .settle ∨ st = .ramp ∨ st = .kick then
        let s := if s.trans.comp.contains e then s.setCode e (s.driveCode pl e) else s
        s.enterHold e 3 .loop
      else s) s
  let dark := s.epoch.active.filter fun c => c.cls != 0
  let s := s.updDrv fun d => { d with
    relight := d.relight.filter fun r => !(dark.any fun c => c.out == r.out)
    inWait := d.inWait.filter fun x => !(dark.any fun c => c.inp == x.1) }
  dark.foldl (fun s c => (s.enterHold (ivoaOf c.inp) 3 .blank).enterHold (ovoaOf c.out) 3 .blank) s

/-- The safe-hold exit: every element in HOLD with cause SAFE_HOLD leaves it under steps 1 to 5 of R166 (R199). -/
def State.safeThaw (s : State) : State :=
  let held (e : Nat) : Bool := (s.elem e).st == .hold 3
  let voas := s.epoch.active.filter fun c => held (ovoaOf c.out)
  let m := s.epoch.active
  let s := s.each s.touched fun s e =>
    if (s.elem e).st ≠ .hold 3 then s
    else if e < 8704 then (if m.cell (e / 2) = .park then s.park e else s.enterRamp e)
    else if e < 9216 then (if (m.from_ (e - 8704)).isSome then s else s.blank e)
    else if (m.at_ (e - 9216)).isSome then s else s.blank e
  voas.foldl (fun s c => s.relightVoas 3 .blank c) s

end Sys2Proof.Machine
end

