-- ==== Sys2Proof/Machine/Planes.lean ====
section
/-!
DEFINITION. Drive planes and the token (Drive Planes, Feeds, Token and Safe-Hold R175 to R193): health, fences and grants,
handovers, loss of both planes, lease and heartbeat, faults, restart, resynchronisation and mismatches.
-/

namespace Sys2Proof.Machine

/-- The state with f applied to a plane's record. -/
def State.updPlane (s : State) (pl : Plane) (f : PlaneRec → PlaneRec) : State := s.setPlane pl (f (s.plane pl))

/-- The state with f applied to the token cell. -/
def State.updToken (s : State) (f : TokenSt → TokenSt) : State := { s with token := f s.token }

/-- The 3-bit code of a plane state (Table PLANE-2). -/
def PlaneSt.code : PlaneSt → Nat
  | .off => 0
  | .start => 1
  | .standby => 2
  | .active => 3
  | .fenced => 4
  | .failed => 5
  | .cleardrv => 6

/-! ### Health (R189) -/

/-- The standing defects of a plane, bits of Table PLANE-7. -/
def PlaneRec.defects (p : PlaneRec) : Nat :=
  flag 0 p.bistFail + flag 1 (p.warn != []) + flag 2 p.sc + flag 3 p.mismatchLost + flag 4 p.calFail + flag 5 p.ring
    + flag 6 (p.pg && !p.valid)

/-- The health score of a plane (R189). -/
def PlaneRec.score (p : PlaneRec) : Nat :=
  let w (b : Bool) (n : Nat) : Nat := if b then n else 0
  255 - (w p.bistFail 255 + w (p.warn != []) 128 + w p.sc 96 + w p.mismatchLost 64 + w p.calFail 48 + w p.ring 48
    + w (p.pg && !p.valid) 32)

/-- Is a plane healthy (R189)? -/
def State.healthy (s : State) (pl : Plane) : Bool := decide (s.rf Reg.TOKEN_CFG 7 0 ≤ (s.plane pl).score)

/-! ### Fences and grants (R177, R181, R185) -/

/-- The codes a hold cell records of every element at a fence (R181), with the code whose current it holds. -/
def State.record (s : State) (pl : Plane) : List HoldRec :=
  s.touched.map fun e => ⟨e, s.dacCode pl e, s.loopCode pl e, s.outCode e⟩

/-- The fenced plane's elements are marked with what was recorded of them; a change of an element in the gap takes its mark
away (State.setSt, State.setCode). -/
def State.markRecorded (s : State) (pl : Plane) (codes : List HoldRec) : State :=
  codes.foldl (fun s r => s.updLp pl r.elem fun l => { l with dac := some r.dac }) s

/-- The token cell signals TOKEN_FREE: a STANDBY plane requests the token (R179). -/
def State.tokenSignal (s : State) : State :=
  let ask (s : State) (pl : Plane) : State :=
    if (s.plane pl).st = .standby then s.updPlane pl fun p => { p with request := true } else s
  ask (ask s .a) .b

/-- The holder is fenced: hold cells hold and record, and the token is in passage (R177, R181). Cause 1 FAULT, 2 LEASE. -/
def State.fence (s : State) (cause : Nat) : State :=
  match s.token.holder with
  | none => s
  | some h =>
    let codes := s.record h
    ((s.markRecorded h codes).updToken fun t => { t with
      holder := none, free := false, fenceAt := some s.elapsed, fenceCause := cause, old := some h, codes := codes }).tokenSignal

/-- Comparison of every element starts afresh (R187, R188). -/
def State.compareAfresh (s : State) : State :=
  s.each s.touched fun s e => s.updLp .a e fun l => { l with div := 0 }


/-- The token cell's clear grant while both planes are lost (R185): to a FAILED plane with sound regulators, rather one
whose cause is neither DACREF nor SWITCH, rather plane A; with none, the hold cells take their presets. Once a PLANE_RESTART
has withdrawn a clear grant the presets stay, while the plane runs START and after it has failed it, for either plane until a
grant of the token (R186; DESIGN CHOICE, log 157). -/
def State.clearGrant (s : State) : State :=
  if s.token.free = false ∨ s.token.holder.isSome ∨ s.pla.st = .cleardrv ∨ s.plb.st = .cleardrv then s
  else
    let fit (p : PlaneRec) : Bool := p.st == .failed && p.fail == [] && !s.pla.noClear && !s.plb.noClear
    let good (p : PlaneRec) : Bool := fit p && p.cause != 3 && p.cause != 4
    let pick := if good s.pla then some Plane.a else if good s.plb then some Plane.b
      else if fit s.pla then some Plane.a else if fit s.plb then some Plane.b else none
    match pick with
    | some pl => (s.updPlane pl fun p => { p with st := .cleardrv }).updDrv fun d => { d with preset := s.dev.fuseOk.isNone }
    | none => s.updDrv fun d => { d with preset := true }

/-- What the new holder takes over of an element (R181, steps 1 and 3): the recorded loop code, and the recorded DAC code to
drive until the next update; of one that has changed in the gap the code the change has given it, driven under R158, and of
one in OFF, which has no update, no DAC code (R26, R28). -/
def State.adopted (s : State) (old : Plane) (r : HoldRec) : Nat × Option Nat :=
  if (s.lp old r.elem).dac.isSome then (r.code, if (s.elem r.elem).st = .off then none else some r.dac)
  else (s.loopCode old r.elem, none)

/-- The new holder takes over what `l` gives of each element (R181). -/
def State.adopt (s : State) (pl : Plane) (l : List (Nat × Nat × Option Nat)) : State :=
  l.foldl (fun s x => s.updLp pl x.1 fun l => { l with code := some x.2.1, dac := x.2.2 }) s

/-- A plane takes the token (R181): recorded codes, loop codes, LOCK and RAMP elements to RAMP, but for what is in HOLD with
cause NCLR while clear codes are driven; the plane that drove clear codes restarts; clear ends if nCLR is high (R166). The
first grant after a reset follows no fence, and where presets stand its switches close under R161 (R167). -/
def State.takeToken (s : State) (pl : Plane) (codes : List HoldRec) : State :=
  let old := s.token.old.getD pl
  let s := s.updToken fun t => { t with
    holder := some pl, free := false, fenceAt := none, granted := true, codes := []
    leaseEnd := s.elapsed + us 50, renewed := s.elapsed, mismatchWait := false }
  let s := s.updPlane pl fun p => { p with st := .active, request := false, noClear := false }
  let other := otherPlane pl
  let s := s.updPlane other fun p => { p with
    st := if p.st = .cleardrv then .start else p.st, noClear := false, rung := p.rung && p.st != .cleardrv }
  let s := s.updDrv fun d => { d with preset := false, presetTill := if d.preset then s.elapsed + holdTime else d.presetTill }
  let s := (s.calAbort pl).compareAfresh
  let l := (codes.filter fun r => !(s.drv.clearing && (s.elem r.elem).st == .hold 2)).map fun r => (r.elem, s.adopted old r)
  let s := codes.foldl (fun s r => s.updLp old r.elem fun l => { l with dac := none }) s
  if s.drv.clearing then
    let s := s.adopt pl l
    if s.drv.nclrLow then s else s.clearExit
  else
    let s := s.each s.touched fun s e =>
      if (s.elem e).st = .lock ∨ (s.elem e).st = .ramp then s.enterRamp e else s
    s.adopt pl l

/-- The report of a handover (R182): old holder, new holder, cause, gap. -/
def State.noteHandover (s : State) (old pl : Plane) (cause gap : Nat) : State :=
  let s := s.updToken fun t => { t with hoCause := cause, hoGap := min gap 0xFFFF, hoAt := some s.elapsed }
  let s := ((s.count Reg.TOKEN_HANDOVER_CNT).cause 0x04 0).event 0x04 0x3000 (pay [planeIdx old, planeIdx pl, cause])
  (s.fireTrig 3 0xFFFF).transHandover

/-- TOKEN_GRANT to a plane, its switches closing `gap` ns later (R177, R181, R182, R193). -/
def State.tokenGrant (s : State) (pl : Plane) (gap : Nat) : State :=
  let p := s.plane pl
  if s.token.holder.isSome ∨ p.st ≠ .standby ∨ p.request = false then s
  else match s.token.fenceAt, s.token.old with
    | some t, some old =>
      let cause := s.token.fenceCause
      (s.takeToken pl s.token.codes).noteHandover old pl cause ((s.elapsed - t) / nsUnit + gap)
    | _, _ =>
      if s.pla.st = .start ∨ s.plb.st = .start ∨ (pl = .b ∧ s.pla.st = .standby) then s
      else s.takeToken pl []

/-- TOKEN_FREE: 10 µs after a fence without a grant the token is free, and both planes are lost (R177, R185). -/
def State.tokenFree (s : State) : State :=
  match s.token.holder, s.token.fenceAt with
  | none, some t =>
    if s.token.free ∨ s.elapsed < t + us 10 then s
    else
      let s := s.updToken fun k => { k with free := true }
      let s := (s.cause 0x04 6).event 0x04 0x3007 []
      (s.clearEnter 2).clearGrant
  | _, _ => s

/-- A planned handover to the standby (R190): 3 MISMATCH, 4 HEALTH, 5 HOST. The old holder is fenced and checks itself. -/
def State.planned (s : State) (cause : Nat) : State :=
  match s.token.holder with
  | none => s
  | some h =>
    let pl := otherPlane h
    if (s.plane pl).st ≠ .standby then s
    else
      let codes := s.record h
      let s := s.updPlane h fun p => { p with st := .fenced, request := false }
      let s := (s.markRecorded h codes).updToken fun t => { t with old := some h }
      (s.takeToken pl codes).noteHandover h pl cause (Config.handoverGap s.elapsed % 10001)

/-! ### Lease, alive marks and heartbeats (R178, R179, R183) -/

/-- LEASE_RENEWAL by the holder (R178); a renewal that coincides with the lease's end comes too late. -/
def State.leaseRenewal (s : State) : State :=
  if s.token.holder.isSome ∧ s.elapsed < s.token.leaseEnd then
    s.updToken fun t => { t with leaseEnd := s.elapsed + us 50, renewed := s.elapsed }
  else s

/-- LEASE_END (R178): the token cell fences the holder. -/
def State.leaseExpire (s : State) : State :=
  match s.token.holder with
  | none => s
  | some h =>
    if s.elapsed < s.token.leaseEnd then s
    else (s.updPlane h fun p => { p with st := .fenced, request := false }).fence 2

/-- ALIVE_MARK of a powered plane (R179). -/
def State.aliveMark (s : State) (pl : Plane) : State :=
  if (s.plane pl).st = .off then s else s.updPlane pl fun p => { p with alive := s.elapsed }

/-- The holder's codes and states are copied into the standby, and comparison starts afresh (R187). -/
def State.resync (s : State) (pl : Plane) : State :=
  match s.token.holder with
  | none => s
  | some h =>
    if h = pl then s
    else (s.each s.touched fun s e =>
      let c := s.loopCode h e
      let sp := (s.lp h e).sp
      let down := (s.lp h e).down
      s.updLp pl e fun l => { l with code := some c, sp := sp, down := down, pend := 0, dac := none }).compareAfresh

/-- HEARTBEAT: plane pl receives one of its peer (R179, R183). With 16 in a row on both planes the peer link is up; that is
reported where PEER_LINK_DOWN was. -/
def State.heartbeat (s : State) (pl : Plane) : State :=
  let p := s.plane pl
  if p.st = .off ∨ (s.plane (otherPlane pl)).st = .off then s
  else
    let n := min (p.beats + 1) 16
    let back := p.hbFail && n == 16
    let leased := s.token.holder.isSome && decide (s.elapsed < s.token.leaseEnd)
    let s := s.updPlane pl fun p => { p with
      misses := 0, beats := n, hbFail := p.hbFail && !back, request := p.request && !(back && leased) }
    if n = 16 ∧ s.token.peerUp = false ∧ s.pla.hbFail = false ∧ s.plb.hbFail = false then
      let down := s.token.linkDown
      let s := s.updToken fun t => { t with peerUp := true, linkDown := false }
      let s := if p.st = .standby then s.resync pl else s.resync (otherPlane pl)
      if down then (s.cause 0x04 4).event 0x04 0x3005 [] else s
    else s

/-- Does the token cell still show renewals of the holder's lease: one within the 10 µs in which it renews (R178, R183;
DEDUCED, log 144)? -/
def State.renewing (s : State) : Bool :=
  decide (s.elapsed < s.token.leaseEnd) && decide (s.elapsed ≤ s.token.renewed + us 10)

/-- HEARTBEAT_MISS of plane pl (R179, R183). -/
def State.heartbeatMiss (s : State) (pl : Plane) : State :=
  let p := s.plane pl
  if p.st = .off then s
  else
    let n := p.misses + 1
    let s := (s.updPlane pl fun p => { p with misses := n, beats := 0 }).count (Reg.PL_HB_MISS_CNT pl)
    if p.hbFail ∨ n < 3 then s
    else
      let s := s.updPlane pl fun p => { p with hbFail := true, request := p.request || p.st == .standby }
      if p.st = .standby ∧ s.token.holder = some (otherPlane pl) ∧ s.renewing then
        let s := s.updToken fun t => { t with peerUp := false, linkDown := true }
        ((s.count (Reg.PL_PEER_DOWN_CNT pl)).cause 0x04 4).event 0x04 0x3004 (pay [planeIdx pl])
      else s

/-! ### Faults, checks and restart (R176, R180, R186, R191, R192) -/

/-- A PLANE_RESTART of a plane ends (R192). -/
def State.restartDone (s : State) (pl : Plane) (code : Nat) : State :=
  match (s.plane pl).restart with
  | none => s
  | some o => (s.updPlane pl fun p => { p with restart := none }).complete 0x04 4 code o

/-- A plane enters FAILED or OFF with a cause (R180): counted, reported, and a restart of it is refused. A restart that
fails in START sets BIST_FAIL (R192). -/
def State.planeDown (s : State) (pl : Plane) (st : PlaneSt) (cause : Nat) : State :=
  let held := s.token.holder == some pl
  let failed := (s.plane pl).restart.isSome && st == .failed
  let s := if held then s.fence 1 else s
  let s := s.calAbort pl
  let s := s.updPlane pl fun p => { p with
    st := st, cause := cause, request := false, misses := 0, beats := 0, hbFail := false
    warn := if st = .off then [] else p.warn, fail := if st = .off then [] else p.fail, pg := p.pg && st != .off
    bistFail := p.bistFail || failed, noClear := p.noClear && st == .failed }
  let s := (s.count (Reg.PL_FAIL_CNT pl)).cause 0x04 1
  let s := s.event 0x04 0x3001 (pay [planeIdx pl, st.code, cause])
  ((s.updToken fun t => { t with peerUp := t.peerUp && st != .off }).restartDone pl cREFUSED).clearGrant

/-- A feed changes its validity: INT_CAUSE bit 8 and event 0x3009 (R175). -/
def State.feedEvent (s : State) (pl : Plane) (v : Bool) : State :=
  let s := s.updPlane pl fun p => { p with valid := v }
  (s.cause 0x04 8).event 0x04 0x3009 (pay [planeIdx pl, if v then 1 else 0])

/-- PLANE_FAULT_DETECT (R180): cause 1 with no regulator named is the loss of the feed, with regulators named those are
outside ±6 %; causes 2 to 5 are the plane's other faults. They are faults of a plane that holds the token or stands ready;
in START a fault fails the start checks with its cause (R191), a regulator's fault also ends CLEARDRV (R186), and in FENCED
the self-check decides, with its own cause LEASE (log 161). -/
def State.planeFault (s : State) (pl : Plane) (cause : BitVec 3) (regs : BitVec 6) : State :=
  let p := s.plane pl
  let bad := (List.range 6).filter fun i => regs.getLsbD i
  match cause.toNat with
  | 1 =>
    if p.st = .off then s
    else if bad = [] then
      let s := if p.valid then s.feedEvent pl false else s
      s.planeDown pl .off 1
    else
      let s := s.updPlane pl fun p => { p with fail := bad.foldl (fun l i => insN i l) p.fail }
      if p.st = .failed ∨ p.st = .fenced then s else s.planeDown pl .failed 1
  | 2 | 3 | 4 | 5 =>
    if p.st = .active ∨ p.st = .standby ∨ p.st = .start then s.planeDown pl .failed cause.toNat else s
  | _ => s

/-- A plane enters STANDBY; it requests the token while no plane holds it (R179, R191). -/
def State.enterStandby (s : State) (pl : Plane) : State :=
  s.updPlane pl fun p => { p with st := .standby, request := s.token.holder.isNone || p.hbFail, noClear := false }

/-- FENCED_CHECK_END (R176). -/
def State.fencedCheck (s : State) (pl : Plane) (ok : Bool) : State :=
  if (s.plane pl).st ≠ .fenced then s
  else if ok then s.enterStandby pl else s.planeDown pl .failed 6

/-- Have steps 2 to 4 of Table START-2 taken place, and is it 55 ms from the end of the reset (R367)? A laser that is marked
failed holds nothing up (R195, R370). -/
def State.stepsDone (s : State) : Bool :=
  s.dev.fuseOk.isSome && s.dev.wiped && (s.dev.lasers || decide (32 ≤ s.osc.failed.length)) && decide (us 55000 ≤ s.elapsed)

/-- Has a plane in START done what R191 and R353 have it do: timing rings calibrated, each of the four runs ended with PASS,
and SELF_CAL ended; in the start of the device after steps 2 to 4 (R367)? -/
def State.mayPassStart (s : State) (pl : Plane) : Bool :=
  (s.plane pl).rung && decide (4 ≤ (match pl with | .a => s.bist.a | .b => s.bist.b).started)
    && !(s.calibrates pl) && (s.dev.state != 0 || s.stepsDone)

/-- PLANE_START_DONE (R191, R192): STANDBY with the holder's codes, or FAILED with BIST_FAIL and FCAUSE 0 (R353). START
passes only once the plane has done what it does there. -/
def State.planeStartDone (s : State) (pl : Plane) (ok : Bool) : State :=
  let p := s.plane pl
  if p.st ≠ .start ∨ (ok ∧ s.mayPassStart pl = false) then s
  else if ok then
    let s := if p.restart.isSome then s.updPlane pl fun p => { p with bistFail := false, sc := false, mismatchLost := false } else s
    let s : State := { (s.enterStandby pl).resync pl with dev := { s.dev with passed := true } }
    (s.event 0x04 0x3008 (pay [planeIdx pl])).restartDone pl cDONE
  else (s.updPlane pl fun p => { p with bistFail := true }).planeDown pl .failed 0

/-- PLANE_RESTART (R186, R192). -/
def State.planeRestart (s : State) (o : Order) (a0 : Word) : State :=
  let pl : Plane := if bit a0 0 then .b else .a
  match (s.plane pl).st with
  | .active | .off => s.complete 0x04 4 cLOCKED o
  | .start => s.complete 0x04 4 cBUSY o
  | st =>
    let s := s.updPlane pl fun p => { p with st := .start, rung := false, request := false, restart := some o, noClear := p.noClear || st == .cleardrv }
    if st = .cleardrv then s.updDrv fun d => { d with preset := true } else s

/-- RESYNC (R192). -/
def State.resyncCmd (s : State) (o : Order) : State :=
  let pl? : Option Plane := if s.pla.st = .standby then some .a else if s.plb.st = .standby then some .b else none
  match pl? with
  | some pl => if s.token.peerUp then (s.resync pl).complete 0x04 5 cDONE o else s.complete 0x04 5 cLOCKED o
  | none => s.complete 0x04 5 cLOCKED o

/-- HANDOVER (R190). While the token is free there is no standby to take it from a holder. -/
def State.handover (s : State) (o : Order) : State :=
  match s.token.holder with
  | none => s.complete 0x04 3 (if s.token.free then cLOCKED else cBUSY) o
  | some h =>
    let pl := otherPlane h
    if (s.plane pl).st ≠ .standby ∨ s.healthy pl = false then s.complete 0x04 3 cLOCKED o
    else (s.planned 5).complete 0x04 3 cDONE o

/-- AUTO_HANDOVER (R190): a lost mismatch, or health with AUTO_HO, 1 s after the latest handover. -/
def State.autoHandover (s : State) : State :=
  let due := match s.token.hoAt with
    | none => true
    | some t => decide (t + us 1000000 ≤ s.elapsed)
  match s.token.holder with
  | none => s
  | some h =>
    let pl := otherPlane h
    let a := s.healthy h
    let b := s.healthy pl
    if due = false ∨ (s.plane pl).st ≠ .standby then s
    else if s.token.mismatchWait then s.planned 3
    else if s.rb Reg.TOKEN_CFG 8 && !a && (b || decide ((s.plane h).score < (s.plane pl).score)) then s.planned 4
    else s

/-- REGULATOR_WARN and REG_WARN_CLEAR (R189): the regulator is within ±6 %, so that a FAILED plane may now qualify for the
clear grant (R185). -/
def State.regWarn (s : State) (pl : Plane) (i : Nat) : State :=
  if (s.plane pl).st = .off then s
  else (s.updPlane pl fun p => { p with warn := insN i p.warn, fail := p.fail.filter (· != i) }).clearGrant
def State.regWarnClear (s : State) (pl : Plane) (i : Nat) : State :=
  if (s.plane pl).st = .off then s
  else (s.updPlane pl fun p => { p with warn := p.warn.filter (· != i), fail := p.fail.filter (· != i) }).clearGrant

/-! ### Mismatches (R188) -/

/-- Write LAST_MISMATCH of a plane (Table PLANE-24). -/
def State.lastMismatch (s : State) (pl : Plane) (outcome e : Nat) : State :=
  s.latest (Reg.PL_LAST_MISMATCH pl) e (w32 (2 ^ 31 + at_ 30 28 outcome + at_ 13 0 e))

/-- A mismatch of element e is settled by the health scores (R188, Table PLANE-6). A handover it causes makes comparison
start afresh (takeToken), as a resynchronisation does. -/
def State.mismatch (s : State) (h : Plane) (e : Nat) : State :=
  let pl := otherPlane h
  let min_ := s.rf Reg.TOKEN_CFG 7 0
  let x := (s.plane h).score
  let y := (s.plane pl).score
  let both (s : State) (oh os : Nat) : State := (s.lastMismatch h oh e).lastMismatch pl os e
  let lose (s : State) (p : Plane) : State :=
    (s.updPlane p fun r => { r with mismatchLost := true }).count (Reg.PL_MISMATCH_CNT p)
  let tell (s : State) (i code : Nat) : State := (s.cause 0x04 i).event 0x04 code (pay [e])
  if min_ ≤ x ∧ min_ ≤ y then
    let s := (s.count (Reg.PL_DISAGREE_CNT h)).count (Reg.PL_DISAGREE_CNT pl)
    (tell (both s 3 3) 3 0x3003).resync pl
  else if x < y then
    let s := tell (both (lose s h) 1 2) 2 0x3002
    (s.updToken fun t => { t with mismatchWait := (s.plane pl).st == .standby }).autoHandover
  else if y < x then
    (tell (both (lose s pl) 2 1) 2 0x3002).resync pl
  else (tell (both s 4 4) 2 0x3002).resync pl

end Sys2Proof.Machine
end

