-- ==== Sys2Proof/Machine/Loop.lean ====
section
/-!
DEFINITION. The element loops (Element Loops and Trace R113 to R126, R145, R187): windows and what they measure, the metrics
of the three element types, the hysteretic law, the set-point ramp, state changes and faults, and the LOOP commands.
-/

namespace Sys2Proof.Machine

/-! ### Linear units (R118, R142) -/

/-- Largest n below 2^b with p n, for a p that holds up to some bound. -/
def maxBelow (p : Nat → Bool) : Nat → Nat → Nat
  | 0, acc => acc
  | b + 1, acc => maxBelow p b (if p (acc + 2 ^ b) then acc + 2 ^ b else acc)

/-- Is a power of o nW below k/16 dBm, that is o < 10^(6 + k/160)? -/
def belowDbm (o : Nat) (k : Int) : Bool :=
  if 960 + k < 0 then o == 0 else decide (o ^ 160 < 10 ^ (960 + k).toNat)

/-- The linear value in nW of k/16 dBm, an irrational number but at whole tens of dB; its rounding is open (log 21). -/
def linear (k : Int) : Nat :=
  if 960 + k < 0 then (if Config.roundUp k then 1 else 0)
  else
    let e := (960 + k).toNat
    let n := maxBelow (fun n => decide (n ^ 160 ≤ 10 ^ e)) (e / 48 + 2) 0
    if n ^ 160 = 10 ^ e then n else n + if Config.roundUp k then 1 else 0

/-- A power of p nW as line-equivalent dBm in 1/16 dB, nearest, −960 below 1 nW (R142). -/
def dBm16 (p : Nat) : Int :=
  if p = 0 then -960
  else (maxBelow (fun m => m == 0 || decide (10 ^ (2 * m - 1) ≤ p ^ 320)) 12 0 : Int) - 960

/-- Attenuation in 1/16 dB of a VOA at a code, between the stored points, linear (R113); the rounding of a value that is no
whole number is open (log 20), and so is the curve beyond its last point (log 22). -/
def interpolate (code : Nat) (e : Nat) : Nat × Nat → List (Nat × Nat) → Nat
  | (_, _), [] => Config.beyondCurve e code
  | (a0, c0), (a1, c1) :: t =>
    if code ≤ c0 then a0
    else if code ≤ c1 then
      let n := (a1 - a0) * (code - c0)
      a0 + n / (c1 - c0) + if n % (c1 - c0) ≠ 0 ∧ Config.curveUp e code then 1 else 0
    else interpolate code e (a1, c1) t

/-- Attenuation of a VOA at a code, in 1/16 dB. -/
def State.attenuation (s : State) (e code : Nat) : Nat :=
  match (voaCurve s.fuse e).map fun x => (x.1, s.rc e x.2) with
  | [] => 0
  | x :: t => interpolate code e x t

/-- Transmission in units of 2^-16 for an attenuation in 1/16 dB (R118); its rounding is open (log 21). -/
def transmission (a : Nat) : Nat :=
  if a = 0 then 65536
  else
    let n := maxBelow (fun n => decide (n ^ 160 * 10 ^ a ≤ 65536 ^ 160)) 17 0
    if n ^ 160 * 10 ^ a = 65536 ^ 160 then n else n + if Config.roundUp (-(a : Int)) then 1 else 0

/-! ### Windows (R114, R115, R145) -/

/-- The window of a channel: present accumulator less the copy, sums modulo 2^32 and counts modulo 2^16 (R115). -/
def window (a : Acc) (c : Copy) : Copy :=
  ⟨(a.sumP + 2 ^ 32 - c.sumP) % 2 ^ 32, (a.cntP + 2 ^ 16 - c.cntP) % 2 ^ 16,
    (a.sumM + 2 ^ 32 - c.sumM) % 2 ^ 32, (a.cntM + 2 ^ 16 - c.cntM) % 2 ^ 16⟩

/-- Mean of both halves. -/
def Copy.mean (w : Copy) : Nat := (w.sumP + w.sumM) / (w.cntP + w.cntM)

/-- Is a half over-long (R145)? -/
def Copy.long (w : Copy) : Bool := decide (128 < w.cntP) || decide (128 < w.cntM)

/-- How a cell is lit: by no circuit, by one on an input, or by two (R113). -/
inductive Occ
  | none
  | single (side : Nat)
  | shared
  deriving DecidableEq, Repr

/-- The occupancy of a cell in the active map. -/
def State.occOf (s : State) (c : Nat) : Occ :=
  match s.epoch.active.occ c 0, s.epoch.active.occ c 1 with
  | some _, some _ => .shared
  | some _, Option.none => .single 0
  | Option.none, some _ => .single 1
  | Option.none, Option.none => .none

/-- The line that input i of cell c carries (R114). -/
def lineOf (c i : Nat) : Nat :=
  let d := stageBit (c / 256)
  let r := c % 256
  r / 2 ^ d * 2 ^ (d + 1) + i * 2 ^ d + r % 2 ^ d

/-- The upstream value of input i of cell c on a plane, for a reader with the given update period; none while the source's
latest window is older than four periods (R114). -/
def State.upstream (s : State) (pl : Plane) (c i per : Nat) : Option Nat :=
  let x := lineOf c i
  let old (l : Lp) : Bool :=
    match l.uAt with
    | Option.none => true
    | some t => decide (t + 4 * per * 250 * nsUnit < s.elapsed)
  if c / 256 = 0 then
    let l := s.lp pl (ivoaOf x)
    if old l then Option.none else some l.u0
  else
    let up := cellOf x (c / 256 - 1)
    let l := s.lp pl (swOf up)
    if old l then Option.none else some (if sideOf x (c / 256 - 1) = 0 then l.u0 else l.u1)

/-- What the channels of an element hold at its tick: windows of its taps and the upstream values of a shared cell. -/
structure Win where
  w0 : Copy
  w1 : Copy
  u : Option (Nat × Nat)
  long : Bool
  complete : Bool
  deriving DecidableEq, Repr

/-- The window of an element on a plane (R115, R145). -/
def State.win (s : State) (pl : Plane) (e : Nat) : Win :=
  let l := s.lp pl e
  let need := s.rf Reg.LOOP_CFG 7 0
  let w0 := window (s.accOf pl (tapOf e)) l.w0
  if 8704 ≤ e then ⟨w0, w0, Option.none, w0.long, decide (need ≤ w0.cntP + w0.cntM) && decide (0 < w0.cntP + w0.cntM)⟩
  else
    let w1 := window (s.accOf pl (tapOf e + 1)) l.w1
    let full (w : Copy) : Bool :=
      if e % 2 = 0 then decide (need ≤ w.cntP + w.cntM) && decide (0 < w.cntP + w.cntM)
      else decide (need ≤ w.cntP) && decide (need ≤ w.cntM) && decide (0 < w.cntP) && decide (0 < w.cntM)
    let own := full w0 && full w1
    let long := w0.long || w1.long
    if s.occOf (e / 2) = .shared then
      match s.upstream pl (e / 2) 0 (s.updPeriod e), s.upstream pl (e / 2) 1 (s.updPeriod e) with
      | some a, some b => ⟨w0, w1, some (a, b), long, own⟩
      | _, _ => ⟨w0, w1, Option.none, long, false⟩
    else ⟨w0, w1, Option.none, long, own⟩

/-! ### Metrics (R116 to R118) -/

/-- What one complete update measures. -/
inductive Meas
  | dark
  | balanced
  | val (m : Int)
  deriving DecidableEq, Repr

/-- 2^24. -/
def one : Int := 16777216

/-- The SW metric (R116); a cell that carries no circuit has no reference and counts as dark. -/
def swMetric (dark : Int) (occ : Occ) (o0 o1 : Nat) (u : Option (Nat × Nat)) : Meas :=
  let o := o0 + o1
  if belowDbm o dark then .dark
  else match occ with
    | .none => .dark
    | .single r => .val (clampI 0 one (tdiv (one * (if r = 0 then o1 else o0 : Nat)) o))
    | .shared =>
      match u with
      | Option.none => .dark
      | some (u0, u1) =>
        let us := u0 + u1
        let du : Int := (u0 : Int) - u1
        if belowDbm us dark then .dark
        else if |du| * 16 < us then .balanced
        else .val (clampI 0 one (tdiv (one * ((o1 : Int) * us - (u1 : Int) * o)) (du * o)))

/-- The SW target of a cell's state (R116). -/
def swTarget (st : CellState) : Int := if st = .cross then one else 0

/-- The TR measurement (R117): gradient, with the mean of both distances for the trace (R128). -/
inductive TrMeas
  | dark
  | balanced
  | val (g mid : Int)
  deriving DecidableEq, Repr

/-- The TR gradient from both dither halves (R117). -/
def trMetric (dark : Int) (occ : Occ) (w0 w1 : Copy) (u : Option (Nat × Nat)) (target : Int) : TrMeas :=
  match swMetric dark occ (w0.sumP / w0.cntP) (w1.sumP / w1.cntP) u,
        swMetric dark occ (w0.sumM / w0.cntM) (w1.sumM / w1.cntM) u with
  | .val p, .val m => .val (|p - target| - |m - target|) ((|p - target| + |m - target|) / 2)
  | .dark, _ | _, .dark => .dark
  | _, _ => .balanced

/-! ### One update -/

/-- How an update came out for the law: dark, balanced, or with a signed error, distance or gradient against band b. -/
structure Outcome where
  dark : Bool
  bal : Bool
  /-- Table LOOP-7 BAND: 0 in band, 1 above, 2 below. -/
  band : Nat
  /-- What EL_METRIC takes (Table LOOP-13). -/
  metric : Option Int
  /-- METRIC and GRADIENT of a trace (R128). -/
  traceM : Option Int
  traceG : Option Int
  step : Int
  lp : Lp
  deriving DecidableEq, Repr

/-- The SW law with its direction search (R119), on distance d against band b; `law` says whether the state steps. -/
def swLaw (l : Lp) (d b step judge : Nat) (law : Bool) : Int × Lp :=
  if law = false then (0, l)
  else if 0 < l.pend then
    let l := { l with pend := l.pend - 1 }
    (0, if l.pend = 0 ∧ l.dStep < d then { l with down := !l.down } else l)
  else if b < d then (if l.down then -(step : Int) else step, { l with dStep := d, pend := judge })
  else (0, l)

/-- The law of TR elements and VOAs (R119). -/
def lineLaw (err b : Int) (step : Nat) (law : Bool) : Int :=
  if law = false then 0 else if b < err then step else if err < -b then -(step : Int) else 0

/-- Table LOOP-7 BAND of an error. -/
def bandOf (err b : Int) : Nat := if b < err then 1 else if err < -b then 2 else 0

/-- Move a set-point toward a target by at most r (R123). -/
def toward (v target r : Int) : Int := if |target - v| ≤ r then target else if v < target then v + r else v - r

/-- The set-point of an update in RAMP (R123): the metric of the first update that has one, the target where the first is
dark, then moving toward the target. A balanced update gives a SW none and moves none; and for a VOA whose target becomes
TRANSPARENT it moves as toward the number 0x7FFF (DESIGN CHOICE, log 177). -/
def rampPoint (sp : Option Int) (dark bal : Bool) (metric target rate : Int) : Option Int :=
  match sp with
  | Option.none => if dark then some target else if bal then Option.none else some metric
  | some v => if dark then some v else some (toward v target rate)

/-- Measure and apply the law for one complete update, in state st with loop l (R116 to R119, R123). A VOA whose TARGET is
TRANSPARENT moves by STEP at a dark update too, as R123 has it at each update, though R118 has a dark update hold the code
(DESIGN CHOICE, log 153). The sign of a SW's GRADIENT is DIR before a reversal made at this update (DESIGN CHOICE, log 176). -/
def State.measure (s : State) (e : Nat) (st : ElSt) (l : Lp) (w : Win) : Outcome :=
  let law := st == .ramp || st == .settle || st == .lock
  let b := s.elBand e
  let dark := sx 16 (s.rf Reg.LOOP_SW_DARK 15 0)
  let none_ (dk bl : Bool) (l : Lp) : Outcome := ⟨dk, bl, (s.elem e).band, Option.none, Option.none, Option.none, 0, l⟩
  let occ := s.occOf (e / 2)
  match elType e with
  | 0 =>
    let target := swTarget (s.liveCell (e / 2))
    let l := { l with u0 := w.w0.mean, u1 := w.w1.mean, uAt := some s.elapsed }
    let r := swMetric dark occ w.w0.mean w.w1.mean w.u
    let dk := r == .dark
    let bl := r == .balanced
    let m := match r with | .val m => m | _ => 0
    let l := if st = .ramp then { l with sp := rampPoint l.sp dk bl m target (s.rf Reg.LOOP_RAMP_RATE 7 0 * 256) } else l
    match r, (if st = .ramp then l.sp else some target) with
    | .val m, some sp =>
      let d := (|m - sp|).toNat
      let (step, l') := swLaw l d b (s.elStep e) (s.elJudge e) law
      ⟨false, false, if b < d then 1 else 0, some m, some m, some (if l.down then -(d : Int) else d), step, l'⟩
    | _, _ => none_ dk bl l
  | 1 =>
    match trMetric dark occ w.w0 w.w1 w.u (swTarget (s.liveCell (e / 2))) with
    | .dark => none_ true false l
    | .balanced => none_ false true l
    | .val g mid => ⟨false, false, bandOf (-g) b, some g, some mid, some g, lineLaw (-g) b (s.elStep e) law, l⟩
  | k =>
    let mean := w.w0.mean
    let code := l.code.getD (s.parkedDrive e)
    let p := if k = 2 then mean * transmission (s.attenuation e code) / 65536 else mean
    let l := if k = 2 then { l with u0 := p, uAt := some s.elapsed } else l
    let dk := belowDbm mean (-720)
    let l := if st = .ramp then { l with sp := rampPoint l.sp dk false (dBm16 p) (sx 16 l.tgt) (s.rf Reg.LOOP_RAMP_RATE 15 8) } else l
    let clear_ := l.tgt == 0x7FFF
    let lo := s.minAtt e
    if clear_ then
      let step : Int := if st = .ramp then toward code lo (s.elStep e) - code else if st = .lock then (lo : Int) - code else 0
      if dk then { none_ true false l with step := step }
      else ⟨false, false, 0, some (dBm16 p), some (dBm16 p), Option.none, step, l⟩
    else if dk then none_ true false l
    else match (if st = .ramp then l.sp else some (sx 16 l.tgt)) with
      | Option.none => none_ false false l
      | some sp =>
        let sLin := linear sp
        let err : Int := (p : Int) - sLin
        let bb : Int := (sLin * b / 1024 : Nat)
        ⟨false, false, bandOf err bb, some (dBm16 p), some (dBm16 p), some err, lineLaw err bb (s.elStep e) law, l⟩

/-- Has the set-point reached the target, so that an element in RAMP enters LOCK (R123)? `code` is the code after the step. -/
def State.rampDone (s : State) (e : Nat) (l : Lp) (code : Nat) : Bool :=
  match elType e with
  | 0 => l.sp == some (swTarget (s.liveCell (e / 2)))
  | 1 => true
  | _ => if l.tgt = 0x7FFF then code == s.minAtt e else l.sp == some (sx 16 l.tgt)

/-- Write the code of an update that leaves its element in LOCK (R125). -/
def State.lockWrite (s : State) (e code : Nat) : State :=
  let cross := decide (e < 8704) && s.liveCell (e / 2) == .cross
  s.updElem e fun x =>
    if cross then { x with lkxV := true, lockX := code, lastLock := some code }
    else { x with lkbV := true, lockB := code, lastLock := some code }

/-- Address of a word of an Element Table record (R127). -/
def elAddr (e word : Nat) : Nat := 0x10100000 + 32 * e + 4 * word

/-- A deadline miss (R122), or an over-long window (R145), at an element's tick on the lead plane. -/
def State.missNote (s : State) (e : Nat) : State :=
  let s := s.updElem e fun x => { x with deadline := true, dlCnt := bumpWord x.dlCnt }
  let s := ((s.tally (elAddr e 7)).count Reg.LOOP_DEADLINE_CNT).latest Reg.LOOP_LAST_DL e (w32 (2 ^ 31 + e))
  s.causeOnce 0x14 1 0x2101 (pay [e])

/-- An over-long window is reported (R145). -/
def State.overlong (s : State) (e : Nat) : State :=
  let s := (s.count Reg.CONV_OVERLONG_CNT).updTile (tileOf e) fun t => { t with ovl := true }
  if s.rb Reg.CONV_CFG 1 then s.causeOnce 0x15 3 0x2203 (pay [e]) else s.cause 0x15 3

/-- The cause of Table LOOP-5 that sends an element from LOCK, RAMP or SETTLE to FAULT, if any. -/
def State.faultOf (s : State) (pl : Plane) (e : Nat) (l : Lp) : Option Nat :=
  if s.scFlag pl e then some 1 else if 64 ≤ l.rail then some 2 else if 64 ≤ l.miss then some 3 else Option.none

/-- Does a state regulate, so that Table LOOP-5 can end it? -/
def ElSt.regulates (st : ElSt) : Bool := st == .ramp || st == .settle || st == .lock

/-- The planes compare the loop codes of a covered element at its update (R187). -/
def State.compare (s : State) (h : Plane) (e : Nat) : State :=
  let pl := otherPlane h
  if s.token.peerUp ∧ (s.plane pl).st = .standby ∧ (s.elem e).st = .lock then
    let x := s.loopCode h e
    let y := s.loopCode pl e
    let far := decide (s.rf Reg.TOKEN_CFG 31 16 < (x - y) + (y - x))
    let n := if far then (s.lp .a e).div + 1 else 0
    let s := s.updLp .a e fun l => { l with div := n }
    if s.rf Reg.TOKEN_CFG 15 12 ≤ n ∧ far then (s.updLp .a e fun l => { l with div := 0 }).mismatch h e else s
  else s

/-- When an element enters LOCK on the holder, the standby takes its loop code (R187). -/
def State.shadowTake (s : State) (h : Plane) (e : Nat) : State :=
  let c := s.loopCode h e
  let s := s.updLp (otherPlane h) e fun l => { l with code := some c, dac := Option.none }
  s.updLp .a e fun l => { l with div := 0 }

/-- An update whose window is incomplete or over-long keeps the code (R122, R145). Its trace entry shows as METRIC of a SW or
VOA what EL_METRIC shows then (DESIGN CHOICE, log 23), and DEADLINE in its BAND, which stands for the miss of this update and
not for the sticky flag of EL_CTRL (DESIGN CHOICE, log 154). It restarts the run of consecutive updates of a TR element in
SETTLE as well as a SW element's (log 174), keeps DARK, BAL and BAND (log 175), and neither restarts nor extends the RAIL run
(log 179; DESIGN CHOICE, each). -/
def State.missedUpdate (s : State) (pl : Plane) (e : Nat) (w : Win) : State :=
  let x := s.elem e
  let s := s.missNote e
  let s := if w.long then (s.overlong e).freshOn pl e else s
  let s := s.updLp pl e fun l => { l with
    miss := l.miss + 1, dac := Option.none, upAt := some s.elapsed, run := if x.st = .settle then 0 else l.run }
  let s := s.updElem e fun x => { x with recheck := false }
  let s := if elType e = 0 ∧ x.st = .settle then s.count Reg.SHEEP_BREAK_CNT else s
  let s := if elType e = 0 then s.relightRun e false else s
  let s := s.traceUpdate e pl
    ⟨(if elType e = 1 then Option.none else some x.metric), Option.none,
      x.band + flag 2 x.dark + flag 3 x.bal + 16, s.loopCode pl e, s.driveCode pl e, 0, x.st.code, true, false⟩
  let s := match s.faultOf pl e (s.lp pl e) with
    | some k => if x.st.regulates then s.enterFault e k else s
    | Option.none => s
  s.compare pl e

/-- The state an element in RAMP or SETTLE moves to at a complete update, and the settle run (R98, R100, R123, R124). One that an
earlier transition has left in SETTLE goes by the M and band sampled at the latest commit (DESIGN CHOICE, log 173). -/
def State.nextSt (s : State) (e : Nat) (x : Elem) (o : Outcome) (l : Lp) (code : Nat) : ElSt × Nat :=
  match x.st with
  | .ramp => if x.hh then (.hold 1, 0) else if s.rampDone e l code then (.lock, 0) else (.ramp, 0)
  | .settle =>
    let inBand :=
      if elType e = 0 then
        o.dark || (match o.metric with
          | some m => decide (|m - swTarget (s.liveCell (e / 2))| ≤ (s.trans.band * 256 : Nat))
          | Option.none => false)
      else o.step == 0
    let n := if inBand then l.run + 1 else 0
    if s.trans.m ≤ n then (if x.hh then .hold 1 else .lock, n) else (.settle, n)
  | st => (st, l.run)

/-- The fault a complete update ends in (Table LOOP-5), for an element that was in `was` and would be in `st`: of two causes
at one update the upper row of Table LOOP-4 applies, so entry into LOCK comes before a fault (R124), except at the next
update after a CLEAR_FAULT, at which an element whose DAC still reports a short fails (R126). -/
def State.endsInFault (s : State) (pl : Plane) (e : Nat) (was st : ElSt) (l : Lp) : Option Nat :=
  match s.faultOf pl e l with
  | some k =>
    if st.regulates && ((k == 1 && (s.elem e).recheck) || !(st == ElSt.lock && was != ElSt.lock)) then some k
    else Option.none
  | Option.none => Option.none

/-- A complete update on the plane that drives (R115 to R126). A dark or balanced update of a SW or VOA traces as METRIC what
EL_METRIC shows (DESIGN CHOICE, log 23), and its BAND has DEADLINE = 0 (log 154); it keeps BAND and what a band exit compares
with (log 175). The trace entry has the state before the update changes it (log 176). The RAIL run counts in the regulating
states only, in RAMP against the set-point, and a dark or balanced update restarts it (log 179; DESIGN CHOICE, each). -/
def State.completeUpdate (s : State) (pl : Plane) (e : Nat) (w : Win) : State :=
  let x := s.elem e
  let l := { s.lp pl e with miss := 0, dac := Option.none, upAt := some s.elapsed, w0 := (s.accOf pl (tapOf e)).copy
                            w1 := if e < 8704 then (s.accOf pl (tapOf e + 1)).copy else (s.accOf pl (tapOf e)).copy }
  let o := s.measure e x.st l w
  let lo : Int := if 8704 ≤ e then s.minAtt e else 0
  let old := s.loopCode pl e
  let want : Int := (old : Int) + o.step
  let new := (clampI lo 65535 want).toNat
  let moved := x.st.regulates && o.step != 0
  let code := if moved then new else old
  let clamped := moved && decide ((new : Int) ≠ want)
  let seen := !o.dark && !o.bal
  let out := seen && o.band != 0
  let rail := x.st.regulates && out && (code == 65535 || (decide (e < 8704) && code == 0))
  let (st, run) := s.nextSt e x o o.lp code
  let exit := x.st == .lock && out && (s.lp pl e).wasIn
  let l := { o.lp with
    code := if moved then some code else o.lp.code, run := run
    rail := if rail then o.lp.rail + 1 else 0, wasIn := if seen then !out else o.lp.wasIn }
  let s := s.updLp pl e fun _ => l
  let s := s.updElem e fun x => { x with
    dark := o.dark, bal := o.bal, band := o.band, metric := o.metric.getD x.metric, limit := x.limit || clamped }
  let s := if clamped then s.count Reg.LOOP_LIMIT_CNT else s
  let s := if exit then (s.count Reg.LOOP_BANDEXIT_CNT).cause 0x14 2 else s
  let s := s.traceUpdate e pl
    ⟨(if o.traceM.isSome then o.traceM else if elType e = 1 then Option.none else some (s.elem e).metric), o.traceG,
      o.band + flag 2 o.dark + flag 3 o.bal, code, s.driveCode pl e, (code : Int) - old, x.st.code, false, exit⟩
  let s := if elType e = 0 then
      s.relightRun e (match o.metric with
        | some m => decide (|m - swTarget (s.liveCell (e / 2))| ≤ (s.rf Reg.SHEEP_SETTLE_BAND 15 0 * 256 : Nat))
        | Option.none => o.dark)
    else s
  let fault := s.endsInFault pl e x.st st l
  let s := s.setSt e st
  let s := match st with
    | .hold _ => if x.st = st then s else s.enterHold e 1 .loop
    | _ => s
  let s := match fault with
    | some k => s.enterFault e k
    | Option.none => if st = ElSt.lock then s.lockWrite e code else s
  let s := if st = ElSt.lock ∧ x.st ≠ ElSt.lock ∧ fault.isNone then s.shadowTake pl e else s
  let s := if elType e = 0 ∧ st ≠ x.st ∧ fault.isNone ∧ (st = ElSt.lock ∨ x.st = ElSt.settle) then s.elemSettled e else s
  s.compare pl e

/-- The written values of an element's record come into force on both planes (R127). -/
def State.takeWritten (s : State) (e : Nat) : State :=
  let s := s.updElem e fun x => { x with ampNow := x.amp, clearNow := x.clear, wrote := false }
  if (s.lp .a e).tgt = (s.elem e).target ∧ (s.lp .b e).tgt = (s.elem e).target then s
  else s.updLps e fun l => { l with tgt := (s.elem e).target }

/-- What changes an element's state at its tick before it measures (R27, R123, R124, R127); the tick of one that is false does
no more. A cell driven warm while nCLR is low takes its element from OFF to PARKED and so to HOLD (R164, Table LOOP-4). A tick
that takes an element to RAMP, for a written TARGET or a cleared HH, makes no update: no miss and no trace entry (DESIGN
CHOICE, log 156). A TARGET written in LOCK while the old one is TRANSPARENT finds no set-point, and the ramp begins from the
metric of the first update (DESIGN CHOICE, log 155). -/
def State.tick (s : State) (e : Nat) : State × Bool :=
  let x := s.elem e
  let old := (s.lp s.lead e).tgt
  let s := s.takeWritten e
  match x.st with
  | .off =>
    if e < 8704 ∧ s.liveCell (e / 2) = .park ∧ s.effWarm (e / 2) then
      let s := s.park e
      (if s.drv.clearing then s.enterHold e 2 .clear else s, false)
    else (s, false)
  | .parked => if s.effWarm (e / 2) then (s, true) else (s.setSt e .off, false)
  | .lock =>
    if x.hh then (s.enterHold e 1 .loop, true)
    else if x.wrote then
      let sp := if old = 0x7FFF then Option.none else some (sx 16 old)
      ((s.enterRamp e).updLps e fun l => { l with sp := sp }, false)
    else (s, true)
  | .ramp => if x.hh then (s.enterHold e 1 .loop, true) else (s, true)
  | .hold 1 => if x.hh then (s, true) else (s.enterRamp e, false)
  | _ => (s, true)

/-- LOOP_UPDATE on the plane that holds the token (R113 to R126). -/
def State.leadUpdate (s : State) (pl : Plane) (e : Nat) : State :=
  let (s, go) := s.tick e
  if go = false then s
  else
    let w := s.win pl e
    if w.long ∨ w.complete = false then s.missedUpdate pl e w else s.completeUpdate pl e w

/-- LOOP_UPDATE on the standby plane: its shadow code by its own converters, in the holder's state (R187). -/
def State.shadowUpdate (s : State) (pl : Plane) (e : Nat) : State :=
  let s := s.updLp pl e fun l => { l with dac := Option.none }
  let x := s.elem e
  if x.st = .off then s
  else
    let w := s.win pl e
    if w.long then s.freshOn pl e
    else if w.complete = false then s
    else
      let l := { s.lp pl e with w0 := (s.accOf pl (tapOf e)).copy
                                w1 := if e < 8704 then (s.accOf pl (tapOf e + 1)).copy else (s.accOf pl (tapOf e)).copy }
      let o := s.measure e x.st l w
      let lo : Int := if 8704 ≤ e then s.minAtt e else 0
      let new := (clampI lo 65535 ((s.loopCode pl e : Int) + o.step)).toNat
      s.updLp pl e fun _ => if x.st.regulates ∧ o.step ≠ 0 then { o.lp with code := some new } else o.lp

/-- LOOP_UPDATE of element e on a plane (R121). Only the holder and the STANDBY plane run loops (Table PLANE-2); while both
planes are lost an update tick still brings a written CLEAR_CODE into force (R165). -/
def State.loopUpdate (s : State) (pl : Plane) (e : Nat) : State :=
  if s.token.holder = some pl then s.leadUpdate pl e
  else
    let s := if s.token.free ∧ s.drv.clearing then s.takeWritten e else s
    if (s.plane pl).st = .standby then s.shadowUpdate pl e else s

/-! ### LOOP commands (R126, R131) -/

/-- The range a LOOP command names, or its completion code. -/
def loopRange (a0 a1 : Word) : Except Nat (List Nat) :=
  let first := fld a0 13 0
  let n := fld a1 13 0
  if n = 0 then .error cZERO
  else if 9728 < first + n then .error cBADARG
  else .ok ((List.range n).map (first + ·))

/-- HOLD and RESUME set and clear HH in a range (R131); the loop acts on it at its next tick (R127). -/
def State.hostHold (s : State) (v : Bool) (o : Order) (a0 a1 : Word) : State :=
  let op := if v then 1 else 2
  match loopRange a0 a1 with
  | .error c => s.complete 0x14 op c o
  | .ok l => (s.each l fun s e => s.updElem e fun x => { x with hh := v }).complete 0x14 op cDONE o

/-- CLEAR_FAULT of a range (R126, R131): elements in FAULT enter RAMP, each with event 0x2102. So does one whose cell is in
PARK or whose port carries no circuit, which R26 and R28 would have in OFF: Table LOOP-4 has no row from FAULT to OFF but
reset and the parking step (DESIGN CHOICE, log 105). So does one whose DAC still reports a short: it is in RAMP until its next
update (DESIGN CHOICE, log 178). -/
def State.clearFault (s : State) (o : Order) (a0 a1 : Word) : State :=
  match loopRange a0 a1 with
  | .error c => s.complete 0x14 3 c o
  | .ok l =>
    (s.each l fun s e =>
      match (s.elem e).st with
      | .fault _ =>
        (((s.enterRamp e).updLps e fun l => { l with miss := 0, rail := 0 }).updElem e fun x => { x with recheck := true }).event
          0x14 0x2102 (pay [e])
      | _ => s).complete 0x14 3 cDONE o

/-- PER as R127 stores it: 1 as 2, above 1,024 as 1,024. -/
def clampPer (v : Nat) : Nat := if v < 2 then 2 else if 1024 < v then 1024 else v

/-- SET_PER (R131). -/
def State.setPer (s : State) (o : Order) (a0 a1 : Word) : State :=
  let ty := fld a0 1 0
  let v := fld a1 10 0
  if ty = 3 then s.complete 0x14 4 cBADARG o
  else if v = 0 then s.complete 0x14 4 cZERO o
  else
    let l := (List.range 9728).filter fun e => min (elType e) 2 == ty
    (s.each l fun s e => s.updElem e fun x => { x with per := some (clampPer v) }).complete 0x14 4 cDONE o

/-- ELEMENT_TABLE_WRITE of one word of a record (R127, Tables LOOP-6 to LOOP-14): RW and WC fields only. -/
def State.elementWrite (s : State) (e word : Nat) (v : Word) : State :=
  let nz (old : Option Nat) (n : Nat) : Option Nat := if n = 0 then old else some n
  s.updElem e fun x =>
    match word with
    | 0 => { x with hh := bit v 26, deadline := x.deadline && !(bit v 20), limit := x.limit && !(bit v 19) }
    | 1 => { x with step := nz x.step (fld v 31 16), width := nz x.width (fld v 15 0) }
    | 2 => { x with
        per := if fld v 26 16 = 0 then x.per else some (clampPer (fld v 26 16)), amp := some (fld v 15 8)
        judge := nz x.judge (fld v 3 0) }
    | 3 => if 8704 ≤ e then { x with target := fld v 15 0, wrote := x.wrote || x.st == .lock } else x
    | 4 => { x with clear := some (fld v 15 0) }
    | 7 => { x with dlCnt := if bit v 31 then s.cleared (elAddr e 7) else x.dlCnt }
    | _ => x

end Sys2Proof.Machine
end

