-- ==== Sys2Proof/Machine/Conv.lean ====
section
/-!
DEFINITION. Monitor conversion (Monitor Conversion R134 to R156): the sequence and its passes, settle rounds, correction,
loop and host accumulators, injected conversions, self-calibration, ring calibration and the Tile Table; and the detection
of light on parked cells (Photonic Fabric R36).
-/

namespace Sys2Proof.Machine

/-! ### Correction (R142) -/

/-- Correction word (OFS, GF) of converter n at gain g of a tile on a plane (Table CONV-11). -/
def State.corrWord (s : State) (pl : Plane) (t n g : Nat) : Int × Int :=
  (tget (fun _ => none) (s.tile t).corr (8 * planeIdx pl + 4 * n + g)).getD (convTrim s.fuse t (planeIdx pl) n)

/-- The value v of R142: a result corrected by its converter and gain, in 1/64 LSB referred to ×1. -/
def State.convValue (s : State) (pl : Plane) (t n g : Nat) (raw : BitVec 12) : Int :=
  match s.corrWord pl t n g with
  | (ofs, gf) => tdiv (((raw.toNat : Int) * 64 - ofs) * gf) (16384 * 2 ^ g)

/-- A corrected value (R142): line-equivalent nW for a monitor, 1/64 LSB for a reference channel. -/
def State.correct (s : State) (pl : Plane) (t n g chan : Nat) (raw : BitVec 12) : Nat :=
  let v := s.convValue pl t n g raw
  let p := if chan ≤ 15 then
      let m := elemAt t chan
      tdiv ((v - 16 * monOffset s.fuse m) * responsivity s.fuse m) 4096
    else v
  clampN 33554431 p

/-! ### Accumulators (R144, R146) -/

/-- Does a sample taken at an instant fall in the first half of the tile's delayed sine cycle (R117, R144)? Every sample of
a tile whose generator has FW = 0 does (R168). -/
def State.firstHalf (s : State) (t instant : Nat) : Bool :=
  let k := tickOf instant
  decide (s.fwAt t k = 0) ||
    decide ((s.phaseAt t k + 2 ^ 24 - s.rf Reg.LOOP_DITHER 7 0 * 2 ^ 16) % 2 ^ 24 < 2 ^ 23)

/-- Add a sample to a loop accumulator (R144). -/
def State.addLoop (s : State) (pl : Plane) (t ch v : Nat) (minus : Bool) : State :=
  let k := accKey pl t ch
  let a := tget accDefault s.accs k
  let a := if minus then { a with sumM := (a.sumM + v) % 2 ^ 32, cntM := (a.cntM + 1) % 2 ^ 16 }
    else { a with sumP := (a.sumP + v) % 2 ^ 32, cntP := (a.cntP + 1) % 2 ^ 16 }
  { s with accs := tset accDefault s.accs k a }

/-- A host accumulator after reset and after HACC_START. -/
def haccDefault (_ : Nat) : HAcc := ⟨0, 0, false, none, none⟩

/-- Is the host window open on a tile at an instant? -/
def State.winOpen (s : State) (t instant : Nat) : Bool :=
  match s.conv.win with
  | none => false
  | some w => w.tiles.contains t && decide (w.openAt ≤ instant) && decide (instant < w.endAt)

/-- Add a sample to a host accumulator and its trackers (R146). -/
def State.addHost (s : State) (pl : Plane) (t ch v instant : Nat) : State :=
  if s.winOpen t instant = false then s
  else
    let k := accKey pl t ch
    let a := tget haccDefault s.haccs k
    let d : Int := if ch ≤ 15 then dBm16 v else (v / 8 : Nat)
    let a := { a with
      min := some (match a.min with | some m => if d < m then d else m | none => d)
      max := some (match a.max with | some m => if m < d then d else m | none => d) }
    let full := a.sat || decide (2 ^ 48 ≤ a.sum + v)
    let a := if full then { a with sat := true } else { a with sum := a.sum + v, cnt := a.cnt + 1 }
    { s with haccs := tset haccDefault s.haccs k a, conv := { s.conv with winSat := s.conv.winSat || full } }

/-- Light on a parked cell (R36): a sequence conversion of a tap on the lead plane counts toward the run of its cell. -/
def State.parkLight (s : State) (t ch v : Nat) : State :=
  let m := elemAt t ch
  let c := m / 2
  if 8704 ≤ m ∨ s.actCell c ≠ .park then s
  else
    let k := sx 16 (s.rf Reg.FAB_DARK_TH 15 0)
    let above := !(belowDbm v k) && !(decide (0 ≤ 960 + k) && v ^ 160 == 10 ^ (960 + k).toNat)
    let n (old : Nat) : Nat := if above then min (old + 1) 16 else 0
    let s := s.updCell c fun r => if m % 2 = 0 then { r with run0 := n r.run0 } else { r with run1 := n r.run1 }
    let r := s.cell c
    if ((if m % 2 = 0 then r.run0 else r.run1) < 16) ∨ r.parkLit ∨ s.rb Reg.FAB_CFG 0 = false then s
    else
      let s := s.updCell c fun r => { r with parkLit := true }
      let s := (s.count Reg.FAB_PARK_LIT_CNT).latest Reg.FAB_PARK_LIT_CELL c (w32 (2 ^ 31 + c))
      (s.cause 0x10 0).event 0x10 0x1800 (pay [c])

/-- One sample of a sequence entry (R137): corrected, then accumulated as the entry says. -/
def State.sample (s : State) (pl : Plane) (t n : Nat) (w : Word) (ch : Nat) (raw : BitVec 12) (instant : Nat) : State :=
  let v := s.correct pl t n (fld w 9 8) ch raw
  let s := if bit w 0 ∧ ch ≤ 15 then s.addLoop pl t ch v (bit w 2 && !(s.firstHalf t instant)) else s
  let s := if bit w 1 then s.addHost pl t ch v instant else s
  if pl = s.lead ∧ ch ≤ 15 then s.parkLight t ch v else s

/-- The partner of a channel (R135). -/
def partner (ch : Nat) : Nat := if ch % 2 = 0 then ch + 1 else ch - 1

/-- An entry's slot completes in a mode (R137). In INTERLEAVE the slot is taken to complete with A1's sample, half a slot
after A0's (assumption log 27). -/
def State.runEntry (s : State) (pl : Plane) (t : Nat) (inter : Bool) (w : Word) (raw0 raw1 : BitVec 12) : State :=
  let ch := fld w 20 16
  let at1 := s.elapsed - 13 * nsUnit
  if inter then
    (s.sample pl t 0 w ch raw0 (at1 - slotNs w * nsUnit / 2)).sample pl t 1 w ch raw1 at1
  else (s.sample pl t 0 w ch raw0 at1).sample pl t 1 w (partner ch) raw1 at1

/-! ### Settle rounds (R140, R141) -/

/-- The tap a settle conversion converts: bar and cross of each served cell in order. -/
def servedTap (served : List Nat) (pos : Nat) : Nat := 2 * served.getD (pos / 2) 0 + pos % 2

/-- A settle conversion of a tap: interleaved at 12 ns, loop accumulators only, split by dither sign (R140). -/
def State.settleSample (s : State) (pl : Plane) (t tap : Nat) (raw0 raw1 : BitVec 12) : State :=
  let ch := slotOf tap
  let g := match ((s.pair pl t).inForce t).2.find? fun w => fld w 20 16 == ch with
    | some w => fld w 9 8
    | none => 0
  let at1 := s.elapsed - 13 * nsUnit
  let at0 := at1 - 25 * nsUnit / 2
  let s := s.addLoop pl t ch (s.correct pl t 0 g ch raw0) (!(s.firstHalf t at0))
  s.addLoop pl t ch (s.correct pl t 1 g ch raw1) (!(s.firstHalf t at1))

/-- Part 2 of a round: a sequence entry in the mode given, and the entry pointer wraps at LEN (R140). -/
def State.roundEntry (s : State) (pl : Plane) (t : Nat) (mode : Bool) (w : Word) (raw0 raw1 : BitVec 12) : State :=
  (s.runEntry pl t mode w raw0 raw1).updPair pl t fun p =>
    { p with ptr := if p.ptr + 1 < (p.inForce t).2.length then p.ptr + 1 else 0 }

/-- A step of a settle round completes: the taps of the served cells, then the next sequence entry in the record's mode, a
host write of which waits for the return (R99); then the next round, or a pass from entry 0 once nothing is served or the
sequencer lets go of the tile (R140). -/
def State.roundStep (s : State) (pl : Plane) (t : Nat) (raw0 raw1 : BitVec 12) : State :=
  let p := s.pair pl t
  let n := 2 * p.served.length
  let seq := (p.inForce t).2
  let s := if p.pos < n then s.settleSample pl t (servedTap p.served p.pos) raw0 raw1
    else match seq[p.ptr]? with
      | none => s
      | some w => s.roundEntry pl t (p.heldMode.getD (s.tile t).mode) w raw0 raw1
  let last := decide (n ≤ p.pos) || (decide (p.pos + 1 = n) && seq == [])
  if last then
    let served := s.serve t p.served
    if served = [] ∨ s.tileHeld t = false then
      (s.updPair pl t fun p => { p with rounds := false, served := [], pos := 0 }).newPass pl t
    else s.updPair pl t fun p => { p with served := served, pos := 0 }
  else s.updPair pl t fun p => { p with pos := p.pos + 1 }

/-- Has a plane's conversion started, with power, and does pair t run its sequence? A pair whose plane calibrates only
finishes the slot that was in progress at the acceptance (R151, R154). -/
def State.converts (s : State) (pl : Plane) (t : Nat) : Bool :=
  (s.plane pl).pg && s.conv.runs pl
    && (!(s.calibrates pl) || decide ((s.pair pl t).slotAt ≤ s.conv.calAt pl))

/-- Does a pair run settle rounds: not on a plane without power, nor once a SELF_CAL has stopped them (R140, R151)? -/
def State.inRounds (s : State) (pl : Plane) (t : Nat) : Bool := (s.pair pl t).rounds && s.converts pl t

/-- When the slot in progress of a pair began: the first one as conversion starts on the plane (R154). -/
def State.slotBegan (s : State) (pl : Plane) (t : Nat) : Nat :=
  max (s.pair pl t).slotAt (match pl with | .a => s.conv.beganA | .b => s.conv.beganB)

/-- Is a pair in the acquisition part of its slot, or does it convert nothing (R147)? -/
def State.acquiring (s : State) (pl : Plane) (t : Nat) : Bool :=
  let p := s.pair pl t
  match p.cur with
  | some _ => false
  | none =>
    if p.rounds ∧ p.pos < 2 * p.served.length then decide (s.elapsed < s.slotBegan pl t + ns 12)
    else match (p.inForce t).2[p.ptr]? with
      | some w => decide (s.elapsed < s.slotBegan pl t + ns (acqNs (fld w 13 12)))
      | none => true

/-- The next waiting injection starts (R147). -/
def State.startInj (s : State) (pl : Plane) (t : Nat) : State :=
  let p := s.pair pl t
  if p.cur.isSome then s
  else match p.queue with
    | [] => s
    | i :: rest => s.updPair pl t fun p => { p with cur := some i, queue := rest }

/-- CONVERSION_SLOT: the slot in progress of a pair completes (R137, R140, R147). A sequence slot in progress as the sequencer
takes the tile completes as one, and settle rounds follow it; a pair that converts nothing has no slot in progress. -/
def State.conversionSlot (s : State) (pl : Plane) (t : Nat) (raw0 raw1 : BitVec 12) : State :=
  let p := s.pair pl t
  if s.converts pl t = false ∨ p.cur.isSome then s
  else
    let ends (s : State) : State := (s.updPair pl t fun p => { p with slotAt := s.elapsed }).startInj pl t
    if p.rounds then ends (s.roundStep pl t raw0 raw1)
    else match (p.inForce t).2[p.ptr]? with
      | none => s
      | some w => ends (((s.runEntry pl t (p.inForce t).1 w raw0 raw1).nextEntry pl t).beginRounds pl t)

/-! ### Host windows (R146, R155) -/

/-- The tile range of HACC_START and HACC_STOP, or its code. -/
def tileRange (a0 a1 : Word) : Except Nat (List Nat) :=
  let first := fld a0 9 0
  let n := fld a1 9 0
  if n = 0 then .error cZERO else if 608 < first + n then .error cBADARG else .ok ((List.range n).map (first + ·))

/-- HACC_START (R146, R155). -/
def State.haccStart (s : State) (o : Order) (a0 a1 : Word) : State :=
  let len := s.rf Reg.CONV_HWIN 19 0
  if len = 0 then s.complete 0x15 2 cZERO o
  else match tileRange a0 a1 with
    | .error c => s.complete 0x15 2 c o
    | .ok l =>
      let keep (k : Nat) : Bool := !(l.contains (k % 12160 / 20))
      let s := { s with haccs := s.haccs.filter fun x => keep x.1 }
      (s.updConv fun c => { c with
        win := some ⟨fld a0 9 0, l, s.elapsed, s.elapsed + us len⟩, winDone := false, winSat := false }).complete 0x15 2 cDONE o

/-- A host window's end is reported (R146). -/
def State.haccReport (s : State) (first : Nat) : State := (s.cause 0x15 1).event 0x15 0x2201 (pay [first])

/-- HACC_STOP (R146, R155). -/
def State.haccStop (s : State) (o : Order) (a0 a1 : Word) : State :=
  match tileRange a0 a1 with
  | .error c => s.complete 0x15 3 c o
  | .ok l =>
    match s.conv.win with
    | none => s.complete 0x15 3 cDONE o
    | some w =>
      if w.tiles.any l.contains then
        let rest := w.tiles.filter fun t => !(l.contains t)
        let s := s.updConv fun c => { c with
          win := if rest = [] then none else some { w with tiles := rest }, winDone := rest == [] }
        (s.haccReport (fld a0 9 0)).complete 0x15 3 cDONE o
      else s.complete 0x15 3 cDONE o

/-- HACC_DONE: the open window ends (R146). -/
def State.haccDone (s : State) : State :=
  match s.conv.win with
  | none => s
  | some w =>
    if s.elapsed < w.endAt then s
    else (s.updConv fun c => { c with win := none, winDone := true }).haccReport w.first

/-! ### Calibration (R136, R151, R152) -/

/-- SELF_CAL (R151). -/
def State.selfCal (s : State) (o : Order) (a0 : Word) : State :=
  let pl : Plane := if bit a0 0 then .b else .a
  if s.token.holder = some pl then s.complete 0x15 1 cLOCKED o
  else if s.calibrates .a ∨ s.calibrates .b then s.complete 0x15 1 cBUSY o
  else (s.calStart pl).updConv fun c => { c with cal := some (pl, o) }

/-- The factors of one converter and gain from its reference sums; none if it fails (R151). -/
def factors (hs ls : Int) : Option (Int × Int) :=
  if hs - ls < 172032 ∨ 286720 < hs - ls then none
  else
    let gf := tdiv (229376 * 16384) (hs - ls)
    let ofs := ls - tdiv (16384 * 16384) gf
    if 8192 < |ofs| then none else some (ofs, gf)

/-- Store or fail one reading of a calibration. -/
def State.calStore (s : State) (pl : Plane) (r : CalReading) : State :=
  match factors r.high r.low with
  | some f => s.updTile r.tile.val fun x =>
      { x with corr := tset (fun _ => none) x.corr (8 * planeIdx pl + 4 * r.conv.val + r.gain.val) (some f) }
  | none =>
    let s := s.count Reg.CONV_CAL_FAIL_CNT
    s.updTile r.tile.val fun x => match pl with
      | .a => { x with cfailA := true }
      | .b => { x with cfailB := true }

/-- CAL_DONE: the calibration of a plane ends (R152), one that the host asked for or the one of START (R191). -/
def State.calDone (s : State) (pl : Plane) (l : List CalReading) : State :=
  let host := s.conv.cal.filter fun c => c.1 == pl
  if host.isNone ∧ (s.plane pl).st ≠ .start then s
  else
    let s := s.each (s.tiles.map (·.1)) fun s t => s.updTile t fun x => match pl with
      | .a => { x with cfailA := false }
      | .b => { x with cfailB := false }
    let s := l.foldl (fun s r => s.calStore pl r) s
    let bad := (List.range 608).filter fun t => match pl with | .a => (s.tile t).cfailA | .b => (s.tile t).cfailB
    let st := if bad = [] then 2 else 3
    let code := if bad = [] then cDONE else cREFUSED
    let s := s.updConv fun c => { c.setCal pl st with cal := if host.isSome then none else c.cal, failTile := bad.head? }
    let s := (s.updPlane pl fun p => { p with calFail := bad != [] }).restartSeq pl
    let s := s.cause 0x15 0
    let s := if bad = [] then s else s.cause 0x15 4
    let s := s.event 0x15 0x2200 (pay [planeIdx pl, code])
    match host with
    | some (_, o) => s.complete 0x15 1 code o
    | none => s

/-- RING_CALIBRATION of a plane (R136, R189): residuals in 0.001 %; the first one after a reset, or since the plane last got
power, starts conversion (R154), and START has its rings calibrated (R191). -/
def State.ringCalibration (s : State) (pl : Plane) (l : List RingResidual) : State :=
  let s := l.foldl (fun s r => s.updTile r.tile.val fun x => match pl with
    | .a => { x with ringA := r.residual }
    | .b => { x with ringB := r.residual }) s
  let bad := s.tiles.any fun x => decide (1000 < (match pl with | .a => x.2.ringA | .b => x.2.ringB).natAbs)
  let s := s.updPlane pl fun p => { p with ring := bad, rung := true }
  if s.conv.runs pl then s else (s.updConv fun c => c.begin_ pl s.elapsed).convStart pl

/-! ### Tile Table writes (R138, R153) -/

/-- A pair that converts no entry takes a new sequence at once: its next pass, with its first slot, starts there; in settle
rounds the next pass is that of the return (R138, R140). -/
def State.wakePairs (s : State) (t : Nat) : State :=
  let go (s : State) (pl : Plane) : State :=
    if (s.pair pl t).rounds = false ∧ ((s.pair pl t).inForce t).2 = [] then
      (s.updPair pl t fun p => { p with slotAt := s.elapsed }).newPass pl t
    else s
  go (go s .a) .b

/-- A host write of the mode while the sequencer holds the tile waits for the return: until then the pairs keep the mode it
replaces (R99, R138). -/
def State.keepMode (s : State) (t : Nat) (v : Bool) : State :=
  let old := (s.tile t).mode
  if old = v ∨ s.tileHeld t = false then s
  else
    let keep (s : State) (pl : Plane) : State := s.updPair pl t fun p => { p with heldMode := some (p.heldMode.getD old) }
    keep (keep s .a) .b

/-- Address of a word of a Tile Table record (R153). -/
def tileAddr (t word : Nat) : Nat := 0x10200000 + 256 * t + 4 * word

/-- TILE_TABLE_WRITE of a word of a record: the state and the completion code (R153, Tables CONV-5 to CONV-10). -/
def State.tileWrite (s : State) (t word : Nat) (v : Word) : State × Nat :=
  if word = 0 then
    if 16 < fld v 20 16 then (s, cBADARG)
    else
      (((s.keepMode t (bit v 31)).updTile t fun x => { x with mode := bit v 31, len := fld v 20 16 }).wakePairs t, cDONE)
  else if word = 1 then (s.updTile t fun x => { x with ovl := x.ovl && !(bit v 19) }, cDONE)
  else if word = 2 then (s.updTile t fun x => { x with dropA := if bit v 31 then s.cleared (tileAddr t 2) else x.dropA }, cDONE)
  else if word = 3 then (s.updTile t fun x => { x with dropB := if bit v 31 then s.cleared (tileAddr t 3) else x.dropB }, cDONE)
  else if 16 ≤ word ∧ word < 32 then
    if 19 < fld v 20 16 then (s, cBADARG)
    else
      let w := v &&& 0x001F3307#32
      (s.updTile t fun x => { x with seq := tset (fun _ => none) x.seq (word - 16) (some w) }, cDONE)
  else (s, cDONE)

end Sys2Proof.Machine
end

