-- ==== Sys2Proof/Machine/Objects.lean ====
section
/-!
DEFINITION. The Object Table (Object Table and Learning R223 to R240): entries, pair table with relocation, learn events,
lookups, the ageing sweeper, and the commands of the table engine with their journal words (R375).
-/

namespace Sys2Proof.Machine

/-! ### Life cycle (R379, R380) -/

/-- Is the marker of a RETURN_COMMIT programmed, so that the journal is being wiped (R380)? -/
def State.returnWiping (s : State) : Bool :=
  s.dev.returning && s.dev.inReset.isNone
    && decide (s.dev.returnAt + ns (Config.markerNs s.dev.returnAt % 5000001) ≤ s.elapsed)

/-- The life-cycle state: 0 BLANK, 1 TEST, 2 FIELD, 3 RETURN, which begins with the programming of the marker (R379, R380). -/
def State.lifeState (s : State) : Nat :=
  if 5 ≤ s.dev.marker then 3
  else if s.dev.lifeBits.testBit 0 ∧ s.dev.lifeBits.testBit 1 then (if s.returnWiping then 3 else 2)
  else if s.dev.lifeBits.testBit 0 then 1 else 0

/-- An object number or pair slot without an entry. -/
def noObj (_ : Nat) : Option ObjEntry := none
def noPair (_ : Nat) : Option PairEntry := none
def noWord (_ : Nat) : Option Nat := none

/-- The state with f applied to the object record. -/
def State.updObj (s : State) (f : ObjSt → ObjSt) : State := { s with obj := f s.obj }

/-- The valid entry of object n, if there is one. -/
def State.objAt (s : State) (n : Nat) : Option ObjEntry := tget noObj s.obj.objs n

/-- The entry of object n replaced or removed. -/
def State.setObj (s : State) (n : Nat) (e : Option ObjEntry) : State :=
  s.updObj fun t => { t with objs := tset noObj t.objs n e }

/-- The occupied pair slot k, if it is occupied. -/
def State.pairAt (s : State) (k : Nat) : Option PairEntry := tget noPair s.obj.pairs k

/-- Pair slot k written or cleared. -/
def State.setPair (s : State) (k : Nat) (e : Option PairEntry) : State :=
  s.updObj fun t => { t with pairs := tset noPair t.pairs k e }

/-- Words 0 and 1 of an Object Table entry (Tables OBJ-1 and OBJ-2). -/
def ObjEntry.word0 (e : ObjEntry) : Word :=
  w32 (flag 31 true + flag 30 e.static_ + flag 29 e.hit + flag 28 e.age + flag 27 e.dual.isSome + flag 26 e.dualOk
    + at_ 25 16 e.lane + at_ 15 0 (e.dual.getD 0))
def ObjEntry.word1 (e : ObjEntry) : Word := w32 (at_ 31 30 e.cls + at_ 23 0 e.lastT)

/-- Words 0 and 1 of a pair table entry (Table OBJ-4). -/
def PairEntry.word0 (e : PairEntry) : Word := w32 (flag 31 true + flag 30 e.s1 + at_ 27 24 e.ver + at_ 19 0 e.obj)
def PairEntry.word1 (e : PairEntry) : Word := w32 (at_ 25 16 e.lane1 + at_ 9 0 e.lane0)

/-- Device time in the form of LAST_T (Table OBJ-2). -/
def State.tMs (s : State) : Nat := s.nowNs / 1000000 % 2 ^ 24

/-! ### Counts -/

/-- USED[p]: dynamic entries on lane p and learned second lanes equal to p (R227). -/
def State.used (s : State) (p : Nat) : Nat :=
  (s.obj.objs.filter fun x => match x.2 with | some e => !e.static_ && e.lane == p | none => false).length
    + (s.obj.pairs.filter fun x => match x.2 with | some e => !e.s1 && e.lane1 == p | none => false).length

/-- QUOTA[p] (R227, R239). -/
def State.quota (s : State) (p : Nat) : Nat := s.rf (0x6A800 + 4 * (p / 2)) (16 * (p % 2) + 15) (16 * (p % 2))

/-- Static entries (OBJ.N_STATIC) and dynamic entries (OBJ.N_DYN). -/
def State.nStatic (s : State) : Nat :=
  (s.obj.objs.filter fun x => match x.2 with | some e => e.static_ | none => false).length
def State.nDyn (s : State) : Nat := s.obj.objs.length - s.nStatic

/-- Where a lane's learn counters are noted as happenings: beyond the address space, since the three registers that show
them follow LEARN.LANE_SEL. -/
def laneCntAt (lane kind : Nat) : Nat := 2 ^ 32 + 3 * lane + kind

/-- A learn counter of a lane counts: kind 0 no room, 1 conflict, 2 move. -/
def State.laneCount (s : State) (lane kind : Nat) : State :=
  (s.updObj fun t => { t with cnts := tupd (fun _ => 0) t.cnts (3 * lane + kind) bumpWord }).tally (laneCntAt lane kind)

/-! ### Pair table (R231) -/

/-- The two candidate buckets of an object. -/
def bucket0 (x : Nat) : Nat := x % 16384
def bucket1 (x : Nat) : Nat :=
  let b0 := bucket0 x
  let b1 := ((b0 ^^^ (x / 16384 * 7995 % 16384)) ^^^ 10922) % 16384
  if b1 = b0 then b0 ^^^ 1 else b1

/-- The four slots of a bucket. -/
def slotsOf (b : Nat) : List Nat := (List.range 4).map fun k => 4 * b + k

/-- The other candidate bucket of the object in slot k. -/
def State.otherBucket (s : State) (k : Nat) : Nat :=
  match s.pairAt k with
  | some e => if bucket0 e.obj = k / 4 then bucket1 e.obj else bucket0 e.obj
  | none => k / 4

/-- The slots of the next level with the path by which each was reached, and all slots listed so far. -/
def State.nextLevel (s : State) (level : List (List Nat)) (seen : List Nat) : List (List Nat) × List Nat :=
  level.foldl (fun acc p => (slotsOf (s.otherBucket (p.headD 0))).foldl (fun acc k =>
    if acc.2.contains k then acc else (acc.1 ++ [k :: p], k :: acc.2)) acc) ([], seen)

/-- Search for a free slot, level by level; `left` levels may follow, `k` is the present one. Answers the path from the
free slot back to its slot of the first level, and the level. -/
def State.freeSlot (s : State) : Nat → Nat → List (List Nat) → List Nat → Option (List Nat × Nat)
  | left, k, level, seen =>
    match level.find? fun p => (s.pairAt (p.headD 0)).isNone with
    | some p => some (p, k)
    | none =>
      match left with
      | 0 => none
      | left + 1 =>
        let n := s.nextLevel level seen
        s.freeSlot left (k + 1) n.1 n.2

/-- Walk a path from the free slot back, moving each parent's entry into the free slot with VER incremented and its owner's
PAIR field rewritten; the slot of the first level is free afterwards. -/
def State.relocate (s : State) : List Nat → State
  | f :: p :: t =>
    let s := match s.pairAt p with
      | some e =>
        let s := s.setPair f (some { e with ver := (e.ver + 1) % 16 })
        let s := match s.objAt e.obj with
          | some o => s.setObj e.obj (some { o with dual := some f })
          | none => s
        s.setPair p none
      | none => s
    s.relocate (p :: t)
  | _ => s

/-- A free slot for object x made free, with its number; none, and counted, where the search finds no room (R231). Lookups
that run while entries are copied may see one of them twice (R232). -/
def State.pairRoom (s : State) (x : Nat) : State × Option Nat :=
  let first := slotsOf (bucket0 x) ++ slotsOf (bucket1 x)
  match s.freeSlot (s.rf Reg.PAIR_CFG 2 0) 0 (first.map fun k => [k]) first with
  | none => (s.count Reg.PAIR_NOROOM_CNT, none)
  | some (path, k) =>
    let s := s.relocate path
    let s := if 1 < path.length then
        (s.count Reg.PAIR_RELOC_CNT).countN Reg.PAIR_DUP_CNT (Config.doubleSightings s.elapsed)
      else s
    (s.setReg Reg.PAIR_STAT (w32 (at_ 27 24 (max k (s.rf Reg.PAIR_STAT 27 24)))), some (path.getLastD 0))

/-- The entry that holds object x in the eight slots of its two buckets; of two, the one whose VER follows the other's
(R232). -/
def State.sighting (s : State) (x : Nat) : Option PairEntry :=
  match ((slotsOf (bucket0 x) ++ slotsOf (bucket1 x)).filterMap s.pairAt).filter fun e => e.obj == x with
  | [] => none
  | [e] => some e
  | a :: b :: _ => if a.ver = (b.ver + 1) % 16 then some a else some b

/-- The pair entry of object x, if it is dual (R232). -/
def State.pairOf (s : State) (x : Nat) : Option PairEntry := if ((s.objAt x).bind (·.dual)).isSome then s.sighting x else none

/-! ### Learning (R225 to R229) -/

/-- Write one of the LEARN.LAST_ registers (Table OBJ-10); of learn events at one time-stamp it shows the one of the highest
lane (R224). -/
def State.lastLearn (s : State) (reg : Nat) (pair : Bool) (lane x : Nat) : State :=
  s.latest reg lane (w32 (2 ^ 31 + flag 30 pair + at_ 29 20 lane + at_ 19 0 x))

/-- A cause of page LEARN with its event, sent while the bit is clear and the event enabled (R225, R228). -/
def State.learnCause (s : State) (i en code : Nat) (payload : List Word) : State :=
  if s.rb Reg.LEARN_CFG en then s.causeOnce 0x6A i code payload else s

/-- Outcome NOROOM (R228); `pair` where the pair table refused. -/
def State.learnNoRoom (s : State) (x lane : Nat) (pair : Bool) : State :=
  (((s.count Reg.LEARN_NOROOM_CNT).laneCount lane 0).lastLearn Reg.LEARN_LAST_NOROOM pair lane x).learnCause 2 2 0x5102
    (pay [x, lane, if pair then 1 else 0])

/-- Outcome MOVE_CONFLICT (R225). -/
def State.learnConflict (s : State) (x lane : Nat) (e : ObjEntry) : State :=
  (((s.count Reg.LEARN_CONFLICT_CNT).laneCount lane 1).lastLearn Reg.LEARN_LAST_CONFLICT false lane x).learnCause 1 1 0x5101
    (pay [x, e.lane, lane])

/-- Has the move hold elapsed (R226)? -/
def State.holdElapsed (s : State) (e : ObjEntry) : Bool :=
  e.age || decide (s.rf Reg.LEARN_CFG 25 16 ≤ (s.tMs + 2 ^ 24 - e.lastT) % 2 ^ 24)

/-- A hit (Table OBJ-3). -/
def State.learnHit (s : State) (x : Nat) (e : ObjEntry) : State :=
  s.setObj x (some { e with hit := true, age := false, lastT := s.tMs })

/-- A learn event of object x of class `cls` on a lane, with the outcome of Table OBJ-3; true where it finds no room. -/
def State.learn (s : State) (x cls lane : Nat) : State × Bool :=
  let room := decide (s.used lane < s.quota lane)
  match s.objAt x with
  | none =>
    if room then ((s.setObj x (some ⟨false, true, false, none, false, lane, cls, s.tMs⟩)).count Reg.LEARN_NEW_CNT, false)
    else (s.learnNoRoom x lane false, true)
  | some e =>
    if e.lane = lane ∨ ((s.pairOf x).map (·.lane1)) = some lane then (s.learnHit x e, false)
    else if e.static_ && e.dualOk && e.dual.isNone then
      if room then
        match s.pairRoom x with
        | (s, none) => (s.learnNoRoom x lane true, true)
        | (s, some k) =>
          ((s.setPair k (some ⟨false, 0, x, lane, e.lane⟩)).learnHit x { e with dual := some k }, false)
      else (s.learnNoRoom x lane false, true)
    else if e.static_ || e.dual.isSome || !s.holdElapsed e then (s.learnConflict x lane e, false)
    else if room then
      let s := s.setObj x (some { e with lane := lane, cls := cls, hit := true, age := false, lastT := s.tMs })
      let s := ((s.count Reg.LEARN_MOVE_CNT).laneCount lane 2).lastLearn Reg.LEARN_LAST_MOVE false lane x
      (s.learnCause 0 0 0x5100 (pay [x, e.lane, lane]), false)
    else (s.learnNoRoom x lane false, true)

/-- The lane a valid entry resolves to, LINK given by `up` (R210, R230). -/
def State.resolveLane (s : State) (up : Nat → Bool) (x : Nat) : Option Nat :=
  (s.objAt x).map fun e =>
    match s.pairOf x with
    | some p => if up p.lane0 then p.lane0 else if up p.lane1 then p.lane1 else p.lane0
    | none => e.lane

/-- The port CONNECT_OBJ resolves an object to: its lane, LANE0 of a dual entry (R43, R230). A learn event of the same
time-stamp that the queue holds before the request has been applied (DESIGN CHOICE, log 131). -/
def State.objPort (s : State) (x : Nat) : Option Nat := (s.objAt x).map (·.lane)

/-! ### Ageing (R233, R234) -/

/-- Remove the pair entry of an object, if it has one, and the entry itself. -/
def State.removeObj (s : State) (x : Nat) : State :=
  let s := match (s.objAt x).bind (·.dual) with
    | some k => s.setPair k none
    | none => s
  s.setObj x none

/-- One visit of entry n (R233). -/
def State.visit (s : State) (n : Nat) : State :=
  if s.rb Reg.AGE_CFG 1 = false then s
  else match s.objAt n with
    | none => s
    | some e =>
      if e.static_ ∨ e.hit then s.setObj n (some { e with hit := false })
      else if e.age = false then s.setObj n (some { e with age := true })
      else (s.removeObj n).count Reg.AGE_REMOVED_CNT

/-- The instant of the visit of entry n, ns of device time (R233). -/
def Sweep.instant (w : Sweep) (n : Nat) : Nat := w.start + w.interval * 1000000000 * n / 2 ^ 20

/-- The end of an interval, ns of device time. -/
def Sweep.stop (w : Sweep) : Nat := w.start + w.interval * 1000000000

/-- The interval ends and the next one starts (R233). -/
def State.sweepEnd (s : State) (w : Sweep) : State :=
  let s := s.updObj fun t => { t with
    sweep := some ⟨w.stop, s.rf Reg.AGE_INTERVAL 11 0, 0⟩, sweeps := (t.sweeps + 1) % 65536 }
  let s := s.cause 0x6B 0
  if s.rb Reg.AGE_CFG 0 then s.event 0x6B 0x5110 [] else s

/-- The visit of entry n is made, or skipped during safe-hold (R234). -/
def State.makeVisit (s : State) (w : Sweep) (n : Nat) : State :=
  let s := s.updObj fun t => { t with sweep := some { w with pos := n + 1 } }
  if s.safe.active then s else s.visit n

/-- How many visits of an interval have instants before `lim`, ns of device time: those of the entries below this number. -/
def Sweep.before (w : Sweep) (lim : Nat) : Nat :=
  min (2 ^ 20) (((lim - w.start) * 2 ^ 20 + (w.interval * 1000000000 - 1)) / (w.interval * 1000000000))

/-- The visits of the interval in force at instants before `lim`, in their order (R233), each made under `act` of its
instant. A visit of an entry not valid at its instant does nothing, and its instant has passed as well. -/
def State.sweepDue (s : State) (lim : Nat) (act : Nat → (State → State) → State → State) : State :=
  match s.obj.sweep with
  | none => s
  | some w =>
    let l := (s.obj.objs.map (·.1)).filter fun n => decide (w.pos ≤ n) && decide (w.instant n < lim)
    (l.foldl (fun s n => act (w.instant n) (fun s => s.makeVisit w n) s) s).updObj fun t => { t with
      sweep := some { w with pos := max w.pos (w.before lim) } }

/-- All visits and interval ends at instants before `lim`, each made under `act` of its instant; at most n interval ends. -/
def State.sweepAll (s : State) (lim : Nat) (act : Nat → (State → State) → State → State) : Nat → State
  | 0 => s.sweepDue lim act
  | n + 1 =>
    match s.obj.sweep with
    | none => s
    | some w =>
      let s := s.sweepDue lim act
      if w.stop < lim then (act w.stop (fun s => s.sweepEnd w) s).sweepAll lim act n else s

/-- The intervals that may have ended since the one in force began. -/
def State.sweepsLeft (s : State) : Nat :=
  match s.obj.sweep with
  | none => 0
  | some w => (s.nowNs - w.start) / 1000000000 + 1

/-- As time passes, every visit and interval end takes place at its scheduled instant (R233); those of the present instant
are still to come, since learn events and commands of one instant go before visits (R224). -/
def State.sweepPass (s : State) : State :=
  s.sweepAll ((s.now + nsUnit - 1) / nsUnit) (fun t f s => s.back t f) s.sweepsLeft

/-- After a forward step the visits and interval ends it has passed over are applied at the step instant (R233). -/
def State.sweepStep (s : State) : State :=
  s.sweepAll (s.nowNs + 1) (fun _ f s => f s) s.sweepsLeft

/-- SWEEP_VISIT of entry n: its scheduled instant has come (R233), perhaps as the first of an interval. -/
def State.sweepVisit (s : State) (n : Nat) : State :=
  let s := match s.obj.sweep with
    | some w => if w.stop ≤ s.nowNs then s.sweepEnd w else s
    | none => s
  match s.obj.sweep with
  | none => s
  | some w => if w.pos ≤ n ∧ w.instant n ≤ s.nowNs then s.makeVisit w n else s

/-! ### Table engine commands (R235 to R238) -/

/-- Report an entry in the result registers; V as given (Table OBJ-12). -/
def State.result (s : State) (x : Nat) (v : Bool) : State :=
  let s := s.setReg Reg.MULE_RES_ID (w32 (flag 31 v + at_ 19 0 x))
  let s := s.setReg Reg.MULE_RES0 (((s.objAt x).map ObjEntry.word0).getD 0)
  let s := s.setReg Reg.MULE_RES1 (((s.objAt x).map ObjEntry.word1).getD 0)
  s.setReg Reg.MULE_RES_PAIR (((s.pairOf x).map PairEntry.word1).getD 0)

/-- Object numbers whose entries are never valid (R223). -/
def noObject (x : Nat) : Bool := x == 0 || x == 0xFFFFF

/-- A Mule command is answered at once with BUSY while the table is not ready or another command runs (R235, R240). -/
def State.mule (s : State) (op : Nat) (o : Order) (f : State → State × Nat) : State :=
  if s.obj.ready = false ∨ s.obj.flush.isSome then s.complete 0x6C op cBUSY o
  else
    let r := f s
    r.1.complete 0x6C op r.2 o

/-- SEARCH (R235). -/
def State.search (s : State) (o : Order) (a0 : Word) : State :=
  let x := fld a0 19 0
  s.mule 1 o fun s => if noObject x then (s, cBADARG) else (s.result x (s.objAt x).isSome, cDONE)

/-- Is an entry on a lane, either lane of a dual entry? -/
def State.onLane (s : State) (x lane : Nat) : Bool :=
  ((s.objAt x).map (·.lane)) == some lane || ((s.pairOf x).map (·.lane1)) == some lane

/-- NEXT (R235): the lowest valid object above the cursor. With FILT a lane above 512 changes nothing and answers BADARG (R6);
512, the host's place, is one an entry can name (R237; DEDUCED, log 140). -/
def State.next (s : State) (o : Order) (a0 a1 : Word) : State :=
  let x := fld a0 19 0
  s.mule 2 o fun s =>
    if bit a1 10 ∧ 512 < fld a1 9 0 then (s, cBADARG)
    else match (s.obj.objs.map (·.1)).find? fun n => decide (x < n) && (!(bit a1 10) || s.onLane n (fld a1 9 0)) with
    | some n => (s.result n true, cDONE)
    | none => (s.result 0 false, cDONE)

/-- Everything FLUSH_LANE removes (R236): dynamic entries on the lane, and learned second lanes. -/
def State.flushEntry (s : State) (p x : Nat) : State × Nat :=
  match s.objAt x with
  | none => (s, 0)
  | some e =>
    if e.static_ = false ∧ e.lane = p then (s.removeObj x, 1)
    else match e.dual, s.pairOf x with
      | some k, some q =>
        if q.s1 = false ∧ q.lane1 = p then ((s.setPair k none).setObj x (some { e with dual := none }), 1) else (s, 0)
      | _, _ => (s, 0)

/-- FLUSH_LANE takes effect whole at its key time and completes at FLUSH_DONE (R236). -/
def State.flushLane (s : State) (o : Order) (a0 : Word) : State :=
  let p := fld a0 9 0
  if s.obj.ready = false ∨ s.obj.flush.isSome then s.complete 0x6C 3 cBUSY o
  else if 511 < p then s.complete 0x6C 3 cBADARG o
  else
    let r := (s.obj.objs.map (·.1)).foldl (fun acc x => let q := acc.1.flushEntry p x; (q.1, acc.2 + q.2)) (s, 0)
    let s := r.1.setReg Reg.MULE_STAT (w32 p)
    s.updObj fun t => { t with flush := some (o, r.2) }

/-- FLUSH_DONE (R236). -/
def State.flushDone (s : State) : State :=
  match s.obj.flush with
  | none => s
  | some (o, n) =>
    let s := s.updObj fun t => { t with flush := none }
    let s := ((s.setReg Reg.MULE_FLUSH_N (w32 (at_ 19 0 n))).cause 0x6C 0).event 0x6C 0x5120 []
    s.complete 0x6C 3 cDONE o

/-- The static word of an object (Table START-4) as its two halves, low first. -/
def staticWord (x : Nat) (da : Bool) (l1 : Option Nat) (cls lane : Nat) : List Word :=
  let n := flag 63 true + flag 62 da + flag 61 l1.isSome + at_ 60 59 cls + at_ 58 49 lane + at_ 48 39 (l1.getD 0) + at_ 38 19 x
  [w32 n, w32 (n / 2 ^ 32)]

/-- Address of static word i (Table START-3). -/
def staticAddr (i : Nat) : Nat := 0x40005000 + 8 * i

/-- One word of the journal is written (R373, R375): counted in JRNL.WRITES. -/
def State.jrnlWrite (s : State) (a : Nat) (ws : List Word) : State :=
  { s with mem := Memory.writeWords s.mem a ws, jrnl := { s.jrnl with writes := s.jrnl.writes + 1 } }

/-- Is static word i in use (V, Table START-4)? -/
def State.staticUsed (s : State) (i : Nat) : Bool := bit (Memory.readWord s.mem (staticAddr i + 4)) 31

/-- The journal word of a static object: its own, or the lowest unused one (R375). -/
def State.wordFor (s : State) (x : Nat) : Nat :=
  match tget noWord s.obj.words x with
  | some i => i
  | none => ((List.range 16384).find? fun i => !s.staticUsed i).getD 0

/-- INSERT_STATIC's checks 1 (R237). -/
def badStatic (lane cls : Nat) (da l1 : Bool) (lane1 : Nat) : Bool :=
  decide (512 < lane) || cls == 3 || (da && lane == 512) || (l1 && !da) || (l1 && (decide (511 < lane1) || lane1 == lane))

/-- Enter a static entry, its pair slot k if it has a second static lane; a pair slot no longer needed is freed. -/
def State.putStatic (s : State) (x cls lane : Nat) (da : Bool) (k : Option Nat) (lane1 lastT : Nat) : State :=
  let s := match (s.objAt x).bind (·.dual), k with
    | some j, none => s.setPair j none
    | _, _ => s
  let s := match k with
    | some k => s.setPair k (some ⟨true, ((s.pairAt k).map PairEntry.ver).getD 0, x, lane1, lane⟩)
    | none => s
  s.setObj x (some ⟨true, false, false, k, da, lane, cls, lastT⟩)

/-- INSERT_STATIC (R237, R238). -/
def State.insertStatic (s : State) (o : Order) (a0 a1 a2 : Word) : State :=
  let x := fld a0 19 0
  let da := bit a1 31
  let cls := fld a1 29 28
  let lane := fld a1 9 0
  let l1 := bit a2 31
  let lane1 := fld a2 9 0
  s.mule 4 o fun s =>
    if noObject x || badStatic lane cls da l1 lane1 then (s, cBADARG)
    else if (s.objAt x).map (·.static_) ≠ some true ∧ 16384 ≤ s.nStatic then (s, cNOROOM)
    else
      let w := s.wordFor x
      let finish (s : State) (k : Option Nat) : State × Nat :=
        let s := s.putStatic x cls lane da k lane1 s.tMs
        let s := s.jrnlWrite (staticAddr w) (staticWord x da (if l1 then some lane1 else none) cls lane)
        let s := s.updObj fun t => { t with words := tset noWord t.words x (some w) }
        (s.result x true, cDONE)
      if l1 = false then finish s none
      else match (s.objAt x).bind (·.dual) with
        | some k => finish s (some k)
        | none =>
          match s.pairRoom x with
          | (s, none) => (s, cNOROOM)
          | (s, some k) => finish s (some k)

/-- DELETE (R235, R237, R238). -/
def State.delete (s : State) (o : Order) (a0 : Word) : State :=
  let x := fld a0 19 0
  s.mule 5 o fun s =>
    if noObject x then (s, cBADARG)
    else match s.objAt x with
      | none => (s.result x false, cDONE)
      | some _ =>
        let s := s.result x true
        let s := match tget noWord s.obj.words x with
          | some i => (s.jrnlWrite (staticAddr i) [0, 0]).updObj fun t => { t with words := tset noWord t.words x none }
          | none => s
        (s.removeObj x, cDONE)

/-! ### Restore (R375) -/

/-- Restore static word i if it is in use (R375). -/
def State.restoreStatic (s : State) (i : Nat) : State :=
  if s.staticUsed i = false then s
  else
    let lo := (Memory.readWord s.mem (staticAddr i)).toNat
    let n := (Memory.readWord s.mem (staticAddr i + 4)).toNat * 2 ^ 32 + lo
    let f (hi lo : Nat) : Nat := n / 2 ^ lo % 2 ^ (hi + 1 - lo)
    let x := f 38 19
    let s := s.updObj fun t => { t with words := tset noWord t.words x (some i) }
    if n.testBit 61 then
      match s.pairRoom x with
      | (s, some k) => s.putStatic x (f 60 59) (f 58 49) (n.testBit 62) (some k) (f 48 39) 0
      | (s, none) =>
        let s := s.putStatic x (f 60 59) (f 58 49) (n.testBit 62) none 0 0
        (s.cause 0x09 2).event 0x09 0x8202 (pay [x])
    else s.putStatic x (f 60 59) (f 58 49) (n.testBit 62) none 0 0

/-- Every static word restored in ascending order; then the tables are ready (R240). -/
def State.restoreStatics (s : State) : State :=
  let s := (List.range 16384).foldl State.restoreStatic s
  s.updObj fun t => { t with ready := true }

end Sys2Proof.Machine
end

