-- ==== Sys2Proof/Machine/Journal.lean ====
section
/-!
DEFINITION. The journal (Start-Up, Reset, Memory and Life Cycle R372 to R378, R383): its layout and words, what a start
reads from it, records, the restore selection and WIPE.
-/

namespace Sys2Proof.Machine

/-- The state with f applied to the journal's record. -/
def State.updJrnl (s : State) (f : JrnlSt → JrnlSt) : State := { s with jrnl := f s.jrnl }

/-! ### Layout (Tables START-3 and START-4) -/

/-- The region of the journal. -/
def jrnlBase : Nat := 0x40000000
def jrnlEnd : Nat := 0x40200000

/-- Addresses of the CONFIG word, of output q's circuit word and of ring position p of slot k. -/
def configAddr : Nat := 0x40000008
def circuitAddr (k q : Nat) : Nat := 0x40001000 + 0x2000 * k + 8 * q
def ringAddr (k p : Nat) : Nat := 0x40002000 + 0x2000 * k + 8 * p

/-- Circuit word, high half. -/
def circuitHigh (m : CMap) (q : Nat) : Word :=
  match m.at_ q with
  | none => 0
  | some c => w32 (2 ^ 31 + at_ 30 29 c.cls + flag 28 c.pin + at_ 27 19 c.inp + at_ 18 11 c.mid)

/-- A ring word: its low and high half. -/
def ringWord (c : Bool) (r epoch : Nat) : List Word := [w32 epoch, w32 (flag 31 c + at_ 30 0 r)]

/-- The circuit a slot holds for output q, as a request of source 5 and kind journal makes it (R84). -/
def State.storedCircuit (s : State) (k q : Nat) : Option Circuit :=
  let w := Memory.readWord s.mem (circuitAddr k q + 4)
  if bit w 31 then some ⟨q, fld w 27 19, fld w 18 11, fld w 30 29, bit w 28, ⟨5, 5, q, none, none⟩⟩ else none

/-- The map a slot holds. -/
def State.storedMap (s : State) (k : Nat) : CMap := (List.range 512).filterMap (s.storedCircuit k)

/-- Do two maps write the same circuit words? -/
def sameWords (a b : CMap) : Bool := (List.range 512).all fun q => circuitHigh a q == circuitHigh b q

/-! ### What a start reads (R376) -/

/-- Is record sequence a later than b, by serial-number arithmetic within 31 bits? -/
def rseqLater (a b : Nat) : Bool := decide (a ≠ b ∧ (a + 2 ^ 31 - b) % 2 ^ 31 < 2 ^ 30)

/-- The later of two ring words, (RSEQ, C, EPOCH); of one sequence the commit word (assumption log 40). -/
def laterWord (a b : Nat × Bool × Nat) : Nat × Bool × Nat :=
  if rseqLater b.1 a.1 || (b.1 == a.1 && b.2.1) then b else a

/-- The latest ring word of a slot, if its ring holds one. -/
def State.latestRing (s : State) (k : Nat) : Option (Nat × Bool × Nat) :=
  (List.range 256).foldl (fun acc p =>
    let hi := Memory.readWord s.mem (ringAddr k p + 4)
    let r := fld hi 30 0
    if r = 0 then acc
    else
      let w := (r, bit hi 31, (Memory.readWord s.mem (ringAddr k p)).toNat)
      match acc with
      | none => some w
      | some a => some (laterWord a w)) none

/-- Is a slot valid, is it torn, which is the newest valid one (R376)? -/
def slotValid : Option (Nat × Bool × Nat) → Bool
  | some (_, c, _) => c
  | none => false
def slotTorn : Option (Nat × Bool × Nat) → Bool
  | some (_, c, _) => !c
  | none => false
def newestOf (a b : Option (Nat × Bool × Nat)) : Option Nat :=
  match slotValid a, slotValid b with
  | true, true => if rseqLater (b.map (·.1) |>.getD 0) (a.map (·.1) |>.getD 0) then some 1 else some 0
  | true, false => some 0
  | false, true => some 1
  | false, false => none

/-- The newest valid slot, as the journal's record has it. -/
def JrnlSt.slot (j : JrnlSt) : Option Nat := if j.v0 ∨ j.v1 then some j.newest else none

/-- A torn slot is counted and reported. -/
def State.tornSlot (s : State) (k : Nat) : State :=
  let s := (s.updJrnl fun j => { j with torn := true }).count Reg.JRNL_TORN_CNT
  (s.cause 0x09 0).event 0x09 0x8200 (pay [k])

/-- A start examines both commit rings (R376). -/
def State.examineJournal (s : State) : State :=
  let a := s.latestRing 0
  let b := s.latestRing 1
  let n := newestOf a b
  let high (x : Nat) (w : Option (Nat × Bool × Nat)) : Nat :=
    match w with
    | some v => if x = 0 ∨ rseqLater v.1 x then v.1 else x
    | none => x
  let s := s.updJrnl fun j => { j with
    v0 := slotValid a, v1 := slotValid b, newest := n.getD 0, rmax := high (high 0 a) b
    last := match n with | some k => s.storedMap k | none => [] }
  let s := if slotTorn a then s.tornSlot 0 else s
  if slotTorn b then s.tornSlot 1 else s

/-- JRNL.AUTO_RESTORE at reset (R377). -/
def autoRestoreReset (mem : List Host.Cell) : Word :=
  let w := Memory.readWord mem configAddr
  if bit w 15 then w32 (fld w 2 0) else 1

/-- AUTO_RESTORE_WRITE (R377). -/
def State.autoRestore (s : State) (v : Word) : State :=
  (s.jrnlWrite configAddr [w32 (2 ^ 15 + fld v 2 0), 0]).setReg Reg.JRNL_AUTO_RESTORE (w32 (fld v 2 0))

/-! ### Records (R373, R374) -/

/-- Does the active map differ from the map of the latest record? -/
def State.unrecorded (s : State) : Bool := !(sameWords s.epoch.active s.jrnl.last)

/-- Does it differ in a SAFETY circuit of either map? -/
def State.safetyDiffers (s : State) : Bool :=
  (List.range 512).any fun q => circuitHigh s.epoch.active q != circuitHigh s.jrnl.last q
    && (((s.epoch.active.at_ q).map (·.cls)) == some 0 || ((s.jrnl.last.at_ q).map (·.cls)) == some 0)

/-- The sequence of the next record. -/
def JrnlSt.next (j : JrnlSt) : Nat := if j.rmax + 1 < 2 ^ 31 then j.rmax + 1 else 1

/-- Ring position of a record's open word. -/
def ringPos (r : Nat) : Nat := r / 2 % 128 * 2

/-- May a record start (R374, R378)? Not before the restore of step 7 (assumption log 41), nor in RETURN. -/
def State.mayRecord (s : State) : Bool :=
  let j := s.jrnl
  let gap := match j.startAt with
    | none => true
    | some t => decide (t + us (1000 * s.rf Reg.JRNL_CFG 9 0) ≤ s.elapsed)
  s.dev.restoreDone && decide (s.dev.marker < 5) && j.rec_.isNone && !j.wiping && !s.dev.returning
    && (j.orders != [] || (s.unrecorded && (gap || (s.rb Reg.JRNL_CFG 17 && s.safetyDiffers))))

/-- JOURNAL_RECORD_START: the open word is written and the active map captured (R373, step 1). -/
def State.recordStart (s : State) : State :=
  if s.mayRecord then
    let r := s.jrnl.next
    let k := match s.jrnl.slot with | some n => 1 - n | none => 0
    let m := s.epoch.active
    let s := s.jrnlWrite (ringAddr k (ringPos r)) (ringWord false r s.epoch.act)
    s.updJrnl fun j => { j with
      rec_ := some ⟨r, k, s.epoch.act, m⟩, startAt := some s.elapsed, rmax := r, last := m
      v0 := j.v0 && k != 0, v1 := j.v1 && k != 1
      orders := j.orders.map fun o => (o.1, m) }
  else s

/-- The circuit words a running record has to write (R373, step 2). -/
def State.recordWords (s : State) (r : Rec) : List (Nat × List Word) :=
  (List.range 512).filterMap fun q =>
    let a := circuitAddr r.slot q
    let h := circuitHigh r.map q
    if Memory.readWord s.mem (a + 4) = h then none else some (a, [0, h])

/-- Write journal words. -/
def State.writeAll (s : State) (l : List (Nat × List Word)) : State := l.foldl (fun s x => s.jrnlWrite x.1 x.2) s

/-- JOURNAL_RECORD_END: the circuit words, then the commit word; RECORD orders it captured complete (R373, R378). -/
def State.recordEnd (s : State) : State :=
  match s.jrnl.rec_ with
  | none => s
  | some r =>
    let s := s.writeAll (s.recordWords r)
    let s := s.jrnlWrite (ringAddr r.slot (ringPos r.seq + 1)) (ringWord true r.seq r.epoch)
    let done := s.jrnl.orders.filter fun o => sameWords o.2 r.map
    let s := s.updJrnl fun j => { j with
      rec_ := none, v0 := j.v0 || r.slot == 0, v1 := j.v1 || r.slot == 1, newest := r.slot
      orders := j.orders.filter fun o => !(sameWords o.2 r.map) }
    done.foldl (fun s o => s.complete 0x09 2 cDONE o.1) s

/-- A reset cuts a record, or a wipe, off at a word boundary (R338, R374; assumption log 33). -/
def State.cutJournal (s : State) : State :=
  let s := match s.jrnl.rec_ with
    | none => s
    | some r =>
      let l := s.recordWords r
      s.writeAll (l.take (Config.wordsWritten s.elapsed % (l.length + 1)))
  if s.jrnl.wiping || s.returnWiping then
    { s with mem := Memory.wipe s.mem jrnlBase (jrnlBase + 8 * (Config.wordsWritten s.elapsed % 262145)) }
  else s

/-! ### Commands (R378) -/

/-- Every word of the journal is zero; the tables in memory keep their entries, which no longer have a word (R378). -/
def State.wipeJournal (s : State) : State :=
  let s := { s with mem := Memory.wipe s.mem jrnlBase jrnlEnd }
  let s := s.updObj fun t => { t with words := [] }
  s.updJrnl fun j => { j with
    last := s.epoch.active, rec_ := none, rmax := 0, v0 := false, v1 := false, newest := 0, writes := j.writes + 262144 }

/-- The key of WIPE is spent by every write to JRNL.CMD. -/
def State.spendKey (s : State) : State := s.setReg (Reg.base 0x09 + 0x024) 0

/-- WIPE (R378). -/
def State.wipe (s : State) (o : Order) : State :=
  let key := s.rf (Reg.base 0x09 + 0x024) 15 0
  let s := s.spendKey
  if key ≠ 0x9E11 then s.complete 0x09 1 cLOCKED o
  else if s.jrnl.wiping ∨ s.jrnl.orders ≠ [] then s.complete 0x09 1 cBUSY o
  else s.updJrnl fun j => { j with rec_ := none, wiping := true, wipeOrd := some o }

/-- WIPE_DONE (R378). -/
def State.wipeDone (s : State) : State :=
  match s.jrnl.wipeOrd with
  | none => s
  | some o =>
    let s := s.wipeJournal.updJrnl fun j => { j with wiping := false, wipeOrd := none }
    ((s.cause 0x09 1).event 0x09 0x8201 []).complete 0x09 1 cDONE o

/-- RECORD (R378, R381). -/
def State.recordCmd (s : State) (o : Order) : State :=
  let s := s.spendKey
  if s.lifeState = 3 then s.complete 0x09 2 cLOCKED o
  else if s.jrnl.wiping ∨ s.jrnl.orders ≠ [] then s.complete 0x09 2 cBUSY o
  else s.updJrnl fun j => { j with orders := [(o, s.epoch.active)] }

end Sys2Proof.Machine
end

