-- ==== Sys2Proof/Machine/Solve.lean ====
section
/-!
DEFINITION. The route solver's procedures on maps (Route Solving R44 to R55): incremental placement by free path, one-level
rearrangement and full fallback, the looping algorithm, the four phases, and the settlement of contradictions (R65).
-/

namespace Sys2Proof.Machine

/-- Is a circuit pinned (R53)? -/
def Circuit.pinned (c : Circuit) : Bool := c.cls == 0 || c.pin

/-- Number of cells of a path that no circuit of the map passes. -/
def parkCells (m : CMap) (i o mid : Nat) : Nat :=
  ((path i o mid).filter fun h => (m.hopIn h.cell).isNone).length

/-- Step A of R49: the route code whose path uses no occupied line and lights the fewest PARK cells, ties to the lowest. -/
def freePath (m : CMap) (i o : Nat) : Option Nat :=
  let cand := (List.range 256).filterMap fun mid =>
    if m.any fun c => c.meets i o mid then none else some (parkCells m i o mid, mid)
  (cand.foldl (fun best k => match best with
    | none => some k
    | some b => if k.1 < b.1 then some k else some b) (none : Option (Nat × Nat))).map (·.2)

/-- Re-place displaced circuits one at a time, each on its step-A path in the map as it then stands (R49, step B). A circuit
moved so, or by the full fallback, keeps the origin of the request that created it (Table ROUTE-6; DESIGN CHOICE, log 138). -/
def replaceAll (m : CMap) : List Circuit → Option CMap
  | [] => some m
  | c :: rest =>
    match freePath m c.inp c.out with
    | none => none
    | some mid => replaceAll (m.put { c with mid := mid }) rest

/-- The trial of step B for one route code: the size of the disturbed set, the PARK cells lit, and the map (R49). -/
def trialB (m : CMap) (c : Circuit) (mid : Nat) : Option (Nat × Nat × CMap) :=
  let hit := m.filter fun k => k.meets c.inp c.out mid
  if hit.any Circuit.pinned ∨ 3 < hit.length then none
  else
    let keep : CMap := m.filter fun k => !(k.meets c.inp c.out mid)
    match replaceAll (keep.put { c with mid := mid }) hit with
    | none => none
    | some m' =>
      let touched := c.out :: hit.map (·.out)
      let cells := m'.foldl (fun acc k => if touched.contains k.out then
        k.path.foldl (fun a h => insN h.cell a) acc else acc) []
      some (hit.length, (cells.filter fun x => (m.hopIn x).isNone).length, m')

/-- Step B of R49: smallest disturbed set, then fewest PARK cells lit, then lowest route code. -/
def rearrange (m : CMap) (c : Circuit) : Option CMap :=
  ((List.range 256).foldl (fun best mid =>
    match trialB m c mid, best with
    | none, _ => best
    | some k, none => some k
    | some k, some b => if k.1 < b.1 ∨ (k.1 = b.1 ∧ k.2.1 < b.2.1) then some k else some b)
    (none : Option (Nat × Nat × CMap))).map (·.2.2)

/-- Do two circuits of one subnetwork meet at level d, in an outer input cell or an outer output cell (R51)? -/
def linked (d : Nat) (a b : Circuit) : Bool :=
  a.out != b.out && a.mid % 2 ^ d == b.mid % 2 ^ d &&
    (a.inp / 2 ^ (d + 1) == b.inp / 2 ^ (d + 1) || a.out / 2 ^ (d + 1) == b.out / 2 ^ (d + 1))

/-- Grow a chain from its members: each new member takes the opposite half of the one it meets (R51). -/
def growChain (d : Nat) : Nat → List (Circuit × Bool) → List Circuit → List (Circuit × Bool) × List Circuit
  | 0, ch, rest => (ch, rest)
  | n + 1, ch, rest =>
    match rest.find? fun c => ch.any fun e => linked d e.1 c with
    | none => (ch, rest)
    | some c =>
      match ch.find? fun e => linked d e.1 c with
      | none => (ch, rest)
      | some e => growChain d n (ch ++ [(c, !e.2)]) (rest.filter fun k => k.out != c.out)

/-- The halves that the pinned circuits of a chain force on its first circuit (R51). -/
def forced (d : Nat) (start : CMap) (ch : List (Circuit × Bool)) : List Bool :=
  ch.filterMap fun e =>
    if e.1.pinned then
      match start.at_ e.1.out with
      | some k => if k.inp = e.1.inp then some (Bool.xor (k.mid / 2 ^ d % 2 == 1) e.2) else none
      | none => none
    else none

/-- Colour the chains of level d in order of their lowest output: the circuits with bit d of their route code set, or the
lowest output of the first chain that fails. -/
def colourLevel (d : Nat) (start active : CMap) : Nat → List Circuit → Except Nat (List Circuit)
  | 0, _ => .ok []
  | _ + 1, [] => .ok []
  | n + 1, c :: rest =>
    let (ch, rest') := growChain d rest.length [(c, false)] rest
    let fs := forced d start ch
    if fs.contains true ∧ fs.contains false then .error c.out
    else
      let half := match fs with
        | b :: _ => b
        | [] => match active.at_ c.out with
          | some k => k.inp == c.inp && k.mid / 2 ^ d % 2 == 1
          | none => false
      let done := ch.map fun e => { e.1 with mid := e.1.mid % 2 ^ d + if Bool.xor half e.2 then 2 ^ d else 0 }
      match colourLevel d start active n rest' with
      | .error q => .error q
      | .ok l => .ok (done ++ l)

/-- Insertion of a circuit list into ascending output order. -/
def sortMap (l : List Circuit) : CMap := l.foldl CMap.put []

/-- The looping algorithm of R51, level by level from the outside inward: n levels from level d on. -/
def loopLevels (start active : CMap) : Nat → Nat → CMap → Except Nat CMap
  | 0, _, m => .ok m
  | n + 1, d, m =>
    match colourLevel d start active (m.length + 1) m with
    | .error q => .error q
    | .ok l => loopLevels start active n (d + 1) (sortMap l)

/-- The full solve of R51 over the circuits of a map: eight levels, route code built from bit 0 up; the lowest output of any
chain that fails at the first failing level (R52). -/
def fullRoute (start active m : CMap) : Except Nat CMap :=
  loopLevels start active 8 0 (m.map fun c => { c with mid := 0 })

/-- Outcome of placing one circuit: the new map and whether the full fallback was used, or a refusal reason (R54). -/
inductive Placed
  | done (m : CMap) (fellBack : Bool)
  | refused (reason : Nat) (fellBack : Bool)
  deriving DecidableEq, Repr

/-- Class change of an existing circuit (R13, R53): becoming SAFETY pins, leaving SAFETY unpins. -/
def Circuit.reclass (c : Circuit) (cls : Nat) : Circuit :=
  { c with cls := cls, pin := if cls = 0 then true else if c.cls = 0 then false else c.pin }

/-- Place one circuit by R49. A circuit that already stands keeps its path and takes the requested class (log 12). -/
def place (active m : CMap) (c : Circuit) : Placed :=
  match m.at_ c.out with
  | some k =>
    if k.inp = c.inp then .done (m.put (k.reclass c.cls)) false else .refused 2 false
  | none =>
    match m.from_ c.inp with
    | some _ => .refused 2 false
    | none =>
      match freePath m c.inp c.out with
      | some mid => .done (m.put { c with mid := mid }) false
      | none =>
        match rearrange m c with
        | some m' => .done m' false
        | none =>
          match fullRoute m active (m.put c) with
          | .ok m' => .done m' true
          | .error _ => .refused 1 true

/-- The origin code of a request kind (Table ROUTE-6). -/
def Req.kind (r : Req) : Nat := if r.op = 1 then 1 else if r.op = 2 then 2 else if r.op = 4 then 3 else 5

/-- The circuit a request asks for from i to o. -/
def Req.circuit (r : Req) (i o : Nat) : Circuit :=
  ⟨o, i, 0, r.cls, r.cls == 0, ⟨r.src, r.kind, r.seq, r.srcObj, r.dstObj⟩⟩

/-- Is a CONNECT class-only after phase 1 (R13)? -/
def Req.classOnly (r : Req) (m : CMap) : Bool :=
  r.op == 1 && (match m.at_ r.out with | some k => k.inp == r.inp | none => false)

/-- Place what a phase-3 request asks for; a DUPLEX succeeds or fails whole (R49). For its second circuit the map before the
request, in step B and in the full fallback, is the map in which its first circuit stands (DESIGN CHOICE, log 149). -/
def placeReq (active m : CMap) (r : Req) : Placed :=
  if r.op = 4 then
    match place active m (r.circuit r.inp r.out) with
    | .refused k f => .refused k f
    | .done m1 f1 =>
      match place active m1 (r.circuit r.out r.inp) with
      | .refused k f => .refused k (f1 || f)
      | .done m2 f2 => .done m2 (f1 || f2)
  else place active m (r.circuit r.inp r.out)

/-- Apply PIN or UNPIN to output q (R44, R53). -/
def pinOut (m : CMap) (q : Nat) (b : Bool) : CMap :=
  match m.at_ q with
  | some c => if c.cls = 0 then m else m.put { c with pin := b }
  | none => m

/-- A request after a solve: refusal reason and whether the full fallback was needed. -/
structure ReqOut where
  src : Nat
  seq : Nat
  reason : Nat
  fellBack : Bool
  deriving DecidableEq, Repr

/-- Phase 1 and phase 2 of R44 over the covered requests in key order; also the outputs that carry a circuit after phase 1. -/
def phase12 (base : CMap) (l : List Req) : CMap × CMap :=
  let m1 := l.foldl (fun m r => if r.op = 3 then m.without r.out else m) base
  let m2 := l.foldl (fun m r =>
    if r.op = 5 ∧ (m1.at_ r.out).isSome then pinOut m r.out true
    else if r.op = 6 ∧ (m1.at_ r.out).isSome then pinOut m r.out false
    else if r.classOnly m1 then
      match m.at_ r.out with
      | some k => m.put (k.reclass r.cls)
      | none => m
    else m) m1
  (m1, m2)

/-- Phase 4 of R44: PIN of circuits created in phase 3. -/
def phase4 (m1 : CMap) (l : List Req) (m : CMap) : CMap :=
  l.foldl (fun m r => if r.op = 5 ∧ (m1.at_ r.out).isNone then pinOut m r.out true else m) m

/-- Is a request one of phase 3? -/
def Req.phase3 (r : Req) (m1 : CMap) : Bool := (r.op == 1 || r.op == 2 || r.op == 4) && !(r.classOnly m1)

/-- SOLVE_INCR from a base map: the staging map and what became of each request (R44, R49). -/
def solveIncrMap (active base : CMap) (l : List Req) : CMap × List ReqOut :=
  let (m1, m2) := phase12 base l
  let (m3, outs) := l.foldl (fun (acc : CMap × List ReqOut) r =>
    if r.phase3 m1 then
      match placeReq active acc.1 r with
      | .done m f => (m, acc.2 ++ [⟨r.src, r.seq, 0, f⟩])
      | .refused k f => (acc.1, acc.2 ++ [⟨r.src, r.seq, k, f⟩])
    else acc) (m2, [])
  (phase4 m1 l m3, outs)

/-- The port check of phase 3 alone, the circuit entered without a path (SOLVE_FULL). -/
def enter (m : CMap) (c : Circuit) : Option CMap :=
  match m.at_ c.out with
  | some k => if k.inp = c.inp then some (m.put (k.reclass c.cls)) else none
  | none => if (m.from_ c.inp).isSome then none else some (m.put c)

/-- Port check of one phase-3 request in SOLVE_FULL. -/
def enterReq (m : CMap) (r : Req) : Option CMap :=
  if r.op = 4 then (enter m (r.circuit r.inp r.out)).bind fun m1 => enter m1 (r.circuit r.out r.inp)
  else enter m (r.circuit r.inp r.out)

/-- SOLVE_FULL (R51, R52): phases 1 and 2 and the port checks from the base, then every circuit routed in one pass. A solve
applies every request of the epoch anew (R45), so a PIN of phase 4 binds from its phase on in each solve, and not a circuit
that an earlier solve of the epoch created and pinned (DEDUCED, log 139). -/
def solveFullMap (start active base : CMap) (l : List Req) : Except Nat (CMap × List ReqOut) :=
  let (m1, m2) := phase12 base l
  let (m3, outs) := l.foldl (fun (acc : CMap × List ReqOut) r =>
    if r.phase3 m1 then
      match enterReq acc.1 r with
      | some m => (m, acc.2 ++ [⟨r.src, r.seq, 0, false⟩])
      | none => (acc.1, acc.2 ++ [⟨r.src, r.seq, 2, false⟩])
    else acc) (m2, [])
  match fullRoute start active m3 with
  | .error q => .error q
  | .ok m => .ok (phase4 m1 l m, outs)

/-! ### Contradictions (R65) -/

/-- Does a request name output q (R65)? -/
def Req.names (r : Req) (q : Nat) : Bool := r.out == q || (r.op == 4 && r.inp == q)

/-- The state of an output compared under R65: V, IN, CLASS and PIN; none while it carries no circuit. -/
abbrev OutState := Option (Nat × Nat × Bool)

/-- The state of output q in a map. -/
def CMap.outState (m : CMap) (q : Nat) : OutState := (m.at_ q).map fun c => (c.inp, c.cls, c.pinned)

/-- The result of applying a request to the state of output q (R65); a request for a circuit leaves the state it asks for
(log 13). -/
def Req.applyTo (r : Req) (q : Nat) (v : OutState) : OutState :=
  let inp := if r.op = 4 ∧ r.out ≠ q then r.out else r.inp
  if r.op = 3 then none
  else if r.op = 5 then v.map fun x => (x.1, x.2.1, true)
  else if r.op = 6 then v.map fun x => (x.1, x.2.1, x.2.1 == 0)
  else match v with
    | some (i, cls, pin) =>
      if i = inp then some (i, r.cls, if r.cls = 0 then true else if cls = 0 then false else pin)
      else some (inp, r.cls, r.cls == 0)
    | none => some (inp, r.cls, r.cls == 0)

/-- The state source s alone would leave output q in, over its surviving requests in key order. -/
def alone (base : CMap) (l : List Req) (s q : Nat) : OutState :=
  l.foldl (fun v r => if r.src = s ∧ r.names q ∧ r.discarded = false then r.applyTo q v else v) (base.outState q)

/-- One discarded request: winner, the winner's latest sequence for the output, the loser and the output. -/
structure Lost where
  winSrc : Nat
  winSeq : Nat
  loseSrc : Nat
  loseSeq : Nat
  index : Nat
  deriving DecidableEq, Repr

/-- Settle output q over a key-ordered list: the losing requests marked, and the conflicts to record (R65). -/
def settleOut (base : CMap) (acc : List Req × List Lost) (q : Nat) : List Req × List Lost :=
  let l := acc.1
  let live := l.filter fun r => r.names q && !r.discarded
  match live with
  | [] => acc
  | w :: _ =>
    let winSeq := (live.filter fun r => r.src == w.src).foldl (fun _ r => r.seq) w.seq
    let want := alone base l w.src q
    let loses (r : Req) : Bool := r.names q && !r.discarded && r.src != w.src && (alone base l r.src q != want)
    (l.map fun r => if loses r then { r with discarded := true } else r,
      acc.2 ++ (l.filter loses).map fun r => ⟨w.src, winSeq, r.src, r.seq, q⟩)

/-- The settlement of R65, outputs in ascending order. -/
def settle (base : CMap) (l : List Req) : List Req × List Lost :=
  (List.range 512).foldl (settleOut base) (l, [])

end Sys2Proof.Machine
end

