-- ==== Sys2Proof/Machine/Bell.lean ====
section
/-!
DEFINITION. The route solver's commands (Route Solving): accepting requests (R40, R41, R73), solves and their reports
(R46, R52, R54, R55), DIRECT_MAP (R56, R68), CLEAR_STAGE (R57) and the pre-staged set (R83).
-/

namespace Sys2Proof.Machine

/-- The first sequence of a source in this epoch (R44), if it has issued an order. -/
def Bell.firstOf (b : Bell) (src : Nat) : Option Nat := (b.first.find? fun e => e.1 == src).map (·.2)

/-- Note an accepted request, solver command or epoch command of a source: the first fixes s0 of R44. A solver command counts
as accepted where it acts: a solve that starts, a CLEAR_STAGE also where it answers ZERO, a DIRECT_MAP with DONE; and not
where it answers BUSY, LOCKED, ZERO, REFUSED or CONFLICT without acting (DESIGN CHOICE, log 148). -/
def State.noteFirst (s : State) (src seq : Nat) : State :=
  match s.bell.firstOf src with
  | some _ => s
  | none => { s with bell := { s.bell with first := s.bell.first ++ [(src, seq)] } }

/-- The serial offset of a sequence (R44). -/
def Bell.offset (b : Bell) (src seq : Nat) : Nat := (seq + 65536 - (b.firstOf src).getD seq) % 65536

/-- The state with every listed request changed by f. -/
def State.mapReqs (s : State) (f : Req → Req) : State :=
  { s with bell := { s.bell with list := s.bell.list.map f } }

/-- Key order of R44: source rank, which the codes of host and pre-staged sources follow, then serial offset. -/
def Bell.before (b : Bell) (r q : Req) : Bool :=
  decide (r.src < q.src) || (r.src == q.src && decide (b.offset r.src r.seq < b.offset q.src q.seq))

/-- Enter a request into the list, in key order. -/
def Bell.enter (b : Bell) (r : Req) : List Req → List Req
  | [] => [r]
  | q :: t => if b.before r q then r :: q :: t else q :: Bell.enter b r t

/-- Sequence a of a source comes before or at sequence b in the serial order of R44. -/
def State.seqLater (s : State) (src a b : Nat) : Bool := decide (s.bell.offset src b < s.bell.offset src a)

/-! ### Conflicts (R66) -/

/-- Record a conflict: counter, log if it has room, INT_CAUSE bit 1, event 0x1201. `kind` is 0 OUTPUT, 1 CELL, 2 EPOCH. -/
def State.conflict (s : State) (kind winSrc winSeq loseSrc loseSeq index : Nat) : State :=
  let s := (s.count Reg.EPOCH_CONFLICT_CNT).cause 0x13 1
  let w0 := w32 (at_ 31 29 winSrc + at_ 28 26 loseSrc + at_ 25 24 kind + at_ 12 0 index)
  let w1 := w32 (at_ 31 16 winSeq + at_ 15 0 loseSeq)
  let s := if s.epoch.clog.length < 64 then { s with epoch := { s.epoch with clog := s.epoch.clog ++ [(w0, w1)] } }
    else { s with epoch := { s.epoch with clogOvf := true } }
  s.eventAt 0x13 0x1201 loseSrc loseSeq s.nextEpoch (pay [winSrc, winSeq, kind, index])


/-! ### Requests -/

/-- Form a request of opcode 0x01 to 0x06 from its arguments, objects resolved by `res`; none where R40 says BADARG. -/
def mkReq (stg : CMap) (res : Nat → Option Nat) (op : Nat) (a0 a1 : Word) (src seq : Nat) : Option Req :=
  let mk (inp out cls : Nat) (so do_ : Option Nat) : Req :=
    ⟨src, seq, op, inp, out, cls, so, do_, 0, false, false, false, 0, false, false⟩
  let q := fld a0 8 0
  match op with
  | 1 => if fld a1 1 0 = 3 then none else some (mk (fld a0 24 16) q (fld a1 1 0) none none)
  | 2 =>
    let so := fld a0 19 0
    let dd := fld a1 19 0
    let cls := fld a1 29 28
    if cls = 3 ∨ so = dd ∨ so = 0 ∨ so = 0xFFFFF ∨ dd = 0 ∨ dd = 0xFFFFF then none
    else match res so, res dd with
      | some i, some o => if i < 512 ∧ o < 512 then some (mk i o cls (some so) (some dd)) else none
      | _, _ => none
  | 3 => some (mk 0 q 0 none none)
  | 4 => if fld a1 1 0 = 3 ∨ fld a0 24 16 = q then none else some (mk (fld a0 24 16) q (fld a1 1 0) none none)
  | 5 => if ((stg.at_ q).map (·.cls)) = some 0 then none else some (mk 0 q 0 none none)
  | 6 => if ((stg.at_ q).map (·.cls)) = some 0 then none else some (mk 0 q 0 none none)
  | _ => none

/-- A request of opcode 0x01 to 0x06 arrives (R40, R41, R73, R84). Where several of their codes apply, DONE of a repeat goes
before BUSY of a restore, that before LOCKED of a prepared map, and all three before BADARG (DESIGN CHOICE, log 120). -/
def State.request (s : State) (res : Nat → Option Nat) (op : Nat) (o : Order) (a0 a1 : Word) : State :=
  let src := portSrc o.port
  let seq := o.seq.toNat
  if s.bell.list.any fun r => r.src == src && r.seq == seq then s.complete 0x11 op cDONE o
  else if s.epoch.restoring then s.complete 0x11 op cBUSY o
  else if s.epoch.prep.isSome then s.complete 0x11 op cLOCKED o
  else match mkReq s.bell.stg res op a0 a1 src seq with
    | none => s.complete 0x11 op cBADARG o
    | some r =>
      if 1024 ≤ s.bell.list.length then s.complete 0x11 op cNOROOM o
      else
        let s := s.noteFirst src seq
        let s := { s with bell := { s.bell with list := s.bell.enter r s.bell.list } }
        s.complete 0x11 op cDONE o

/-- The first n entries of the pre-staged set as requests of source 3; none if any would complete with BADARG (R83). -/
def State.prestaged (s : State) (res : Nat → Option Nat) : Nat → Option (List Req)
  | 0 => some []
  | i + 1 =>
    match s.prestaged res i with
    | none => none
    | some l =>
      let a := 0x13A00 + 16 * i
      (mkReq s.bell.stg res (s.rf a 7 0) (s.reg (a + 4)) (s.reg (a + 8)) 3 i).map fun r => l ++ [r]

/-- PRESTAGE(n) (R83). While a PREPARE runs nothing is prepared yet, and the entries are entered like any request (DESIGN
CHOICE, log 115). -/
def State.prestage (s : State) (res : Nat → Option Nat) (o : Order) (a0 : Word) : State :=
  let n := fld a0 6 0
  let done (s : State) (c : Nat) : State := s.complete 0x13 5 c o
  if s.epoch.restoring then done s cBUSY
  else if s.epoch.prep.isSome then done s cLOCKED
  else if n = 0 then done s cZERO
  else if 64 < n then done s cBADARG
  else match s.prestaged res n with
    | none => done s cBADARG
    | some l =>
      if 1024 < s.bell.list.length + n then done s cNOROOM
      else if s.bell.list.any fun r => r.src == 3 then done s cBUSY
      else
        let s := (s.noteFirst (portSrc o.port) o.seq.toNat).noteFirst 3 0
        done { s with bell := { s.bell with list := l.foldl (fun acc r => s.bell.enter r acc) s.bell.list } } cDONE

/-! ### Reports -/

/-- The categories of every output after a solve (R55): DELTA codes and the counts of DIST_A and DIST_B. -/
def State.report (s : State) (kind : Nat) (fallback : Bool) (solved refused ns : Nat) : State :=
  let act := s.epoch.active
  let stg := s.bell.stg
  let delta := (List.range 512).foldl (fun t q => tset (fun _ => 0) t q (category act stg q)) ([] : Tbl Nat)
  let n (k : Nat) : Nat := (inCategory act stg k).length
  let s := { s with bell := { s.bell with delta := delta } }
  let s := s.setReg Reg.BELL_SOLVE_RES (w32 (at_ 31 30 kind + flag 29 fallback + at_ 26 16 solved + at_ 10 0 refused))
  let s := s.setReg Reg.BELL_DIST_A (w32 (at_ 25 16 (n 3) + at_ 9 0 (n 2)))
  let s := s.setReg Reg.BELL_DIST_B (w32 (at_ 25 16 (n 1) + at_ 9 0 (n 5)))
  let s := s.setReg Reg.BELL_SOLVE_NS (w32 ns)
  let s := s.cause 0x11 0
  if s.rb Reg.BELL_CFG 1 then
    s.eventAt 0x11 0x1100 7 0 s.nextEpoch [s.reg Reg.BELL_SOLVE_RES, s.reg Reg.BELL_DIST_A, s.reg Reg.BELL_DIST_B]
  else s

/-- One refusal: counter, refusal log, INT_CAUSE bit 1, event 0x1101 (R54). -/
def State.refusal (s : State) (src seq reason port : Nat) : State :=
  let s := (s.count Reg.BELL_REFUSE_CNT).cause 0x11 1
  let w := w32 (at_ 31 29 src + at_ 28 27 reason + at_ 26 18 port + at_ 15 0 seq)
  let s := if s.bell.log.length < 128 then { s with bell := { s.bell with log := s.bell.log ++ [w] } }
    else { s with bell := { s.bell with logOvf := true } }
  if s.rb Reg.BELL_CFG 0 then s.eventAt 0x11 0x1101 src seq s.nextEpoch (pay [reason, port]) else s

/-- One request that needed the full fallback: counter, INT_CAUSE bit 2, event 0x1102 (R54, R59). -/
def State.fallback (s : State) (src seq port : Nat) : State :=
  ((s.count Reg.BELL_FALLBACK_CNT).cause 0x11 2).eventAt 0x11 0x1102 src seq s.nextEpoch (pay [port])

/-- The requests a solve applies: covered, surviving, and after the base (R45). -/
def Bell.applied (b : Bell) : List Req := b.list.filter fun r => r.covered && !r.discarded && !r.based

/-- Record what a solve found for one request, once per epoch (R54). -/
def State.noteOut (s : State) (x : ReqOut) : State :=
  match s.bell.list.find? fun r => r.src == x.src && r.seq == x.seq with
  | none => s
  | some r =>
    let s := if x.fellBack ∧ r.fellBack = false then s.fallback r.src r.seq r.out else s
    let s := if x.reason ≠ 0 ∧ r.counted = false then s.refusal r.src r.seq x.reason r.out else s
    s.mapReqs fun q =>
      if q.src = x.src ∧ q.seq = x.seq then
        { q with refused := x.reason, counted := q.counted || x.reason != 0, fellBack := q.fellBack || x.fellBack }
      else q

/-- Redo the SOLVE_FULLs that led to the base over the requests that survive now (R45, R66). A SOLVE_FULL that fails then
leaves the base it began from, and what it covered comes after the base (DESIGN CHOICE, log 136). -/
def State.redoFulls (s : State) : State :=
  match s.bell.fulls with
  | [] => s
  | f0 :: _ =>
    let (s, base, fulls, carry) := s.bell.fulls.foldl (fun (acc : State × CMap × List FullSolve × List (Nat × Nat)) f =>
      let (s, base, fulls, carry) := acc
      let reqs := carry ++ f.reqs
      let l := s.bell.list.filter fun r => !r.discarded && reqs.contains (r.src, r.seq)
      match solveFullMap f.start s.epoch.active base l with
      | .error _ => (s, base, fulls, reqs)
      | .ok (m, outs) => (outs.foldl State.noteOut s, m, fulls ++ [⟨f.start, base, reqs⟩], []))
      (s, f0.base, [], [])
    let s := s.mapReqs fun r => if carry.contains (r.src, r.seq) then { r with based := false } else r
    { s with bell := { s.bell with base := base, fulls := fulls } }

/-- Settle contradictions over the listed requests before a solve (R65, R66); an earlier SOLVE_FULL that covered a request
discarded now is redone without it. -/
def State.settle (s : State) : State :=
  let (l, lost) := Machine.settle s.bell.base s.bell.list
  let folded := lost.any fun x => s.bell.list.any fun r => r.based && r.src == x.loseSrc && r.seq == x.loseSeq
  let s := lost.foldl (fun s x => s.conflict 0 x.winSrc x.winSeq x.loseSrc x.loseSeq x.index)
    { s with bell := { s.bell with list := l } }
  if folded then s.redoFulls else s

/-- Start a solve over every listed request (R46), after the settlement of R65. -/
def State.startSolve (s : State) (kind : Nat) (o : Option Order) : State :=
  let s := s.settle
  let fresh := (s.bell.list.filter fun r => !r.covered).map fun r => (r.src, r.seq)
  { s with bell := { s.bell with
      list := s.bell.list.map fun r => { r with covered := true }
      job := some ⟨kind, o, s.now, fresh, s.bell.stg⟩ } }

/-- Complete a solver command with a reason in CMD_STATUS (Table ROUTE-13); a solve that is part of another command has no
completion of its own. -/
def State.solveComplete (s : State) (op code reason : Nat) (o : Option Order) : State :=
  match o with
  | none => s
  | some o => s.completeX 0x11 op code (at_ 17 16 reason) (some o)

/-- A solve ends: staging map, refusals, report and completion (R54, R55). SOLVED counts every request the solve covers,
those discarded or already in the base with them (log 48); with several refusals of different reasons REASON is that of the
first refused in key order (DESIGN CHOICE, log 137); a SOLVE_FULL that fails reports the staging map it leaves, with its own
refusal as the one refused (log 121). After a SOLVE_FULL the base is no DIRECT_MAP load any more, so the cells of one that the
solve leaves as they were loaded do not carry DMAP once committed (DESIGN CHOICE, log 168). -/
def State.finishSolve (s : State) : State :=
  match s.bell.job with
  | none => s
  | some j =>
    let ns := (s.now - j.start) / nsUnit
    let l := s.bell.applied
    let n := (s.bell.list.filter fun r => r.covered).length
    let s := { s with bell := { s.bell with job := none } }
    if j.kind = 1 then
      let (m, outs) := solveIncrMap s.epoch.active s.bell.base l
      let s := outs.foldl State.noteOut { s with bell := { s.bell with stg := m } }
      let bad := outs.filter fun x => x.reason != 0
      let s := s.report 1 (outs.any fun x => x.fellBack) n bad.length ns
      match bad with
      | [] => s.solveComplete 8 cDONE 0 j.ord
      | x :: _ => s.solveComplete 8 cREFUSED x.reason j.ord
    else
      match solveFullMap j.startMap s.epoch.active s.bell.base l with
      | .error q =>
        let s := s.mapReqs fun r => { r with covered := r.covered && !(j.fresh.contains (r.src, r.seq)) }
        let s := match j.ord with
          | some o => s.refusal (portSrc o.port) o.seq.toNat 1 q
          | none => s
        (s.report 2 false n 1 ns).solveComplete 9 cREFUSED 1 j.ord
      | .ok (m, outs) =>
        let full : FullSolve := ⟨j.startMap, s.bell.base, l.map fun r => (r.src, r.seq)⟩
        let s := outs.foldl State.noteOut { s with bell := { s.bell with
          stg := m, base := m, baseDirect := none, fulls := s.bell.fulls ++ [full] } }
        let s := s.mapReqs fun r => if r.covered then { r with based := true } else r
        let s := s.report 2 false n (outs.filter fun x => x.reason != 0).length ns
        s.solveComplete 9 cDONE 0 j.ord

/-- SOLVE_INCR (R46, R73, R84). -/
def State.solveIncr (s : State) (o : Order) : State :=
  if s.epoch.restoring then s.complete 0x11 8 cBUSY o
  else if s.epoch.prep.isSome then s.complete 0x11 8 cLOCKED o
  else if s.bell.job.isSome then s.complete 0x11 8 cBUSY o
  else if s.bell.list.all fun r => r.covered then s.complete 0x11 8 cZERO o
  else (s.noteFirst (portSrc o.port) o.seq.toNat).startSolve 1 (some o)

/-- SOLVE_FULL (R51, R52, R73, R84). -/
def State.solveFull (s : State) (o : Order) : State :=
  if s.epoch.restoring then s.complete 0x11 9 cBUSY o
  else if s.epoch.prep.isSome then s.complete 0x11 9 cLOCKED o
  else if s.bell.job.isSome then s.complete 0x11 9 cBUSY o
  else (s.noteFirst (portSrc o.port) o.seq.toNat).startSolve 2 (some o)

/-! ### DIRECT_MAP -/

/-- The loaded state code of cell c in the BELL window (Table ROUTE-4). -/
def State.loadedCell (s : State) (c : Nat) : Nat := s.rf (0x11800 + 4 * (c / 16)) (2 * (c % 16) + 1) (2 * (c % 16))

/-- Is input p enabled in the BELL window? -/
def State.loadedInput (s : State) (p : Nat) : Bool := s.rb (0x11C40 + 4 * (p / 32)) (p % 32)

/-- The class loaded for input p. -/
def State.loadedClass (s : State) (p : Nat) : Nat := s.rf (0x11C80 + 4 * (p / 16)) (2 * (p % 16) + 1) (2 * (p % 16))

/-- Trace an input through the loaded states by R23, n stages from stage s with line x, remembering the line entering S8:
the route code and the output, or none at a PARK cell. -/
def State.trace (st : State) : Nat → Nat → Nat → Nat → Option (Nat × Nat)
  | 0, _, x, mid => some (mid, x)
  | n + 1, s, x, mid =>
    let mid := if s = 8 then x % 256 else mid
    match st.loadedCell (cellOf x s) with
    | 1 => st.trace n (s + 1) x mid
    | 2 => st.trace n (s + 1) (Nat.xor x (2 ^ stageBit s)) mid
    | _ => none

/-- The circuits the loaded states define for the enabled inputs, none where R56 says BADARG for a trace or a class. A
circuit that stays on its path keeps the origin it has (DESIGN CHOICE, log 138). -/
def State.tracedMap (s : State) (src seq : Nat) : List Nat → Option CMap
  | [] => some []
  | p :: t =>
    match s.tracedMap src seq t with
    | none => none
    | some m =>
      if s.loadedClass p = 3 then none
      else match s.trace 17 0 p 0 with
        | none => none
        | some (mid, o) =>
          let cls := s.loadedClass p
          let fresh : Circuit := ⟨o, p, mid, cls, cls == 0, ⟨src, 4, seq, none, none⟩⟩
          match s.bell.stg.at_ o with
          | some k => if k.inp = p then
              let c := { k.reclass cls with mid := mid }
              some (m.put (if k.mid = mid then c else { c with org := fresh.org }))
            else some (m.put fresh)
          | none => some (m.put fresh)

/-- Same circuits by output, input, route code and class. -/
def CMap.sameAs (a b : CMap) : Bool :=
  a.map (fun c => (c.out, c.inp, c.mid, c.cls)) == b.map (fun c => (c.out, c.inp, c.mid, c.cls))

/-- The lowest cell whose state differs between two maps; 0 if none does (log 14). -/
def lowestDiff (a b : CMap) : Nat := ((List.range 4352).find? fun c => a.cell c != b.cell c).getD 0

/-- A map loaded by DIRECT_MAP becomes staging map and base (R56); it is kept as loaded, for the index of a later conflict, which a
release of circuits from the base does not change (R68). -/
def State.loadMap (s : State) (src seq : Nat) (m : CMap) : State :=
  let s := s.noteFirst src seq
  let s := { s with bell := { s.bell with
    stg := m, base := m, baseDirect := some (src, seq), fulls := [], directLoad := m } }
  s.report 3 false 0 0 0

/-- DIRECT_MAP (R56, R68). -/
def State.directMap (s : State) (o : Order) : State :=
  let src := portSrc o.port
  let seq := o.seq.toNat
  let done (s : State) (c : Nat) : State := s.complete 0x11 10 c o
  if s.epoch.restoring then done s cBUSY
  else if s.epoch.prep.isSome then done s cLOCKED
  else if s.bell.job.isSome then done s cBUSY
  else if s.bell.list ≠ [] then done s cBUSY
  else
    let ins := (List.range 512).filter s.loadedInput
    if ins = [] then done s cZERO
    else if (List.range 4352).any fun c => s.loadedCell c == 3 then done s cBADARG
    else match s.tracedMap src seq ins with
      | none => done s cBADARG
      | some m =>
        if (List.range 4352).any fun c => s.loadedCell c != 0 && (m.hopIn c).isNone then done s cBADARG
        else if s.bell.stg.any fun k => k.pinned && !(m.any fun c => c.out == k.out && c.inp == k.inp && c.mid == k.mid)
        then s.completeX 0x11 10 cREFUSED (at_ 17 16 1) (some o)
        else if m.sameAs s.bell.base then done (s.noteFirst src seq) cDONE
        else match s.bell.baseDirect with
          | some (bs, bq) =>
            let idx := lowestDiff s.bell.directLoad m
            let s := { s with bell := { s.bell with cellLost := true } }
            if bs < src then done (s.conflict 1 bs bq src seq idx) cCONFLICT
            else done ((s.conflict 1 src seq bs bq idx).loadMap src seq m) cDONE
          | none => done (s.loadMap src seq m) cDONE

/-- The staging side emptied and set to the active map: list, refusal log, bitmaps, base (R57, R63). What belongs to the
epoch stays: the first sequence of each source (R44) and that a log overflowed (Tables ROUTE-20 and EPOCH-13). A request or
DIRECT_MAP that was discarded or stood refused before is forgotten, so a strict PREPARE after a CLEAR_STAGE does not complete
with REFUSED on its account (DESIGN CHOICE, log 169). -/
def State.clearStaging (s : State) : State :=
  let m := s.epoch.active
  { s with
    bell := { s.bell with
      list := []
      base := m
      baseDirect := none
      stg := m
      delta := []
      log := []
      cellLost := false
      fulls := [] }
    epoch := { s.epoch with clog := [] } }

/-- A new epoch begins with an empty staging side (R44, R63). -/
def State.newEpoch (s : State) : State :=
  let s := s.clearStaging
  { s with
    bell := { s.bell with logOvf := false, first := [] }
    epoch := { s.epoch with clogOvf := false } }

/-- CLEAR_STAGE (R57, R73). -/
def State.clearStage (s : State) (o : Order) : State :=
  if s.epoch.restoring then s.complete 0x11 11 cBUSY o
  else if s.epoch.prep.isSome then s.complete 0x11 11 cLOCKED o
  else if s.bell.job.isSome then s.complete 0x11 11 cBUSY o
  else
    let code := if s.bell.list = [] ∧ s.bell.stg.sameAs s.epoch.active then cZERO else cDONE
    (s.noteFirst (portSrc o.port) o.seq.toNat).clearStaging.complete 0x11 11 code o

end Sys2Proof.Machine
end

