-- ==== Sys2Proof/Machine/Commit.lean ====
section
/-!
DEFINITION. The commit (Epochs, Staging and Commit R63, R79, R82; Temperature and Power Management R334): when a device is
ready, and everything that changes at the commit instant.
-/

namespace Sys2Proof.Machine

/-- Is the device in safe-hold (R81)? -/
def State.inSafe (s : State) : Bool := s.safe.active

/-- Is nSAFE_HOLD recognised low (R81)? -/
def State.nsafeLow (s : State) : Bool := s.safe.pin

/-- Does output q carry a circuit of one of the given classes in a map? -/
def CMap.carries (m : CMap) (q : Nat) (p : Nat → Bool) : Bool :=
  match m.at_ q with
  | some c => p c.cls
  | none => false

/-- Would the rate-of-rise condition defer an epoch from the active map to m (R334)? -/
def State.defers (s : State) (m : CMap) : Bool :=
  let a := s.epoch.active
  let outs := affectedOutputs a m
  let changed := outs ++ inCategory a m 4
  s.therm.rate && (outs.any fun q => a.carries q (· == 2) || m.carries q (· == 2))
    && !(changed.any fun q => a.carries q (· < 2) || m.carries q (· < 2))

/-- Is the prepared epoch deferred now (R334)? -/
def State.deferredNow (s : State) : Bool :=
  match s.epoch.prep with
  | some m => s.defers m
  | none => false

/-- Each deferred epoch is counted once, at its first deferral (R334). -/
def State.noteDefer (s : State) : State :=
  if s.deferredNow ∧ s.epoch.deferred = false then
    let s := s.count Reg.THM_DEFER_CNT
    { s with epoch := { s.epoch with deferred := true } }
  else s

/-- No transition runs, nCLR is high and a plane holds the token (R79). -/
def State.canRestore (s : State) : Bool := !s.trans.running && !s.drv.nclrLow && s.token.holder.isSome

/-- Is the device ready to commit the prepared map (R79)? -/
def State.canCommit (s : State) : Bool := s.canRestore && !s.safe.active && !s.deferredNow

/-- The Cell Table at a change of the active map (R35, R36, R63): moves, last lit state, DIRECT_MAP origin, and the runs of
conversions, which restart when a cell leaves PARK. -/
def State.moveCells (s : State) (old new : CMap) (direct : Bool) (base : CMap) : State :=
  s.each (movingCells old new) fun s c =>
    let st := new.cell c
    s.updCell c fun r => { r with
      moves := (r.moves + 1) % 2 ^ 32
      lastLit := if st = .park then r.lastLit else some (st == .cross)
      dmap := direct && base.cell c == st
      run0 := if st = .park then r.run0 else 0
      run1 := if st = .park then r.run1 else 0 }

/-- Events CIRCUIT_DELAY of a commit (R271): output, old latency, new latency. -/
def State.delayEvents (s : State) (old new : CMap) : State :=
  if s.rb Reg.TIME_CFG 30 then
    s.each (List.range 512) fun s q =>
      let lat (m : CMap) : Nat := match m.at_ q with | some c => latency s.fuse c | none => 0
      if lat old = lat new then s
      else s.eventAt 0x78 0x6010 7 0 s.epoch.act (pay [q, lat old, lat new])
  else s

/-- The commit of a map as epoch A + 1 for an order of source src and sequence seq (R63, R82). -/
def State.commitMap (s : State) (m : CMap) (src seq : Nat) : State :=
  let old := s.epoch.active
  let act := s.nextEpoch
  let n (k : Nat) : Nat := (inCategory old m k).length
  let touched := (List.range 512).filter fun q => category old m q != 0
  let s := s.moveCells old m s.bell.baseDirect.isSome s.bell.base
  let changed := touched.foldl (fun t q => tset (fun _ => 0) t q act) s.epoch.changed
  let s := { s with
    epoch := { s.epoch with act := act, committed := true, active := m, changed := changed, lastOut := 1, lastEpoch := act }
    therm := { s.therm with marks := s.therm.marks.filter fun q => !(touched.contains q) } }
  let s := s.newEpoch.cause 0x13 0
  let s := if s.rb Reg.EPOCH_CFG 1 then s.eventAt 0x13 0x1200 src seq act (pay [n 1, n 2, n 3, n 5]) else s
  let s := s.delayEvents old m
  (s.fireTrig 4 0xFFFF).startTransition old

end Sys2Proof.Machine
end

