-- ==== Sys2Proof/Machine/Epoch.lean ====
section
/-!
DEFINITION. Epoch commands (Epochs, Staging and Commit R69 to R81): PREPARE and its lease, COMMIT_NOW, COMMIT_AT, ABORT,
the arbitration of contradicting orders, and what ends a prepared map.
-/

namespace Sys2Proof.Machine

/-- BY_TAG and the tag of an epoch command's ARG3 (Table EPOCH-2). -/
def EpochCmd.byTag (c : EpochCmd) : Bool := bit c.a3 31
def EpochCmd.tag (c : EpochCmd) : Nat := fld c.a3 27 16

/-- The tag a PREPARE prepares under: 0 with BY_TAG = 0 (R71). -/
def EpochCmd.prepTag (c : EpochCmd) : Nat := if c.byTag then c.tag else 0

/-- T of a COMMIT_AT in whole nanoseconds (Table EPOCH-2). -/
def EpochCmd.time (c : EpochCmd) : Nat := (fld c.a3 15 0 * 2 ^ 32 + c.a2.toNat) * 1000000000 + c.a1.toNat

/-- An epoch command completes; `reason` goes to CMD_STATUS with REFUSED (Table EPOCH-10). -/
def State.epochDone (s : State) (c : EpochCmd) (code reason : Nat) : State :=
  s.completeX 0x13 c.op code (at_ 17 16 reason) (some c.ord)

/-- A held commit order ends: it and the orders identical to it complete (R69). -/
def State.endHeld (s : State) (h : Held) (code : Nat) : State :=
  h.waiters.foldl (fun s c => s.epochDone c code 0) (s.epochDone h.cmd code 0)

/-- Take the held order, if any, out of the state. -/
def State.dropHeld (s : State) : State := { s with epoch := { s.epoch with held := none } }

/-- How the latest epoch ended (Table EPOCH-13). -/
def State.lastOut (s : State) (k : Nat) : State :=
  { s with epoch := { s.epoch with lastOut := k, lastEpoch := s.nextEpoch } }

/-- The prepared map is discarded as under R75: counter, INT_CAUSE bit 3, event 0x1204 with its cause. The held order must
be ended by the caller. -/
def State.discard (s : State) (cause : Nat) : State :=
  let s := (s.count Reg.EPOCH_ABORT_CNT).cause 0x13 3
  let s := s.eventAt 0x13 0x1204 7 0 s.nextEpoch (pay [cause])
  let s := s.lastOut 3
  { s with epoch := { s.epoch with prep := none, held := none, tagEnd := 4, deferred := false } }

/-- Discard by safe-hold (R81): a held COMMIT_AT completes with CONFLICT, and a conflict against source 6 is recorded, if the
nSAFE_HOLD pin is low; every other held order completes with ABORTED. -/
def State.discardSafe (s : State) (pinLow : Bool) : State :=
  match s.epoch.prep with
  | none => s
  | some _ =>
    let h := s.epoch.held
    let s := s.discard 3
    match h with
    | none => s
    | some h =>
      if pinLow then
        let s := s.conflict 2 6 0 (portSrc h.cmd.ord.port) h.cmd.ord.seq.toNat h.cmd.op
        s.endHeld h (if h.cmd.op = 2 then cCONFLICT else cABORTED)
      else s.endHeld h cABORTED

/-- The prepared map is discarded because its lease ended (R74). -/
def State.expire (s : State) : State :=
  match s.epoch.prep with
  | none => s
  | some _ =>
    if s.elapsed < s.epoch.leaseEnd then s
    else
      let h := s.epoch.held
      let s := (s.count Reg.EPOCH_EXPIRE_CNT).cause 0x13 4
      let s := s.eventAt 0x13 0x1205 7 0 s.nextEpoch []
      let s := s.lastOut 4
      let s := { s with epoch := { s.epoch with prep := none, held := none, tagEnd := 3, deferred := false } }
      match h with
      | none => s
      | some h => s.endHeld h cTIMEOUT

/-- Commit the prepared map for a held order: DONE on time, or LATE with the delay reported (R76, R80, R82), in one word its
low 32 bits where it is longer (DESIGN CHOICE, log 151). -/
def State.commitHeld (s : State) (h : Held) : State :=
  match s.epoch.prep with
  | none => s
  | some m =>
    let s := s.dropHeld
    let s := { s with epoch := { s.epoch with prep := none, tagEnd := 2, deferred := false } }
    let s := s.commitMap m (portSrc h.cmd.ord.port) h.cmd.ord.seq.toNat
    if h.late then
      let s := (s.count Reg.EPOCH_LATE_CNT).cause 0x13 2
      let s := s.eventAt 0x13 0x1203 7 0 s.epoch.act (pay [s.nowNs - h.at_])
      let s := { s with epoch := { s.epoch with lastOut := 2, lastEpoch := s.epoch.act } }
      s.endHeld h cLATE
    else s.endHeld h cDONE

/-- The held order's lease has ended: a commit instant that coincides with the end of the lease counts as after it (R74). -/
def State.leaseOver (s : State) : Bool := decide (s.epoch.leaseEnd ≤ s.elapsed)

/-- Hold a commit order. -/
def State.hold (s : State) (h : Held) : State := { s with epoch := { s.epoch with held := some h } }

/-- Commit now if the device is ready, else keep the order held (R76, R79); a lease that has ended ends both (R74). -/
def State.tryCommit (s : State) (h : Held) : State :=
  if s.leaseOver then (s.hold h).expire
  else if s.canCommit then s.commitHeld h
  else s.hold h

/-- T was missed: LATE_POLICY decides, unless the lease has ended (R74, R80). -/
def State.latePolicy (s : State) (h : Held) : State :=
  if s.leaseOver then (s.hold h).expire
  else if s.rb Reg.EPOCH_CFG 0 then s.tryCommit { h with late := true }
  else (s.discard 2).endHeld h cABORTED

/-- Device time reaches T of a held COMMIT_AT (R80, R81). A ready device commits within 20 ns of T; what a device does that
is not ready is decided when device time has reached T. -/
def State.reachT (s : State) : State :=
  match s.epoch.held with
  | none => s
  | some h =>
    if h.cmd.op ≠ 2 ∨ h.late ∨ s.nowNs + 20 < h.at_ then s
    else if s.canCommit ∧ s.leaseOver = false then s.commitHeld h
    else if s.nowNs < h.at_ then s
    else if s.inSafe then s.discardSafe s.nsafeLow
    else s.latePolicy h

/-- After a time step: a COMMIT_AT whose T lies in the past is missed (R80). -/
def State.afterStep (s : State) : State :=
  match s.epoch.held with
  | none => s
  | some h => if h.cmd.op = 2 ∧ h.late = false ∧ h.at_ < s.nowNs then s.latePolicy h else s

/-- COMMIT: a waiting order's prepared map is committed once the device is ready (R63, R76, R80). -/
def State.commitWaiting (s : State) : State :=
  match s.epoch.held with
  | none => s
  | some h => if h.cmd.op = 1 ∨ h.late then s.tryCommit h else s

/-- Do two commit orders order the same (R69)? -/
def sameCommit (a b : EpochCmd) : Bool := a.op == b.op && (a.op == 1 || a.time == b.time)

/-- Does a new order replace a held one: higher rank, or the same source with a higher sequence (R69)? -/
def State.wins (s : State) (new old : Order) : Bool :=
  decide (portSrc new.port < portSrc old.port) ||
    (new.port == old.port && s.seqLater (portSrc new.port) new.seq.toNat old.seq.toNat)

/-- A contradiction of epoch commands is recorded, with the opcode of the losing command as index (R69). -/
def State.epochConflict (s : State) (win lose : EpochCmd) : State :=
  s.conflict 2 (portSrc win.ord.port) win.ord.seq.toNat (portSrc lose.ord.port) lose.ord.seq.toNat lose.op

/-- A commit order acts on the prepared map (R69, R76, R77, R80). -/
def State.actCommit (s : State) (c : EpochCmd) : State :=
  let start (s : State) : State :=
    let h : Held := ⟨c, c.time, false, []⟩
    if c.op = 1 then s.tryCommit h
    else
      let s := s.hold h
      if h.at_ < s.nowNs then s.latePolicy h else s
  match s.epoch.held with
  | none => start s
  | some h =>
    if sameCommit c h.cmd then
      { s with epoch := { s.epoch with held := some { h with waiters := h.waiters ++ [c] } } }
    else if s.wins c.ord h.cmd.ord then
      start ((s.dropHeld.epochConflict c h.cmd).endHeld h cCONFLICT)
    else (s.epochConflict h.cmd c).epochDone c cCONFLICT 0

/-- What R71 and R78 answer before a command acts: none where it acts on the prepared map or may prepare one. -/
def State.tagAnswer (s : State) (c : EpochCmd) : Option (Nat × Nat) :=
  if c.byTag then
    if c.op = 3 then none
    else if s.epoch.prep.isSome ∧ c.tag = s.epoch.tag then none
    else if s.epoch.prepRes ≠ 0 ∧ c.tag = s.epoch.tag then
      match s.epoch.tagEnd with
      | 2 => some (cLATE, 0)
      | 3 => some (if c.op = 4 then cDONE else cTIMEOUT, 0)
      | 4 => some (if c.op = 4 then cDONE else cABORTED, 0)
      | 5 => some (cZERO, 0)
      | 6 => if c.op = 4 then some (cDONE, 0) else some (cREFUSED, 2)
      | _ => some (if c.op = 4 then cDONE else cBADARG, 0)
    else some (if c.op = 4 then cDONE else cBADARG, 0)
  else if c.a0.toNat = s.nextEpoch then none
  else if c.a0.toNat = s.epoch.act ∧ s.epoch.committed then some (cLATE, 0)
  else some (cBADARG, 0)

/-- PREPARE_DONE: INT_CAUSE bit 5 and event 0x1202 (R72). -/
def State.prepareEvent (s : State) (tag reason code : Nat) : State :=
  (s.cause 0x13 5).eventAt 0x13 0x1202 7 0 s.nextEpoch [w32 (at_ 27 16 tag + at_ 9 8 reason + at_ 7 0 code)]

/-- Does any request of the epoch stand refused or discarded (R72)? -/
def State.anyRefused (s : State) : Bool :=
  s.bell.cellLost || s.bell.list.any fun r => r.discarded || r.refused != 0

/-- The checks of R72 in order, and their effect: the state, the completion code and its reason. -/
def State.prepareNow (s : State) (tag : Nat) : State × Nat × Nat :=
  let note (res fin : Nat) : State :=
    { s with epoch := { s.epoch with prepRes := res, tag := tag, tagEnd := fin } }
  let lease := s.rf Reg.EPOCH_LEASE 23 0
  if s.inSafe then (s, cLOCKED, 0)
  else match s.epoch.prep with
    | some _ => if tag = s.epoch.tag then (s, cDONE, 0) else (s, cLOCKED, 0)
    | none =>
      if lease = 0 ∨ (List.range 512).all fun q => category s.epoch.active s.bell.stg q == 0 then (note 2 5, cZERO, 0)
      else if s.rb Reg.EPOCH_CFG 2 ∧ s.anyRefused then (note 3 6, cREFUSED, 1)
      else
        let s := note 1 1
        ({ s with epoch := { s.epoch with prep := some s.bell.stg, leaseEnd := s.elapsed + us lease } }, cDONE, 0)

/-- A PREPARE, explicit or part of a commit order, completes (R72, R76, R77). -/
def State.prepareEnd (s : State) (tag : Nat) (own : Option EpochCmd) (forCommit : Option EpochCmd) : State :=
  let (s, code, reason) := s.prepareNow tag
  let s := s.prepareEvent tag reason code
  let s := match own with
    | some c => s.epochDone c code reason
    | none => s
  match forCommit with
  | none => s
  | some c => if code = cDONE then s.actCommit c else s.epochDone c code reason

/-- Does a PREPARE have to solve, or to wait for a solve, before its checks (R46, R72)? -/
def State.mustSolve (s : State) : Bool :=
  s.epoch.prep.isNone && (s.bell.job.isSome || s.bell.list.any fun r => !r.covered)

/-- A PREPARE begins: at once where nothing is to be solved, else as a running PREPARE (R46, R72). Check 1 comes first, so
a PREPARE that it locks solves nothing (log 15). -/
def State.prepareBegin (s : State) (tag : Nat) (own forCommit : Option EpochCmd) : State :=
  if s.inSafe ∨ s.mustSolve = false then s.prepareEnd tag own forCommit
  else if s.bell.job.isSome then { s with epoch := { s.epoch with job := some ⟨tag, own, forCommit, 2, []⟩ } }
  else
    let s := s.startSolve 1 none
    { s with epoch := { s.epoch with job := some ⟨tag, own, forCommit, 1, []⟩ } }

/-- A command that is turned away completes; every PREPARE sends 0x1202 when it completes (R72). -/
def State.epochAway (s : State) (c : EpochCmd) (code : Nat) : State :=
  (if c.op = 3 then s.prepareEvent c.prepTag 0 code else s).epochDone c code 0

/-- An epoch command of Table EPOCH-2 but PRESTAGE is executed (R70 to R81). What R71 and R78 answer goes before LOCKED in
safe-hold (DEDUCED, log 115). -/
def State.epochExec (s : State) (c : EpochCmd) : State :=
  if c.op = 2 ∧ 1000000000 ≤ c.a1.toNat then s.epochDone c cBADARG 0
  else match s.tagAnswer c with
    | some (code, reason) =>
      let s := if c.op = 3 then s.prepareEvent c.prepTag reason code else s
      s.epochDone c code reason
    | none =>
      if c.op = 4 then
        let s := s.noteFirst (portSrc c.ord.port) c.ord.seq.toNat
        match s.epoch.prep, s.epoch.held with
        | none, _ => s.epochDone c cDONE 0
        | some _, none => (s.discard 1).epochDone c cDONE 0
        | some _, some h =>
          if s.wins c.ord h.cmd.ord then
            (((s.epochConflict c h.cmd).discard 1).endHeld h cABORTED).epochDone c cDONE 0
          else (s.epochConflict h.cmd c).epochDone c cCONFLICT 0
      else if s.inSafe then
        s.epochAway c cLOCKED
      else if c.op = 3 then
        (s.noteFirst (portSrc c.ord.port) c.ord.seq.toNat).prepareBegin c.prepTag (some c) none
      else
        let left := if s.epoch.prep.isSome then s.epoch.leaseEnd - s.elapsed else us (s.rf Reg.EPOCH_LEASE 23 0)
        if c.op = 2 ∧ s.nowNs * nsUnit + left ≤ c.time * nsUnit then s.epochDone c cBADARG 0
        else
          let s := s.noteFirst (portSrc c.ord.port) c.ord.seq.toNat
          if s.epoch.prep.isSome then s.actCommit c else s.prepareBegin 0 none (some c)

/-- An epoch command arrives: LOCKED in DIAG (R381), BUSY while a restore runs (R84), held while a PREPARE runs (R72, R77),
else executed. -/
def State.epochCmd (s : State) (c : EpochCmd) : State :=
  if s.dev.state = 3 then s.epochAway c cLOCKED
  else if s.epoch.restoring then s.epochAway c cBUSY
  else match s.epoch.job with
    | some j => { s with epoch := { s.epoch with job := some { j with held := j.held ++ [c] } } }
    | none => s.epochExec c

/-- Does a held COMMIT_AT apply to the result of the PREPARE with this tag (R77)? -/
def State.appliesTo (s : State) (c : EpochCmd) (tag : Nat) : Bool :=
  c.op == 2 && decide (c.a1.toNat < 1000000000) &&
    (if c.byTag then c.tag == tag else c.a0.toNat == s.nextEpoch)

/-- A running PREPARE whose solve has ended completes, and the commands held for it are executed in arrival order (R72); a
held COMMIT_AT that applies to its result completes with its code where that is not READY (R77). -/
def State.prepareDone (s : State) : State :=
  match s.epoch.job with
  | none => s
  | some j =>
    if j.phase ≠ 0 then s
    else
      let s := { s with epoch := { s.epoch with job := none } }
      let code := (s.prepareNow j.tag).2.1
      let reason := (s.prepareNow j.tag).2.2
      j.held.foldl (fun s c => if code ≠ cDONE ∧ s.appliesTo c j.tag then s.epochDone c code reason else s.epochCmd c)
        (s.prepareEnd j.tag j.ord j.forCommit)

/-- A solve ends (SOLVE_DONE): a PREPARE that waited for another solve now runs its own over what is uncovered, and one
whose own solve this was goes on (R46, R72). -/
def State.solveEnd (s : State) : State :=
  match s.bell.job with
  | none => s
  | some _ =>
    let s := s.finishSolve
    match s.epoch.job with
    | none => s
    | some j =>
      if j.phase = 2 ∧ s.bell.list.any fun r => !r.covered then
        let s := s.startSolve 1 none
        { s with epoch := { s.epoch with job := some { j with phase := 1 } } }
      else { s with epoch := { s.epoch with job := some { j with phase := 0 } } }

end Sys2Proof.Machine
end

