-- ==== Sys2Proof/Machine/Sched.lean ====
section
/-!
DEFINITION. Egress Scheduling, Shaping and Policing (R241 to R256): token buckets, gate control lists, admission of frame
copies to the queues of a lane, selection and transmission.
-/

namespace Sys2Proof.Machine

/-- The state with f applied to the scheduling record. -/
def State.updSched (s : State) (f : SchedSt → SchedSt) : State := { s with sched := f s.sched }

/-- The state with f applied to the supervisory plane's record. -/
def State.updOsc (s : State) (f : OscSt → OscSt) : State := { s with osc := f s.osc }

/-! ### Lanes -/

/-- A lane after reset (R222, Table OSC-11). -/
def laneDefault (_ : Nat) : Lane := ⟨none, false, true, 0xFC40⟩

/-- The record of lane i, and its update. -/
def State.lane (s : State) (i : Nat) : Lane := tget laneDefault s.osc.lanes i
def State.updLane (s : State) (i : Nat) (f : Lane → Lane) : State :=
  s.updOsc fun o => { o with lanes := tupd laneDefault o.lanes i f }

/-- Address of a word of a lane's window (R219). -/
def laneWord (i off : Nat) : Nat := 0x41000 + 0x1000 * (i / 16) + 0x800 + 0x80 * (i % 16) + off

/-- Is a lane enabled, and does it loop back (LANE_CFG)? -/
def State.laneEn (s : State) (i : Nat) : Bool := s.rb (laneWord i 0) 31
def State.laneLpbk (s : State) (i : Nat) : Bool := s.rb (laneWord i 0) 30

/-- The counters of a lane window (Table OSC-11), by offset. -/
def cCODE_ERR : Nat := 0x20
def cFCS_ERR : Nat := 0x24
def cLEN_ERR : Nat := 0x28
def cMACCTL_DROP : Nat := 0x2C
def cTAG_VER : Nat := 0x30
def cTAG_ERR : Nat := 0x34
def cHOP_DROP : Nat := 0x38
def cSAFE_DROP : Nat := 0x3C
def cFILTER : Nat := 0x40
def cUNKNOWN_FLOOD : Nat := 0x44
def cCLASS_MIS : Nat := 0x48
def cNOLINK_DROP : Nat := 0x4C
def cLINK_DOWN : Nat := 0x50

/-- A counter of a lane counts. -/
def State.laneBump (s : State) (i off : Nat) : State := s.count (laneWord i off)

/-- A counter of a lane counts n times. -/
def State.laneBumps (s : State) (i off : Nat) : Nat → State
  | 0 => s
  | n + 1 => (s.laneBump i off).laneBumps i off n

/-- A wrapping 32-bit counter of a lane counts; a 48-bit octet count of a lane rises by n (Table OSC-11). -/
def State.laneWrap (s : State) (i off : Nat) : State := s.setReg (laneWord i off) (s.reg (laneWord i off) + 1)
def State.laneOctets (s : State) (i off n : Nat) : State :=
  let v := (s.reg (laneWord i off)).toNat + 2 ^ 32 * (s.reg (laneWord i (off + 4))).toNat + n
  (s.setReg (laneWord i off) (w32 v)).setReg (laneWord i (off + 4)) (w32 (v / 2 ^ 32 % 2 ^ 16))

/-- Length of a frame as R207 measures it: through the FCS, which the model's octets leave out. -/
def frameLen (octets : List Byte) : Nat := octets.length + 4

/-! ### Token buckets (R245, R246) -/

/-- A bucket after reset (Table SCHED-3, R256). -/
def bucketDefault (k : Nat) : Bucket :=
  if k = 5632 then ⟨0, 0, 0, 0, 0⟩ else if k % 11 < 8 then ⟨0x3D09, 0x04010000, 0, 0, 0⟩ else ⟨0x3D09, 0x00010000, 0, 0, 0⟩

/-- Keys of a queue's shaper, a class's policer and the host shaper. -/
def shaperKey (lane q : Nat) : Nat := 11 * lane + q
def policerKey (lane c : Nat) : Nat := 11 * lane + 8 + c
def hostKey : Nat := 5632

/-- The address by which a drop counter of the window of page SCHED is known (R314). -/
def dropAt (k : Nat) : Nat := 2 ^ 32 + 2 ^ 16 + k

/-- The bucket of a key, its two words read from SCHED.HOST_SHP and SCHED.HOST_BURST for the host. -/
def State.bucket (s : State) (k : Nat) : Bucket :=
  let b := tget bucketDefault s.sched.buckets k
  if k = hostKey then { b with shp := s.reg Reg.SCHED_HOST_SHP, burst := s.reg Reg.SCHED_HOST_BURST } else b

/-- A bucket written back. -/
def State.setBucket (s : State) (k : Nat) (b : Bucket) : State :=
  let b := if k = hostKey then { b with shp := 0, burst := 0 } else b
  s.updSched fun t => { t with buckets := tset bucketDefault t.buckets k b }

/-- Enabled, rate in units of 64 kb/s, depth in octets, queue limit in KiB. -/
def Bucket.en (b : Bucket) : Bool := bit b.shp 31
def Bucket.rate (b : Bucket) : Nat := fld b.shp 18 0
def Bucket.depth (b : Bucket) : Nat := fld b.burst 16 0
def Bucket.limit (b : Bucket) : Nat := fld b.burst 28 24

/-- The elapsed-time counter in whole ns. -/
def State.elapsedNs (s : State) : Nat := s.elapsed / nsUnit

/-- The bucket brought up to an instant (R245); a disabled bucket keeps what it holds (assumption log 28). -/
def Bucket.at_ (b : Bucket) (t : Nat) : Bucket :=
  if b.en then { b with tokens := min (b.tokens + b.rate * 8 * (t - b.last : Nat)) (b.depth * 1000000 : Nat), last := t }
  else b

/-- The bucket debited by n octets. -/
def Bucket.debit (b : Bucket) (n : Nat) : Bucket := if b.en then { b with tokens := b.tokens - (n * 1000000 : Nat) } else b

/-- May a shaper's queue send (R244, R245)? -/
def Bucket.maySend (b : Bucket) : Bool := !b.en || (b.rate != 0 && b.depth != 0 && decide (0 < b.tokens))

/-- Reset a bucket (R246). -/
def State.resetBucket (s : State) (k : Nat) : State :=
  let b := s.bucket k
  s.setBucket k { b with tokens := if s.rb Reg.SCHED_CFG 0 then ((b.depth * 1000000 : Nat) : Int) else 0, last := s.elapsedNs }

/-- A rate or depth word as it is stored (R245, Tables SCHED-3 and SCHED-4). -/
def storeShp (v : Word) : Word := w32 (flag 31 (bit v 31) + min (fld v 13 0) 15625)
def storeBurst (q : Bool) (v : Word) : Word :=
  w32 ((if q then at_ 28 24 (min (fld v 28 24) 16) else 0) + min (fld v 16 0) 65536)
def storeHostShp (v : Word) : Word := w32 (flag 31 (bit v 31) + min (fld v 18 0) 390625)

/-- The key and word (0 or 1) that an offset of the SCHED window names for the selected lane, reset words only. -/
def State.shaperAt (s : State) (off : Nat) : Option (Nat × Nat) :=
  let lane := s.rf Reg.SCHED_SEL 8 0
  if 0x800 ≤ off ∧ off < 0x880 then some (shaperKey lane ((off - 0x800) / 16), off % 16 / 4)
  else if 0x880 ≤ off ∧ off < 0x8B0 then some (policerKey lane ((off - 0x880) / 16), off % 16 / 4)
  else none

/-- A write of a shaper or policer word at an offset of page SCHED (R246). -/
def State.shaperWrite (s : State) (off : Nat) (v : Word) : State :=
  if off = 0x058 then (s.setReg Reg.SCHED_HOST_SHP (storeHostShp v)).resetBucket hostKey
  else if off = 0x05C then (s.setReg Reg.SCHED_HOST_BURST (storeBurst false v)).resetBucket hostKey
  else match s.shaperAt off with
    | some (k, 0) => (s.setBucket k { s.bucket k with shp := storeShp v }).resetBucket k
    | some (k, 1) => (s.setBucket k { s.bucket k with burst := storeBurst (decide (k % 11 < 8)) v }).resetBucket k
    | _ => s

/-- The lanes a command names: first lane and count, or the code of R254. -/
def laneRange (a0 a1 : Word) : Except Nat (List Nat) :=
  let first := fld a0 8 0
  let n := fld a1 9 0
  if n = 0 then .error cZERO else if 512 < first + n then .error cBADARG else .ok ((List.range n).map fun k => first + k)

/-- COPY (R254). -/
def State.copy (s : State) (o : Order) (a0 a1 : Word) : State :=
  match laneRange a0 a1 with
  | .error c => s.complete 0x70 1 c o
  | .ok l =>
    let src := s.rf Reg.SCHED_SEL 8 0
    let words := (List.range 11).map fun k => (k, s.bucket (11 * src + k))
    let s := l.foldl (fun s i => words.foldl (fun s w =>
      (s.setBucket (11 * i + w.1) { s.bucket (11 * i + w.1) with shp := w.2.shp, burst := w.2.burst }).resetBucket
        (11 * i + w.1)) s) s
    s.complete 0x70 1 cDONE o

/-! ### Gate control lists (R248 to R251) -/

/-- The gate of a lane after reset (R256). -/
def gateDefault (_ : Nat) : Gate := ⟨false, none, 0⟩

/-- The gate of a lane, and its update. -/
def State.gate (s : State) (i : Nat) : Gate := tget gateDefault s.sched.gates i
def State.updGate (s : State) (i : Nat) (f : Gate → Gate) : State :=
  s.updSched fun t => { t with gates := tupd gateDefault t.gates i f }

/-- Address of a bank (Table SCHED-1). -/
def bankAddr (i : Nat) (k : Bool) : Nat := 0x22000000 + 0x800 * i + (if k then 0x400 else 0)

/-- LEN, base time in ns, and the entries in use that are not skipped (index, mask, duration). -/
def State.bankLen (s : State) (i : Nat) (k : Bool) : Nat := fld (Memory.readWord s.mem (bankAddr i k + 0x200)) 6 0
def State.bankBase (s : State) (i : Nat) (k : Bool) : Nat :=
  let a := bankAddr i k
  ((fld (Memory.readWord s.mem (a + 0x20C)) 15 0) * 2 ^ 32 + (Memory.readWord s.mem (a + 0x208)).toNat) * 1000000000
    + (Memory.readWord s.mem (a + 0x204)).toNat
def State.bankEntries (s : State) (i : Nat) (k : Bool) : List (Nat × Nat × Nat) :=
  ((List.range (min (s.bankLen i k) 64)).map fun e =>
    (e, fld (Memory.readWord s.mem (bankAddr i k + 8 * e)) 7 0, (Memory.readWord s.mem (bankAddr i k + 8 * e + 4)).toNat)).filter
    fun e => e.2.2 != 0

/-- Cycle time of a list of entries (R248). -/
def cycleTime (l : List (Nat × Nat × Nat)) : Nat := l.foldl (fun n e => n + e.2.2) 0

/-- The entries from the one in force at a position of the cycle on, the first with what is left of it. -/
def entriesFrom : List (Nat × Nat × Nat) → Nat → List (Nat × Nat × Nat)
  | [], _ => []
  | (e, m, d) :: t, pos => if pos < d then (e, m, d - pos) :: t else entriesFrom t (pos - d)

/-- The active bank's entries from the present one, around the cycle, at an instant in ns of device time; none where every
gate is open (R248, R249). -/
def State.gateRun (s : State) (i t : Nat) : Option (List (Nat × Nat × Nat)) :=
  let k := (s.gate i).act
  let l := s.bankEntries i k
  let c := cycleTime l
  if c = 0 then none
  else
    let pos := (t - s.bankBase i k) % c
    some (entriesFrom l pos ++ l)

/-- Entry and mask in force (TGATE.LANE_STAT). -/
def State.gateNow (s : State) (i t : Nat) : Nat × Nat :=
  match s.gateRun i t with
  | some ((e, m, _) :: _) => (e, m)
  | _ => (0, 0xFF)

/-- Is a queue's gate open? -/
def State.gateOpen (s : State) (i q t : Nat) : Bool := (s.gateNow i t).2.testBit q

/-- Time until the first closing of queue q in a run of entries; none where it does not close. -/
def closeIn (q : Nat) : Nat → List (Nat × Nat × Nat) → Option Nat
  | _, [] => none
  | n, (_, m, d) :: t => if m.testBit q then closeIn q (n + d) t else some n

/-- Time until the next closing of an open queue q at instant t, a take-over among them (R244, R249, R250). -/
def State.nextClose (s : State) (i q t : Nat) : Option Nat :=
  let g := s.gate i
  let own := (s.gateRun i t).bind (closeIn q 0)
  match g.pend with
  | none => own
  | some T =>
    let l := s.bankEntries i (!g.act)
    let d := T - t
    match own with
    | some n => if n < d then some n else (closeIn q d (l ++ l))
    | none => closeIn q d (l ++ l)

/-- A frame in transmission runs past the closing of its queue (R249). -/
def State.overrun (s : State) (i q : Nat) : State :=
  let s := s.count Reg.SCHED_OVERRUN_CNT
  s.causeOnce 0x70 2 0x5212 (pay [i, q])

/-! ### Egress queues (R241 to R244) -/

/-- The egress of a lane after reset, its record and its update. -/
def egressDefault (_ : Nat) : Egress := ⟨[], [], none, false, 0⟩
def State.egress (s : State) (i : Nat) : Egress := tget egressDefault s.sched.egress i
def State.updEgress (s : State) (i : Nat) (f : Egress → Egress) : State :=
  s.updSched fun t => { t with egress := tupd egressDefault t.egress i f }

/-- Count the frame in transmission of a lane as an overrun if its queue is closed now and it has not been counted. -/
def State.checkOverrun (s : State) (i : Nat) : State :=
  let g := s.egress i
  match g.tx with
  | some (f, _) =>
    if g.late = false ∧ s.gateOpen i f.queue s.nowNs = false then
      (s.updEgress i fun g => { g with late := true }).overrun i f.queue
    else s
  | none => s

/-- GATE_ENTRY_BOUNDARY: an entry of the active bank ends and the next one is in force (R249). -/
def State.gateBoundary (s : State) (i : Nat) : State :=
  let l := s.bankEntries i (s.gate i).act
  let c := cycleTime l
  if c = 0 then s
  else
    let pos := (s.nowNs - s.bankBase i (s.gate i).act) % c
    let atStart := l.foldl (fun (acc : Nat × Bool) e => (acc.1 + e.2.2, acc.2 || acc.1 == pos)) (0, false)
    if atStart.2 then s.checkOverrun i else s

/-- Words of an instant in ns of device time: nanoseconds, seconds [31:0], seconds [47:32]. -/
def timeWords (t : Nat) : List Word := pay [t % 1000000000, t / 1000000000, t / 1000000000 / 2 ^ 32 % 2 ^ 16]

/-- The pending bank of a lane takes over (R250). -/
def State.takeOver (s : State) (i T : Nat) : State :=
  let s := (s.updGate i fun g => ⟨!g.act, none, T⟩).checkOverrun i
  let done := s.sched.applies.filter fun a => a.2 == [i]
  let s := s.updSched fun t => { t with
    applies := (t.applies.map fun a => (a.1, a.2.filter fun k => k != i)).filter fun a => a.2 != [] }
  done.foldl (fun s a => (s.cause 0x71 0).event 0x71 0x5200 (pay [a.1] ++ timeWords T)) s

/-- GATE_SWITCH (R250). -/
def State.gateSwitch (s : State) (i : Nat) : State :=
  match (s.gate i).pend with
  | some T => if T ≤ s.nowNs then s.takeOver i T else s
  | none => s

/-- The take-over instant of a staging bank applied now (R250). -/
def State.takeOverAt (s : State) (i : Nat) (k : Bool) : Nat :=
  let b := s.bankBase i k
  let c := cycleTime (s.bankEntries i k)
  if s.bankLen i k = 0 ∨ c = 0 then max b s.nowNs
  else if s.nowNs ≤ b then b else b + (s.nowNs - b + c - 1) / c * c

/-- Is the staging bank of a lane one that GATE_APPLY refuses (R254)? -/
def State.badBank (s : State) (i : Nat) (k : Bool) : Bool :=
  let c := cycleTime (s.bankEntries i k)
  decide (64 < s.bankLen i k) || decide (1000000000 ≤ (Memory.readWord s.mem (bankAddr i k + 0x204)).toNat)
    || decide (4294967295 < c) || (s.bankLen i k != 0 && c == 0)

/-- GATE_APPLY (R250, R254). -/
def State.gateApply (s : State) (o : Order) (a0 a1 : Word) : State :=
  match laneRange a0 a1 with
  | .error c => s.complete 0x71 1 c o
  | .ok l =>
    if l.any fun i => (s.gate i).pend.isNone && s.badBank i (!(s.gate i).act) then s.complete 0x71 1 cBADARG o
    else if l.any fun i => (s.gate i).pend.isSome then s.complete 0x71 1 cLOCKED o
    else
      let s := l.foldl (fun s i => s.updGate i fun g => { g with pend := some (s.takeOverAt i (!g.act)) }) s
      let s := s.updSched fun t => { t with applies := t.applies ++ [(fld a0 8 0, l)] }
      s.complete 0x71 1 cDONE o

/-- GATE_CANCEL (R250, R254). -/
def State.gateCancel (s : State) (o : Order) (a0 a1 : Word) : State :=
  match laneRange a0 a1 with
  | .error c => s.complete 0x71 2 c o
  | .ok l =>
    let s := l.foldl (fun s i => s.updGate i fun g => { g with pend := none }) s
    let s := s.updSched fun t => { t with applies := t.applies.filter fun a => !(a.2.any fun i => l.contains i) }
    s.complete 0x71 2 cDONE o

/-- After a forward step every lane continues at its new position; a take-over instant passed over takes effect at the step
instant (R251). -/
def State.gateStep (s : State) : State :=
  let s := s.sched.gates.foldl (fun s g => match (s.gate g.1).pend with
    | some T => if T ≤ s.nowNs then s.takeOver g.1 s.nowNs else s
    | none => s) s
  s.sched.egress.foldl (fun s e => s.checkOverrun e.1) s

/-- Does frame f come before g at admission: copies are admitted at their admission instants, those of one instant in the
order of R212 (R241)? -/
def QFrame.before (f g : QFrame) : Bool :=
  decide (f.entry < g.entry) || (f.entry == g.entry && (decide (f.time < g.time) || (f.time == g.time && decide (f.src < g.src))))

/-- Insert a copy among those awaiting admission. -/
def insertCopy (f : QFrame) : List QFrame → List QFrame
  | [] => [f]
  | g :: t => if f.before g then f :: g :: t else g :: insertCopy f t

/-- A copy is sent towards lane i: it awaits its admission instant (R241), or is discarded at once where LINK is 0 (R211). -/
def State.sendCopy (s : State) (i : Nat) (f : QFrame) : State :=
  if (s.lane i).link then s.updEgress i fun g => { g with waiting := insertCopy f g.waiting }
  else s.laneBump i cNOLINK_DROP

/-- Octets that a queue of a lane holds, or all of its queues, until their last octet has been sent (R242). -/
def Egress.octets (g : Egress) (p : QFrame → Bool) : Nat :=
  (((g.queued ++ (g.tx.map (·.1)).toList).filter p).map fun f => frameLen f.octets).foldl (· + ·) 0

/-- A FRAME transaction is answered; every outcome other than DONE is counted (R216). -/
def State.frameDone (s : State) (p : Port) (seq : BitVec 16) (r : Reply) (code : Nat) : State :=
  let s := if code = cDONE then s else s.count Reg.OSC_TX_REFUSE_CNT
  let s := s.retire p r.tid
  if r.due then s.respond p seq r.tid r.mac r.addr code [] else s

/-- One copy of a FRAME transaction has been queued or not, with its code; the last one completes it (R216, R242). -/
def State.hostCopy (s : State) (n : Option Nat) (code : Nat) : State :=
  match n.bind fun n => s.osc.waiting.find? fun h => h.num == n with
  | none => s
  | some h =>
    let h := { h with left := h.left - 1, code := if h.code = cDONE then code else h.code }
    let rest := s.osc.waiting.filter fun x => x.num != h.num
    if h.left = 0 then (s.updOsc fun x => { x with waiting := rest }).frameDone h.port h.seq h.reply h.code
    else s.updOsc fun x => { x with waiting := rest ++ [h] }

/-- A copy finds no room (R242). -/
def State.qfull (s : State) (i : Nat) (f : QFrame) : State :=
  let k := shaperKey i f.queue
  let s := ((s.setBucket k { s.bucket k with drop := bumpWord (s.bucket k).drop }).tally (dropAt k)).count Reg.SCHED_QFULL_CNT
  let s := s.setReg Reg.SCHED_LAST_DROP (w32 (2 ^ 31 + at_ 11 9 f.queue + at_ 8 0 i))
  (s.causeOnce 0x70 0 0x5210 (pay [i, f.queue])).hostCopy f.host cNOROOM

/-- A copy is admitted, refused, or discarded because LINK is 0 or safe-hold forbids it (R211, R217, R242). -/
def State.admitFrame (s : State) (i : Nat) (f : QFrame) : State :=
  let g := s.egress i
  if (s.lane i).link = false then (s.laneBump i cNOLINK_DROP).hostCopy f.host cDONE
  else if (s.bucket (shaperKey i f.queue)).limit * 1024 < g.octets (fun x => x.queue == f.queue) + frameLen f.octets
      ∨ 16384 < g.octets (fun _ => true) + frameLen f.octets then s.qfull i f
  else (s.updEgress i fun g => { g with queued := g.queued ++ [f] }).hostCopy f.host cDONE

/-- QUEUE_ADMISSION on lane i: the first copy whose admission instant has come (R241). -/
def State.queueAdmission (s : State) (i : Nat) : State :=
  match (s.egress i).waiting with
  | [] => s
  | f :: t =>
    if f.entry ≤ s.elapsed then (s.updEgress i fun g => { g with waiting := t }).admitFrame i f else s

/-- Is the head of queue q eligible (R244)? -/
def State.eligible (s : State) (i q : Nat) : Bool :=
  s.gateOpen i q s.nowNs
    && (match s.nextClose i q s.nowNs with
        | some n => decide (s.rf Reg.TGATE_CFG 15 0 ≤ n)
        | none => true)
    && ((s.bucket (shaperKey i q)).at_ s.elapsedNs).maySend

/-- The frame a lane starts now (R244). -/
def State.selectFrame (s : State) (i : Nat) : Option QFrame :=
  ([7, 6, 5, 4, 3, 2, 1, 0].findSome? fun q =>
    match (s.egress i).queued.find? fun f => f.queue == q with
    | some f => if s.eligible i q then some f else none
    | none => none)

/-- Remove the first frame of a queue. -/
def dropFirst (q : Nat) : List QFrame → List QFrame
  | [] => []
  | f :: t => if f.queue = q then t else f :: dropFirst q t

/-- A frame starts: it leaves its queue, its bucket is debited (R245), and the transmitter is busy for its octets, the
preamble, SFD and gap. -/
def State.startFrame (s : State) (i : Nat) (f : QFrame) : State :=
  let k := shaperKey i f.queue
  let n := frameLen f.octets + 20
  let s := s.setBucket k (((s.bucket k).at_ s.elapsedNs).debit n)
  s.updEgress i fun g => { g with
    queued := dropFirst f.queue g.queued, tx := some (f, s.elapsed), late := false, free := s.elapsed + 8 * n * nsUnit }

/-- TRANSMIT_END on lane i: the last octet has been sent (R242). -/
def State.transmitEnd (s : State) (i : Nat) : State :=
  match (s.egress i).tx with
  | none => s
  | some (f, t) =>
    if t + 8 * (frameLen f.octets + 8) * nsUnit ≤ s.elapsed then
      let s := s.updEgress i fun g => { g with tx := none }
      (s.laneWrap i 0x0C).laneOctets i 0x18 (frameLen f.octets)
    else s

/-- Every frame queued on a lane is discarded where LINK falls (R243); the frame in transmission is cut with it, unless the
lane was disabled, which cuts no frame (R219). -/
def State.dropQueued (s : State) (i : Nat) (cut : Bool) : State :=
  let n := (s.egress i).queued.length
  let s := s.updEgress i fun g => { g with queued := [], tx := if cut then none else g.tx }
  s.laneBumps i cNOLINK_DROP n

/-! ### Host queue (R215) -/

/-- Octets the host queue holds. -/
def State.hostOctets (s : State) : Nat := (s.osc.hostq.map fun f => frameLen f.octets).foldl (· + ·) 0

/-- A frame bound for the host is dropped (R215). -/
def State.hostDrop (s : State) (lane : Nat) : State :=
  let s := s.count Reg.OSC_HOSTQ_DROP_CNT
  s.causeOnce 0x40 0 0x5010 (pay [lane])

/-- Put a frame into the host queue in the order of R212: by ingress time-stamp, then ingress lane. -/
def insertHost (f : HostFrame) : List HostFrame → List HostFrame
  | [] => [f]
  | g :: t => if f.time < g.time ∨ (f.time = g.time ∧ f.lane < g.lane) then f :: g :: t else g :: insertHost f t

/-- A frame enters the host queue, or is dropped (R215). -/
def State.hostPush (s : State) (lane : Nat) (keep : Bool) (octets : List Byte) : State :=
  if s.rb Reg.OSC_HOSTQ_CFG 31 = false ∨ 256 ≤ s.osc.hostq.length ∨ 524288 < s.hostOctets + frameLen octets then
    s.hostDrop lane
  else s.updOsc fun o => { o with hostq := insertHost ⟨lane, s.now, keep, octets⟩ o.hostq }

/-! ### Frames received at one time-stamp (R212, R224) -/

/-- Does a frame received act before another: by ingress time-stamp, then lane? -/
def Arrival.before (a b : Arrival) : Bool :=
  decide (a.at_ < b.at_) || (a.at_ == b.at_ && (decide (a.time < b.time) || (a.time == b.time && decide (a.lane < b.lane))))

/-- A frame received joins those that have yet to act. -/
def insertArrival (a : Arrival) : List Arrival → List Arrival
  | [] => [a]
  | x :: t => if a.before x then a :: x :: t else x :: insertArrival a t

/-- A frame received now acts with the others of its time-stamp, in order of lane, as time goes on or a table operation of its
time-stamp comes (R212, R224; log 131). -/
def State.arrive (s : State) (i : Nat) (f : List Byte) : State :=
  s.updOsc fun o => { o with arrived := insertArrival ⟨s.elapsed, s.now, i, f⟩ o.arrived }

/-! ### Policers (R247) -/

/-- An object frame of class c on a lane, L octets: true where it conforms. -/
def State.police (s : State) (i c L : Nat) : State × Bool :=
  let k := policerKey i c
  let b := (s.bucket k).at_ s.elapsedNs
  if b.en = false then (s, true)
  else if (((L + 20) * 1000000 : Nat) : Int) ≤ b.tokens then (s.setBucket k (b.debit (L + 20)), true)
  else
    let s := ((s.setBucket k { b with drop := bumpWord b.drop }).tally (dropAt k)).count Reg.SCHED_POLICE_CNT
    let s := s.setReg Reg.SCHED_LAST_DROP (w32 (2 ^ 31 + 2 ^ 30 + at_ 11 9 c + at_ 8 0 i))
    (s.causeOnce 0x70 1 0x5211 (pay [i, c]), false)

end Sys2Proof.Machine
end

