-- ==== Sys2Proof/Machine/Time.lean ====
section
/-!
DEFINITION. Network Time: the servo with its states and holdover causes (R263, R264), refused jumps, steps and backward
slews (R265 to R267), path delay (R268, R269), the reference input (R270), PPS (R272, R273) and the commands of page TIME.
Offsets and delays are in units of 2^-16 ns.
-/

namespace Sys2Proof.Machine

/-- The state with f applied to the time record, and to its servo and path delay. -/
def State.updTime (s : State) (f : TimeSt → TimeSt) : State := { s with time := f s.time }
def State.updServo (s : State) (f : Servo → Servo) : State := s.updTime fun t => { t with servo := f t.servo }
def State.updPath (s : State) (f : PathSt → PathSt) : State := s.updTime fun t => { t with path := f t.path }

/-- The servo's rate r (R257). -/
def State.setRate (s : State) (r : Int) : State := { s with clock := { s.clock with rate := r } }

/-! ### States and causes (R264) -/

/-- The lowest holdover cause standing, 0 where none does (Table TIME-4). -/
def Servo.hcause (v : Servo) : Nat :=
  if v.jump.isSome then 1 else if v.path then 2 else if v.noMaster then 3 else if v.tref then 4 else if v.noPps then 5 else 0

/-- The servo enters a state of Table TIME-3; a change is reported (R264). -/
def State.servoState (s : State) (st : Nat) : State :=
  if s.time.servo.state = st then s
  else
    let s := s.updServo fun v => { v with state := st, locks := 0, everLocked := v.everLocked || st == 2 }
    let s := (s.cause 0x78 0).event 0x78 0x6000 (pay [st, s.time.servo.hcause])
    if st = 3 then s.count Reg.TIME_HOLD_CNT else s

/-- A holdover cause has arisen. -/
def State.holdover (s : State) : State := s.servoState 3

/-- A holdover cause has cleared: with none left, ACQUIRE. -/
def State.causeGone (s : State) : State :=
  if s.time.servo.state = 3 ∧ s.time.servo.hcause = 0 then s.servoState 1 else s

/-! ### Steps (R267) -/

/-- Everything that follows a forward step of an amount in units of 2^-16 ns (R80, R233, R251, R267). -/
def State.afterForward (s : State) (amount : Nat) : State :=
  let s := s.updTime fun t => { t with lastStep := s.now }
  let s := ((s.count Reg.TIME_STEP_CNT).cause 0x78 2).event 0x78 0x6005 (timeWords (amount / nsUnit))
  s.afterStep.sweepStep.gateStep

/-- Device time steps forward by an amount; zero makes no step (R267). -/
def State.stepForward (s : State) (amount : Nat) : State :=
  if amount = 0 then s
  else ({ s with clock := { s.clock with fine := s.clock.fine + amount * fineUnit } }).afterForward amount

/-! ### Offsets (R263, R265) -/

/-- TIME.SLEW_MAX in units of 2^-16 ppb, and STEP_LIMIT and LOCK_NS in units of 2^-16 ns. -/
def State.slewMax (s : State) : Nat := s.rf Reg.TIME_SLEW_MAX 16 0 * 65536
def State.stepLimit (s : State) : Nat := (s.reg Reg.TIME_STEP_LIMIT).toNat * 65536
def State.lockLimit (s : State) : Nat := s.rf Reg.TIME_LOCK_NS 15 0 * 65536

/-- The servo's update for an admitted offset, exactly as R263 gives it. -/
def State.servoUpdate (s : State) (o : Int) : State :=
  let m : Int := s.slewMax
  let p := tdiv (s.rf Reg.TIME_KP 15 0 * o) 256
  let integ := clampI (-m) m (s.time.servo.integ + tdiv (s.rf Reg.TIME_KI 15 0 * o) 256)
  (s.updServo fun v => { v with integ := integ }).setRate (clampI (-m) m (-(p + integ)))

/-- The state transitions of an admitted offset (Table TIME-3). -/
def State.servoTrack (s : State) (o : Int) : State :=
  let s := if s.time.servo.state = 0 then s.servoState 1 else s
  let s := s.updServo fun v => { v with locks := if o.natAbs < s.lockLimit then v.locks + 1 else 0 }
  if s.time.servo.state = 1 ∧ 8 ≤ s.time.servo.locks then s.servoState 2
  else if s.time.servo.state = 2 ∧ 4 * s.lockLimit ≤ o.natAbs then s.servoState 1
  else s

/-- An admitted offset: it updates the servo outside HOLDOVER (R264). -/
def State.admitOffset (s : State) (o : Int) : State :=
  let s := s.updServo fun v => { v with cand := none }
  if s.time.servo.state = 3 then s else (s.servoUpdate o).servoTrack o

/-- The words of a recorded jump (Table TIME-6): nanoseconds, seconds, and the sign with the upper seconds. -/
def jumpWords (o : Int) : List Word :=
  let n := o.natAbs / nsUnit
  pay [n % 1000000000, n / 1000000000, flag 31 (decide (0 < o)) + n / 1000000000 / 2 ^ 32 % 2 ^ 16]

/-- The identity of the grandmaster as two words. -/
def State.gmWords (s : State) : List Word := pay [s.time.gm / 2 ^ 32, s.time.gm]

/-- A jump is refused (R265). -/
def State.refuseJump (s : State) (o : Int) : State :=
  let s := s.updServo fun v => { v with jump := some o, within := 0, cand := none }
  let s := (s.count Reg.TIME_JUMP_CNT).cause 0x78 1
  (s.event 0x78 0x6002 (jumpWords o ++ s.gmWords)).holdover

/-- An offset while JUMP stands: it replaces the record; four within STEP_LIMIT in a row withdraw the jump (R265). -/
def State.jumpOffset (s : State) (o : Int) : State :=
  let n := if o.natAbs ≤ s.stepLimit then s.time.servo.within + 1 else 0
  if n = 4 then ((s.updServo fun v => { v with jump := none, within := 0 }).event 0x78 0x6006 []).causeGone
  else s.updServo fun v => { v with jump := some o, within := n }

/-- An offset beyond STEP_LIMIT: a candidate, or the second of one sign, a jump (R265, Table TIME-2). -/
def State.jumpCandidate (s : State) (o : Int) : State :=
  let ahead := decide (0 < o)
  if s.time.servo.cand = some ahead then
    if s.time.servo.set = false ∧ s.rb Reg.TIME_CFG 31 ∧ o < 0 then
      (s.updServo fun v => { v with set := true, cand := none }).stepForward o.natAbs
    else s.refuseJump o
  else s.updServo fun v => { v with cand := some ahead }

/-- An offset o, device time minus the reference (R263, R265, R266, R268). -/
def State.offset (s : State) (o : Int) : State :=
  if s.time.servo.path ∨ s.time.path.suspended then s
  else
    let s := s.updServo fun v => { v with offset := o }
    if s.time.servo.slew.isSome then s.updServo fun v => { v with slew := some o, slewAt := s.elapsed }
    else if s.time.servo.jump.isSome then s.jumpOffset o
    else if o.natAbs ≤ s.stepLimit then s.admitOffset o
    else s.jumpCandidate o

/-- What is left of a backward slew: it falls at the rate r = −m at which device time is slewed (R266). -/
def State.slewLeft (s : State) : Int :=
  match s.time.servo.slew with
  | some o => o - ((s.elapsed - s.time.servo.slewAt) * s.clock.rate.natAbs / fineUnit : Nat)
  | none => 0

/-- SLEW_MAX has been written: a backward slew goes on at the new r = −m (R266; log 162). -/
def State.slewMaxWritten (s : State) : State :=
  if s.time.servo.slew.isSome then
    (s.updServo fun v => { v with slew := some s.slewLeft, slewAt := s.elapsed }).setRate (-(s.slewMax : Int))
  else s

/-- BACKWARD_SLEW_END (R266): the rate until the next admitted offset is not stated; a free value within SLEW_MAX
(assumption log 29). -/
def State.slewEnd (s : State) : State :=
  if s.time.servo.slew.isSome ∧ s.slewLeft.natAbs ≤ s.stepLimit then
    let m : Int := s.slewMax
    (s.updServo fun v => { v with slew := none }).setRate (clampI (-m) m (Config.slewEndRate s.elapsed))
  else s

/-! ### Path delay (R268, R269) -/

/-- The mean of the raw values since a path step (PTP.PATH_NEW). -/
def PathSt.new (p : PathSt) : Int := if p.num = 0 then 0 else tdiv p.sum p.num

/-- A path step is accepted (R269). -/
def State.pathAccept (s : State) : State :=
  let s := s.updPath fun p => { p with d := p.new, out := none, sum := 0, num := 0, latest := [], suspended := false }
  ((s.updServo fun v => { v with path := false }).event 0x79 0x6007 []).causeGone

/-- Do the latest 16 exchanges after a path step each lie within a limit of the first of them (R269)? -/
def PathSt.steady (p : PathSt) (lim : Nat) : Bool :=
  match p.latest with
  | [] => false
  | x :: t => t.length == 15 && t.all fun y => decide ((y - x).natAbs ≤ lim)

/-- A further exchange while a path step stands. -/
def State.pathMore (s : State) (x : Int) : State :=
  let lim := s.rf Reg.PTP_PATH_STEP_LIMIT 15 0 * 65536 / 8
  let s := s.updPath fun p => { p with
    sum := p.sum + x, num := p.num + 1, latest := (p.latest ++ [x]).drop (p.latest.length + 1 - 16) }
  if s.rb Reg.PTP_CFG 24 ∧ s.time.path.steady lim then s.pathAccept else s

/-- An outlier, or the second of one sign, a path step (R268). -/
def State.pathOutlier (s : State) (x : Int) : State :=
  let up := decide (s.time.path.d < x)
  let second := s.time.path.out == some up
  let s := (s.count Reg.PTP_PATH_OUTLIER_CNT).updServo fun v => { v with cand := none }
  let s := s.updPath fun p => { p with out := some up, suspended := true }
  if second then
    let s := s.updPath fun p => { p with sum := x, num := 1, latest := [] }
    let s := ((s.count Reg.PTP_PATH_STEP_CNT).cause 0x79 1).event 0x79 0x6004 [i32 s.time.path.d, i32 x]
    (s.updServo fun v => { v with path := true }).holdover
  else s

/-- A completed delay exchange with raw mean path delay x (R268). -/
def State.exchange (s : State) (x : Int) : State :=
  let s := s.updTime fun t => { t with cal := true }
  if s.time.servo.path then s.pathMore x
  else if s.rf Reg.PTP_PATH_STEP_LIMIT 15 0 * 65536 < (x - s.time.path.d).natAbs then s.pathOutlier x
  else s.updPath fun p => { p with d := p.d + tdiv (x - p.d) 8, out := none, suspended := false }

/-! ### Commands of page TIME (R266, R269, R274) -/

/-- SET_TIME (R266). -/
def State.setTime (s : State) (o : Order) (a0 a1 a2 : Word) : State :=
  let t := ((fld a2 15 0 * 2 ^ 32 + a1.toNat) * 1000000000 + a0.toNat) * nsUnit
  if 1000000000 ≤ a0.toNat then s.complete 0x78 1 cBADARG o
  else if t < s.now then s.complete 0x78 1 cREFUSED o
  else ((s.updServo fun v => { v with set := true }).stepForward (t - s.now)).complete 0x78 1 cDONE o

/-- ACCEPT_STEP (R266). -/
def State.acceptStep (s : State) (o : Order) : State :=
  match s.time.servo.jump with
  | none => s.complete 0x78 2 cLOCKED o
  | some j =>
    let s := s.updServo fun v => { v with jump := none, within := 0 }
    let s := if j < 0 then s.stepForward j.natAbs
      else (s.updServo fun v => { v with slew := some j, slewAt := s.elapsed }).setRate (-(s.slewMax : Int))
    s.causeGone.complete 0x78 2 cDONE o

/-- ACCEPT_PATH (R269). -/
def State.acceptPath (s : State) (o : Order) : State :=
  if s.time.servo.path then s.pathAccept.complete 0x78 3 cDONE o else s.complete 0x78 3 cLOCKED o

/-- SERVO_RESET (R274). -/
def State.servoReset (s : State) (o : Order) : State :=
  let s := (s.updServo fun v => { v with integ := 0, jump := none, path := false, slew := none, cand := none, within := 0 }).setRate 0
  let s := s.updPath fun p => { p with out := none, suspended := false, sum := 0, num := 0, latest := [] }
  (s.servoState 0).complete 0x78 4 cDONE o

/-- SOURCE has been written: NONE enters FREERUN, and so does PTP without a master before the first lock (Table TIME-3). -/
def State.sourceWritten (s : State) : State :=
  let v := s.time.servo
  if s.rf Reg.TIME_CFG 29 28 = 2 ∨ (s.rf Reg.TIME_CFG 29 28 = 0 ∧ s.time.slave = none ∧ v.everLocked = false ∧ v.hcause = 0)
  then s.servoState 0 else s

/-! ### TREF (R270) -/

/-- TREF_LOSS. -/
def State.trefLoss (s : State) : State :=
  if s.time.servo.tref then s
  else
    let s := (s.updTime fun t => { t with trefOk := false, lossAt := s.elapsed }).updServo fun v => { v with tref := true }
    (((s.count Reg.TIME_TREF_LOSS_CNT).cause 0x78 3).event 0x78 0x6001 (pay [0])).holdover

/-- TREF_RESTORE: TREF has been within tolerance for 1 s, which begins after its loss. -/
def State.trefRestore (s : State) (f25 : Bool) : State :=
  if s.time.servo.tref = false ∨ s.elapsed < s.time.lossAt + us 1000000 then s
  else
    let s := (s.updTime fun t => { t with trefOk := true, f25 := f25 }).updServo fun v => { v with tref := false }
    (s.event 0x78 0x6001 (pay [1])).causeGone

/-- TIME_BASE_PLL_LOCK: at the end of a reset, without an event. -/
def State.pllLock (s : State) (f25 : Bool) : State :=
  if s.time.servo.tref ∨ s.time.trefOk then s else s.updTime fun t => { t with trefOk := true, f25 := f25 }

/-! ### PPS (R272, R273) -/

/-- One second in units of 2^-16 ns. -/
def second : Nat := 1000000000 * nsUnit

/-- The second boundary nearest to an instant (units of 2^-16 ns), and the instant minus that boundary. -/
def nearSecond (t : Int) : Int × Int := (rdiv t second, t - rdiv t second * second)

/-- PPS_OUT_PULSE: within 10 ns of a boundary shifted by OUT_COMP, once for each boundary, from the first one at which TREF_OK
is 1 (R272, R275). -/
def State.ppsPulse (s : State) : State :=
  let (k, d) := nearSecond ((s.now : Int) - sx 16 (s.rf Reg.PPS_OUT_COMP 15 0) * nsUnit)
  if s.rb Reg.PPS_CFG 31 && (s.time.trefOk || s.time.ppsSec.isSome) && decide (d.natAbs ≤ 10 * nsUnit)
      && s.time.ppsSec != some k.toNat && !s.time.ppsOut then
    let s := s.updTime fun t => { t with ppsOut := true, ppsAt := s.elapsed, ppsSec := some k.toNat }
    { s with sent := s.sent ++ [.pps true s.now] }
  else s

/-- PPS_OUT_WIDTH_END. -/
def State.ppsEnd (s : State) : State :=
  if s.time.ppsOut ∧ s.time.ppsAt + us (s.rf Reg.PPS_OUT_WIDTH 19 0) ≤ s.elapsed then
    let s := s.updTime fun t => { t with ppsOut := false }
    { s with sent := s.sent ++ [.pps false s.now] }
  else s

/-- PPS_IN_EDGE (R273). -/
def State.ppsEdge (s : State) : State :=
  if s.rb Reg.PPS_CFG 30 = false then s
  else match s.time.edge with
    | some e => if s.elapsed < e + second / 2 then s.count Reg.PPS_IN_GLITCH_CNT else accept s
    | none => accept s
where
  /-- The edge is accepted. -/
  accept (s : State) : State :=
    let t := (s.now : Int) + sx 16 (s.rf Reg.PPS_IN_COMP 15 0) * nsUnit
    let err := (nearSecond t).2
    let s := s.updTime fun x => { x with edge := some s.elapsed, stamp := t.toNat, err := err }
    let s := if s.time.servo.noPps then (s.updServo fun v => { v with noPps := false }).causeGone else s
    if s.rf Reg.TIME_CFG 29 28 = 1 then s.offset err else s

/-- PPS_IN_MISS (R273). -/
def State.ppsMiss (s : State) : State :=
  if s.rb Reg.PPS_CFG 30 ∧ max (s.time.edge.getD 0) s.time.missAt + second ≤ s.elapsed then
    (s.updTime fun t => { t with missAt := s.elapsed }).count Reg.PPS_IN_MISS_CNT
  else s

/-- NO_PPS (Table TIME-4). -/
def State.ppsLost (s : State) : State :=
  if s.rf Reg.TIME_CFG 29 28 = 1 ∧ s.time.servo.noPps = false ∧ s.time.edge.getD 0 + 2 * second ≤ s.elapsed then
    (s.updServo fun v => { v with noPps := true }).holdover
  else s

end Sys2Proof.Machine
end

