-- ==== Sys2Proof/Machine/Ptp.lean ====
section
/-!
DEFINITION. The PTP part of Network Time (R259 to R263, R268): message fields of IEEE 1588-2019 Annex E, roles and
forwarding, residence time and Follow_Up correction, delay mechanisms, the best master clock algorithm, and the messages
the engine sends of its own.
-/

namespace Sys2Proof.Machine

/-! ### Frames -/

/-- Does a frame carry an IEEE 802.1Q tag, its EtherType, and the place of what follows the EtherType (R204)? -/
def tagged (f : List Byte) : Bool := natBE (octets f 12 2) == 0x8100
def etherType (f : List Byte) : Nat := natBE (octets f (if tagged f then 16 else 12) 2)
def bodyAt (f : List Byte) : Nat := if tagged f then 18 else 14

/-- Octets k to k + n − 1 of a frame replaced. -/
def setOctets (f : List Byte) (k : Nat) (b : List Byte) : List Byte := f.take k ++ b ++ f.drop (k + b.length)

/-- n octets at place k of the PTP header (R262), as a number. -/
def ptpFld (f : List Byte) (k n : Nat) : Nat := natBE (octets f (bodyAt f + k) n)

/-- messageType, versionPTP, minorVersionPTP, domainNumber, twoStepFlag. -/
def ptpType (f : List Byte) : Nat := ptpFld f 0 1 % 16
def ptpVersion (f : List Byte) : Nat := ptpFld f 1 1 % 16
def ptpMinor (f : List Byte) : Nat := ptpFld f 1 1 / 16
def ptpDomain (f : List Byte) : Nat := ptpFld f 4 1
def ptpTwoStep (f : List Byte) : Bool := (ptpFld f 6 1).testBit 1

/-- correctionField, units of 2^-16 ns; sourcePortIdentity; sequenceId. -/
def ptpCorr (f : List Byte) : Int := sx 64 (ptpFld f 8 8)
def ptpIdent (f : List Byte) : Nat := ptpFld f 20 10
def ptpSeq (f : List Byte) : Nat := ptpFld f 30 2

/-- The time-stamp at octet k of a message (seconds, nanoseconds), units of 2^-16 ns. -/
def ptpTime (f : List Byte) (k : Nat) : Int := (ptpFld f k 6 * 1000000000 + ptpFld f (k + 6) 4 : Nat) * (nsUnit : Int)

/-- A frame with its correctionField increased by d. -/
def addCorr (f : List Byte) (d : Int) : List Byte := setOctets f (bodyAt f + 8) (octBE 8 (enc 64 (ptpCorr f + d)))

/-- An instant of device time as a PTP time-stamp. -/
def stampOctets (t : Nat) : List Byte := octBE 6 (t / nsUnit / 1000000000) ++ octBE 4 (t / nsUnit % 1000000000)

/-! ### Configuration -/

/-- PTP.CFG.ROLE: 1 TC_E2E, 2 TC_P2P, 3 OC, 4 BC; the remaining values act as OFF. -/
def State.role (s : State) : Nat := s.rf Reg.PTP_CFG 31 29

/-- Does a lane take part: a member with LINK = 1 (R260)? -/
def State.ptpMember (s : State) (i : Nat) : Bool := s.rb (Reg.PTP_MEMBER0 + 4 * (i / 32)) (i % 32) && (s.lane i).link

/-- Do delays go peer to peer on the ports of an ordinary or boundary clock, or of TC_P2P? -/
def State.peerDelay (s : State) : Bool := s.role == 2 || (decide (3 ≤ s.role) && s.rb Reg.PTP_CFG 25)

/-- ASYM of a lane (R269). -/
def State.asym (s : State) (i : Nat) : Int := sx 32 (s.reg (0x79800 + 4 * i)).toNat

/-- A port's record and its update. -/
def portDefault (_ : Nat) : PtpPort := ⟨[], [], [], none, 0, none, none⟩
def State.ptpPort (s : State) (i : Nat) : PtpPort := tget portDefault s.time.ports i
def State.updPort (s : State) (i : Nat) (f : PtpPort → PtpPort) : State :=
  s.updTime fun t => { t with ports := tupd portDefault t.ports i f }

/-- clockIdentity and the identity of the port of lane i. -/
def State.clockId (s : State) : Nat := serial s.fuse % 2 ^ 64
def State.portId (s : State) (i : Nat) : Nat := s.clockId * 2 ^ 16 + (i + 1)

/-- Is the port of lane i a master port: in BC, any other than the slave port, unless SLAVE_ONLY (R260)? -/
def State.masterPort (s : State) (i : Nat) : Bool := s.role == 4 && !s.rb Reg.PTP_CFG 26 && s.time.slave != some i

/-- A PTP frame the device drops and counts (R259, R260). -/
def State.badMsg (s : State) : State := s.count Reg.PTP_BAD_MSG_CNT

/-- The queue of a PTP frame (R211): the PCP of its tag, or DEF_PCP of a lane. -/
def State.ptpQueue (s : State) (i : Nat) (f : List Byte) : Nat :=
  if tagged f then natBE (octets f 14 1) / 32 else s.rf (laneWord i 0) 2 0

/-! ### Sending -/

/-- A message of the device's own towards lane i: admitted 800 ns from now (assumption log 30). -/
def State.sendOwn (s : State) (i : Nat) (octets : List Byte) (st : Stamp) (time : Nat) : State :=
  s.sendCopy i ⟨s.elapsed + 800 * nsUnit, time, 513, s.rf (laneWord i 0) 2 0, true, none, octets, st⟩

/-- A PTP message of the device's own (assumption log 31): destination, type, length, control, log interval, sequence,
correctionField and what follows the header. -/
def State.ptpMsg (s : State) (i : Nat) (peer : Bool) (type len ctl log seq : Nat) (corr : Int) (body : List Byte) : List Byte :=
  let dst := if peer then 0x0180C200000E else 0x011B19000000
  let f := octBE 6 dst ++ octBE 6 (macOf s.fuse .e0).toNat ++ octBE 2 0x88F7
    ++ octBE 1 type ++ octBE 1 0x12 ++ octBE 2 len ++ octBE 1 (s.rf Reg.PTP_CFG 23 16) ++ octBE 3 0
    ++ octBE 8 (enc 64 corr) ++ octBE 4 0 ++ octBE 10 (s.portId i) ++ octBE 2 seq ++ octBE 1 ctl ++ octBE 1 log ++ body
  f ++ List.replicate (60 - f.length) 0

/-- The next sequence of a message type on a port, taken. -/
def State.takeSeq (s : State) (i type : Nat) : State × Nat :=
  let n := tget (fun _ => 0) (s.ptpPort i).seqs type
  (s.updPort i fun p => { p with seqs := tset (fun _ => 0) p.seqs type ((n + 1) % 65536) }, n)

/-- The record of the master that the slave port on lane i follows. -/
def State.parentOf (s : State) (i : Nat) : Option Foreign :=
  (s.ptpPort i).masters.find? fun f => s.time.slave == some i && f.sender == s.time.parent

/-- What the clock announces: its parent's data set and time properties, one step further, where it has a slave port, else
its own (assumption log 31). -/
def State.announced (s : State) : Foreign :=
  match s.time.slave.bind s.parentOf with
  | some f => { f with steps := f.steps + 1 }
  | none => ⟨s.rf Reg.PTP_DS_PRIO 15 8, (s.reg Reg.PTP_DS_QUAL).toNat, s.rf Reg.PTP_DS_PRIO 7 0, s.clockId, 0, 0, none, 0,
      s.rf Reg.PTP_CFG 23 16, 0, 0, 0xA0⟩

/-- What follows the header of an Announce. -/
def Foreign.body (f : Foreign) : List Byte :=
  octBE 10 0 ++ octBE 2 f.utc ++ octBE 1 0 ++ octBE 1 f.prio1 ++ octBE 4 f.qual ++ octBE 1 f.prio2 ++ octBE 8 f.gm
    ++ octBE 2 f.steps ++ octBE 1 f.source

/-- An Announce of the device's own, whose flags stand in octet 7 of the header. -/
def State.announceMsg (s : State) (i n : Nat) : List Byte :=
  setOctets (s.ptpMsg i false 11 64 5 (s.rf Reg.PTP_INTERVALS 15 8) n 0 s.announced.body) 21 (octBE 1 s.announced.flags)

/-- PTP_MESSAGE_SEND (R260), once PTP has started (R275). -/
def State.ptpSend (s : State) (i : Nat) (k : PtpKind) : State :=
  if s.dev.state ≠ 1 ∨ s.ptpMember i = false then s
  else match k with
    | .announce =>
      if s.masterPort i then
        let (s, n) := s.takeSeq i 11
        s.sendOwn i (s.announceMsg i n) .none s.now
      else s
    | .sync =>
      if s.masterPort i then
        let (s, n) := s.takeSeq i 0
        s.sendOwn i (s.ptpMsg i false 0 44 0 (s.rf Reg.PTP_INTERVALS 31 24) n 0 (octBE 10 0)) .origin s.now
      else s
    | .delayReq =>
      if decide (3 ≤ s.role) && decide (s.role ≤ 4) && s.time.slave == some i && !s.peerDelay then
        let (s, n) := s.takeSeq i 1
        s.sendOwn i (s.ptpMsg i false 1 44 1 0x7F n 0 (octBE 10 0)) .note s.now
      else s
    | .pdelayReq =>
      if s.peerDelay && decide (s.role ≤ 4) then
        let (s, n) := s.takeSeq i 2
        s.sendOwn i (s.ptpMsg i true 2 54 5 0x7F n 0 (octBE 20 0)) .note s.now
      else s

/-! ### Forwarding and residence time (R260, R262) -/

/-- The Sync of an identity and sequence among those of a lane that await their Follow_Up or have it. -/
def PtpPort.pend (p : PtpPort) (f : List Byte) : Option PendSync :=
  p.syncs.find? fun x => x.seq == ptpSeq f && x.ident == ptpIdent f

/-- Change the pending Sync that matches frame f. -/
def PtpPort.updPend (p : PtpPort) (f : List Byte) (g : PendSync → PendSync) : PtpPort :=
  { p with syncs := p.syncs.map fun x => if x.seq == ptpSeq f && x.ident == ptpIdent f then g x else x }

/-- The last n entries of a list. -/
def lastN {α : Type} (n : Nat) (l : List α) : List α := l.drop (l.length - n)

/-- Is a Follow_Up that has come on lane i still on its way out, so that what its Sync's residence was is needed? -/
def State.followUpQueued (s : State) (i : Nat) (x : PendSync) : Bool :=
  let of_ (q : QFrame) : Bool := q.stamp == .followUp && q.src == i && ptpSeq q.octets == x.seq && ptpIdent q.octets == x.ident
  s.sched.egress.any fun g => (g.2.waiting ++ g.2.queued).any of_

/-- A two-step Sync awaits its Follow_Up: at most 16 do on one lane (R262; assumption log 32). One whose Follow_Up has come is
kept until that has left. -/
def State.awaitFollowUp (s : State) (i : Nat) (f : List Byte) : State :=
  s.updPort i fun p =>
    let l := (p.syncs.filter fun x => !(x.seq == ptpSeq f && x.ident == ptpIdent f)) ++
      [⟨ptpSeq f, ptpIdent f, [], ptpCorr f, s.now, false⟩]
    { p with syncs := (l.filter fun x => x.matched && s.followUpQueued i x) ++ lastN 16 (l.filter fun x => !x.matched) }

/-- The Follow_Up f has come: its Sync, if one awaits it; else it is counted (R262). -/
def State.followUp (s : State) (i : Nat) (f : List Byte) : State × Option PendSync :=
  match (s.ptpPort i).pend f with
  | some x =>
    if x.matched then (s.count Reg.PTP_FU_UNMATCH_CNT, none)
    else (s.updPort i fun p => p.updPend f fun x => { x with matched := true }, some x)
  | none => (s.count Reg.PTP_FU_UNMATCH_CNT, none)

/-- A PTP frame is sent to every other member lane (R260). -/
def State.ptpForward (s : State) (i : Nat) (f : List Byte) : State :=
  let t := ptpType f
  let extra : Int := if t = 0 ∧ s.role = 2 then (s.ptpPort i).peer + s.asym i else 0
  let (s, st) : State × Stamp :=
    if t = 0 ∧ ptpTwoStep f then (s.awaitFollowUp i f, .twoStep extra)
    else if t ≤ 3 then (s, .residence extra)
    else if t = 8 then let r := s.followUp i f; (r.1, if r.2.isSome then .followUp else .none)
    else (s, .none)
  let q := s.ptpQueue i f
  let copy : QFrame := ⟨s.elapsed + (8 * frameLen f + 800) * nsUnit, s.now, i, q, true, none, f, st⟩
  ((List.range 512).filter fun j => j != i && s.ptpMember j).foldl (fun s j => s.sendCopy j copy) s

/-- Forwarded as a transparent clock forwards; Signaling and Management messages are copied to the host (Table TIME-1),
where HOST_COPY has not already done so. -/
def State.ptpPass (s : State) (i : Nat) (f : List Byte) : State :=
  let s := s.ptpForward i f
  if (ptpType f = 12 ∨ ptpType f = 13) ∧ s.rb Reg.PTP_CFG 27 = false then s.arrive i f else s

/-- What the time block does to a frame of lane i as it starts; the egress time-stamp is that of the first bit after the SFD,
eight octets later (R261, R262). -/
def State.stampFrame (s : State) (i : Nat) (f : QFrame) : State × List Byte :=
  let e := s.now + 64 * nsUnit
  let d : Int := (e : Int) - f.time
  let res (s : State) : State :=
    if f.src < 512 then s.updTime fun t => { t with resMax := max t.resMax (d.toNat / nsUnit) } else s
  match f.stamp with
  | .none => (s, f.octets)
  | .residence x => (res s, addCorr f.octets (d + x))
  | .twoStep x =>
    ((res s).updPort f.src fun p => p.updPend f.octets fun y => { y with res := tset (fun _ => 0) y.res i (d + x) }, f.octets)
  | .followUp => (s, addCorr f.octets (((s.ptpPort f.src).pend f.octets).elim 0 fun y => tget (fun _ => 0) y.res i))
  | .origin => (s, setOctets (addCorr f.octets (e % nsUnit : Nat)) (bodyAt f.octets + 34) (stampOctets e))
  | .note => (s.updPort i fun p => { p with t3 := some (ptpSeq f.octets, e) }, f.octets)

/-! ### Best master clock (R259, R260, R274) -/

/-- What ranks the masters of different grandmasters, the better the lower (Clause 9.3.4, part 1). -/
def Foreign.quality (f : Foreign) : Nat := ((f.prio1 * 2 ^ 32 + f.qual) * 2 ^ 8 + f.prio2) * 2 ^ 64 + f.gm

/-- What ranks the masters of one grandmaster: steps removed, sender, and the lane that hears it (Clause 9.3.4, part 2). -/
def Foreign.distance (f : Foreign) (lane : Nat) : Nat := (f.steps * 2 ^ 80 + f.sender) * 2 ^ 10 + lane

/-- Is master f, heard on lane i, better than master g, heard on lane j? -/
def Foreign.better (f : Foreign) (i : Nat) (g : Foreign) (j : Nat) : Bool :=
  if f.gm = g.gm then decide (f.distance i < g.distance j) else decide (f.quality < g.quality)

/-- The announce interval, units of 2^-16 ns. -/
def State.announceInterval (s : State) : Nat :=
  let a := sx 8 (s.rf Reg.PTP_INTERVALS 15 8)
  if 0 ≤ a then second * 2 ^ a.toNat else second / 2 ^ (-a).toNat

/-- Is a foreign master on lane i qualified: in domain DOMAIN (R260), two Announce messages within four announce intervals
(Clause 9.3.2.5), or the parent until it times out? -/
def State.qualified (s : State) (i : Nat) (f : Foreign) : Bool :=
  f.domain == s.rf Reg.PTP_CFG 23 16
    && (f.prev.any (fun t => decide (s.elapsed ≤ t + 4 * s.announceInterval))
      || (s.time.slave == some i && s.time.parent == f.sender))

/-- The best of a list of masters with the lanes they are heard on. -/
def bestOf (l : List (Nat × Foreign)) : Option (Nat × Foreign) :=
  l.foldl (fun best x =>
    match best with
    | some y => if x.2.better x.1 y.2 y.1 then some x else best
    | none => some x) none

/-- The best of the qualified masters, with its lane: the best of those best on each port (Clause 9.3.2). -/
def State.bestMaster (s : State) : Option (Nat × Foreign) :=
  bestOf ((s.time.ports.filter fun p => s.ptpMember p.1).filterMap fun p =>
    bestOf ((p.2.masters.filter (s.qualified p.1)).map fun f => (p.1, f)))

/-- Is a master better than the clock itself, where the clock may be a master? -/
def State.betterThanOwn (s : State) (f : Foreign) : Bool :=
  s.rb Reg.PTP_CFG 26 ||
    (decide (128 ≤ s.rf Reg.PTP_DS_QUAL 31 24) && f.gm != s.clockId &&
      decide (f.quality
        < ((s.rf Reg.PTP_DS_PRIO 15 8 * 2 ^ 32 + (s.reg Reg.PTP_DS_QUAL).toNat) * 2 ^ 8 + s.rf Reg.PTP_DS_PRIO 7 0) * 2 ^ 64
          + s.clockId))

/-- Under SOURCE = PTP there is no slave port any more, however it was lost (DEDUCED, log 142): FREERUN before the first lock,
where no cause holds the servo in HOLDOVER, and afterwards the cause NO_MASTER (R264). -/
def State.masterLost (s : State) : State :=
  if s.rf Reg.TIME_CFG 29 28 ≠ 0 then s
  else if s.time.servo.everLocked then (s.updServo fun v => { v with noMaster := true }).holdover
  else if s.time.servo.hcause = 0 then s.servoState 0
  else s

/-- What a port has of a former parent's exchanges is forgotten: origin and arrival of its latest Sync, the Syncs that await its
Follow_Up, and a Delay_Req that it has yet to answer (R259). Peer delays are not the parent's. -/
def PtpPort.forget (p : PtpPort) (parent : Nat) (peer : Bool) : PtpPort :=
  { p with sync := none, t3 := if peer then p.t3 else none, syncs := p.syncs.filter fun x => x.ident != parent }

/-- The slave port, its parent and its grandmaster after a decision; a change of grandmaster is reported (R274). -/
def State.setSlave (s : State) (b : Option (Nat × Foreign)) : State :=
  let lane := b.map (·.1)
  let parent := (b.map fun x => x.2.sender).getD 0
  let gm := (b.map fun x => x.2.gm).getD 0
  let lost := b.isNone && s.time.slave.isSome
  let moved := lane != s.time.slave || parent != s.time.parent
  let changed := b.isSome && gm != s.time.gm
  let s : State := match s.time.slave with
    | some i => if moved then s.updPort i fun p => p.forget s.time.parent s.peerDelay else s
    | none => s
  let s := s.updTime fun t => { t with
    slave := lane, parent := parent, gm := gm, gmQual := (b.map fun x => x.2.qual).getD 0, cal := t.cal && !moved }
  let s := if changed then
      ((s.count Reg.PTP_MASTER_CHG_CNT).cause 0x79 0).event 0x79 0x6003 s.gmWords else s
  if lost then s.masterLost
  else if b.isSome ∧ s.time.servo.noMaster then (s.updServo fun v => { v with noMaster := false }).causeGone
  else s

/-- The best master clock algorithm decides (R260). -/
def State.bmca (s : State) : State :=
  if s.role < 3 ∨ 4 < s.role then s.setSlave none
  else match s.bestMaster with
    | some (i, f) => s.setSlave (if s.betterThanOwn f then some (i, f) else none)
    | none => s.setSlave none

/-- An Announce on lane i is fed to the algorithm (R259, R260): each sender has its own record, and how many a port holds is
not limited (DESIGN CHOICE, log 141). -/
def State.announce (s : State) (i : Nat) (f : List Byte) : State :=
  let sender := ptpIdent f
  if sender / 2 ^ 16 = s.clockId ∨ 255 ≤ ptpFld f 61 2 then s
  else
    let prev := ((s.ptpPort i).masters.find? fun g => g.sender == sender && g.domain == ptpDomain f).map (·.at_)
    let new : Foreign := ⟨ptpFld f 47 1, ptpFld f 48 4, ptpFld f 52 1, ptpFld f 53 8, ptpFld f 61 2, sender, prev, s.elapsed,
      ptpDomain f, ptpFld f 44 2, ptpFld f 7 1 % 64, ptpFld f 63 1⟩
    (s.updPort i fun p => { p with masters := (p.masters.filter fun g => g.sender != sender) ++ [new] }).bmca

/-- Announce interval times receipt timeout, units of 2^-16 ns. -/
def State.announceTime (s : State) : Nat := s.announceInterval * s.rf Reg.PTP_INTERVALS 7 0

/-- When the Announce came whose absence times out on lane i: the parent's on the slave port, elsewhere the latest. -/
def State.heardAt (s : State) (i : Nat) : Option Nat :=
  if s.time.slave = some i then (s.parentOf i).map (·.at_)
  else (((s.ptpPort i).masters.filter fun f => f.domain == s.rf Reg.PTP_CFG 23 16).map (·.at_)).max?

/-- ANNOUNCE_TIMEOUT (R264, R274): what has not been heard from for that long is no master any more. A master port of a
boundary clock has no such timeout (assumption log 31). -/
def State.announceTimeout (s : State) (i : Nat) : State :=
  if s.masterPort i then s
  else match s.heardAt i with
  | none => s
  | some t =>
    if s.elapsed < t + s.announceTime then s
    else
      let live (f : Foreign) : Bool := decide (s.elapsed < f.at_ + s.announceTime)
      let s := (s.updPort i fun p => { p with masters := p.masters.filter live }).count Reg.PTP_ANNOUNCE_TO_CNT
      (s.cause 0x79 2).bmca

/-! ### The clock's own ports (R263, R268) -/

/-- A Sync's times on the slave port: origin with its corrections, and arrival (R263). -/
def State.syncTimes (s : State) (i : Nat) (t1 t2 : Int) : State :=
  let s := s.updPort i fun p => { p with sync := some (t1, t2) }
  if s.rf Reg.TIME_CFG 29 28 = 0 then s.offset (t2 - t1 - (s.time.path.d + s.asym i)) else s

/-- A peer delay of lane i has been measured (R268). -/
def State.peerMeasured (s : State) (i : Nat) (x : Int) : State :=
  let s := s.updPort i fun p => { p with peer := x, t3 := none, resp := none }
  if 3 ≤ s.role ∧ s.time.slave = some i then s.exchange x else s

/-- Pdelay messages, which end on the lane they come on (R260, R268). -/
def State.pdelay (s : State) (i : Nat) (f : List Byte) : State :=
  let mine := ptpFld f 44 10 == s.portId i
  match ptpType f with
  | 2 => s.sendOwn i (s.ptpMsg i true 3 54 5 0x7F (ptpSeq f) (ptpCorr f) (octBE 10 0 ++ octBE 10 (ptpIdent f)))
      (.residence 0) s.now
  | 3 =>
    match (s.ptpPort i).t3 with
    | some (n, t1) =>
      if mine ∧ n = ptpSeq f then
        let d := (s.now : Int) - t1 - ptpCorr f
        if ptpTwoStep f then s.updPort i fun p => { p with resp := some (n, d, ptpTime f 34) }
        else s.peerMeasured i (tdiv d 2)
      else s
    | none => s
  | _ =>
    match (s.ptpPort i).resp with
    | some (n, d, t2) =>
      if mine ∧ n = ptpSeq f then s.peerMeasured i (tdiv (d - ptpCorr f - (ptpTime f 34 - t2)) 2) else s
    | none => s

/-- Messages of the clock's own domain in OC and BC (R260); the slave port takes Syncs of its parent. -/
def State.ptpLocal (s : State) (i : Nat) (f : List Byte) : State :=
  let slave := s.time.slave == some i
  match ptpType f with
  | 0 =>
    if slave && ptpIdent f == s.time.parent then
      if ptpTwoStep f then s.awaitFollowUp i f else s.syncTimes i (ptpTime f 34 + ptpCorr f) s.now
    else s
  | 8 =>
    if slave then
      match s.followUp i f with
      | (s, some x) => s.syncTimes i (ptpTime f 34 + x.corr + ptpCorr f) x.time
      | (s, none) => s
    else s
  | 1 =>
    if s.masterPort i ∧ s.peerDelay = false then
      s.sendOwn i (s.ptpMsg i false 9 54 3 (s.rf Reg.PTP_INTERVALS 23 16) (ptpSeq f)
        (ptpCorr f - (s.now % nsUnit : Nat)) (stampOctets s.now ++ octBE 10 (ptpIdent f))) .none s.now
    else s
  | 9 =>
    match (s.ptpPort i).t3, (s.ptpPort i).sync with
    | some (n, t3), some (t1, t2) =>
      if slave ∧ ptpIdent f = s.time.parent ∧ n = ptpSeq f ∧ ptpFld f 44 10 = s.portId i ∧ s.peerDelay = false then
        (s.updPort i fun p => { p with t3 := none }).exchange (tdiv ((ptpTime f 34 - ptpCorr f - t1) - (t3 - t2)) 2)
      else s
    | _, _ => s
  | 11 => s.announce i f
  | 12 => s.ptpPass i f
  | 13 => s.ptpPass i f
  | t => if t = 2 ∨ t = 3 ∨ t = 10 then (if s.peerDelay then s.pdelay i f else s) else s.badMsg

/-- A PTP frame received on lane i (R213, R259, R260). -/
def State.ptpReceive (s : State) (i : Nat) (f : List Byte) : State :=
  let copy := s.rb Reg.PTP_CFG 27
  let s := if copy then s.arrive i f else s
  let pd := ptpType f = 2 ∨ ptpType f = 3 ∨ ptpType f = 10
  if ptpVersion f ≠ 2 ∨ 1 < ptpMinor f then s.badMsg
  else if s.role = 0 ∨ 4 < s.role then s.badMsg
  else if s.ptpMember i = false then s
  else if s.role = 1 then s.ptpPass i f
  else if s.role = 2 then (if pd then s.pdelay i f else s.ptpPass i f)
  else if ptpDomain f ≠ s.rf Reg.PTP_CFG 23 16 then (if s.rb Reg.PTP_CFG 28 then s.ptpPass i f else s)
  else s.ptpLocal i f

end Sys2Proof.Machine
end

