-- ==== Sys2Proof/Machine/Osc.lean ====
section
/-!
DEFINITION. Supervisory Plane (R203 to R222) with its lasers (R195, R220, R221): lanes and links, ingress checks and
forwarding of frames, flood sets, frames from the host, transmission, and what safe-hold discards (R217).
-/

namespace Sys2Proof.Machine

/-- Does forwarding run: from READY on (R222)? -/
def State.forwarding (s : State) : Bool := s.dev.state == 1

/-! ### Lanes (R205, R206) -/

/-- A change of LINK is reported on the group page (R205). -/
def State.linkReport (s : State) (i : Nat) (up : Bool) : State :=
  (s.cause (0x41 + i / 16) (i % 16)).event (0x41 + i / 16) (if up then 0x5000 else 0x5001) (pay [i])

/-- LINK falls (R205, R243). -/
def State.linkFall (s : State) (i : Nat) (cut : Bool) : State :=
  if (s.lane i).link = false then s
  else
    let s := s.updLane i fun l => { l with link := false }
    let s := ((s.laneBump i cLINK_DOWN).linkReport i false).dropQueued i cut
    if s.time.slave = some i then s.bmca else s

/-- PCS_SYNCHRONISED (R205): SYNC rises, or (`conf`) a /C/ ordered set is received; the 10 ms begin with either (the form of the
row, log 145). -/
def State.pcsSync (s : State) (i : Nat) (conf : Bool) : State :=
  if s.laneEn i ∧ ((s.lane i).sync = none ∨ conf) then s.updLane i fun l => { l with sync := some s.elapsed } else s

/-- LANE_LINK_UP (R204, R205): SYNC for 10 ms and no /C/ ordered set in that time. -/
def State.laneUp (s : State) (i : Nat) : State :=
  match (s.lane i).sync with
  | some t =>
    if s.laneEn i ∧ (s.lane i).link = false ∧ t + us 10000 ≤ s.elapsed then
      (s.updLane i fun l => { l with link := true }).linkReport i true
    else s
  | none => s

/-- LANE_LINK_DOWN (R205): SYNC is lost. -/
def State.laneDown (s : State) (i : Nat) : State := (s.updLane i fun l => { l with sync := none }).linkFall i true

/-- LANE_CFG_WRITE (R205, R219): disabling a lane takes LINK away and cuts no frame. -/
def State.laneCfg (s : State) (i : Nat) (v : Word) : State :=
  let s := s.setReg (laneWord i 0) (v &&& 0xC0000007)
  if s.laneEn i then s else (s.updLane i fun l => { l with sync := none }).linkFall i false

/-- LOSS_OF_SIGNAL (R206): RX_LOS and the power reading, −60 dBm below −35 dBm. -/
def State.lossOfSignal (s : State) (i : Nat) (los : Bool) (power : BitVec 16) : State :=
  s.updLane i fun l => { l with los := los, power := if power.toInt < -560 then 0xFC40 else power.toNat }

/-- Is a lane without light: disabled, before the lasers are warm, or with both lasers of its pair failed (Table OSC-11)? -/
def State.txDark (s : State) (i : Nat) : Bool :=
  !s.laneEn i || !s.dev.lasers || (s.osc.failed.contains (2 * (i / 32)) && s.osc.failed.contains (2 * (i / 32) + 1))

/-! ### Lasers (R195, R220, R221) -/

/-- An event of page LASER, if enabled. -/
def State.laserEvent (s : State) (code n : Nat) : State := if s.rb Reg.LASER_CFG 0 then s.event 0x61 code (pay [n]) else s

/-- Laser n is marked failed (R220). -/
def State.markFailed (s : State) (n : Nat) : State :=
  let s := s.updOsc fun o => { o with failed := insN n o.failed }
  let s := (s.count Reg.LASER_FAIL_CNT).latest Reg.LASER_LAST n (w32 (2 ^ 31 + at_ 4 0 n))
  let s := (s.cause 0x61 0).laserEvent 0x5300 n
  if s.osc.failed.contains (if n % 2 = 0 then n + 1 else n - 1) then (s.cause 0x61 1).laserEvent 0x5301 (n / 2) else s

/-- LASER_FAIL (R195). -/
def State.laserFail (s : State) (n : Nat) : State := if s.osc.failed.contains n then s else s.markFailed n

/-- RETRY (R221). -/
def State.retryLaser (s : State) (o : Order) (a0 : Word) : State :=
  let n := fld a0 4 0
  if s.osc.retry.isSome then s.complete 0x61 1 cBUSY o
  else if s.osc.failed.contains n then s.updOsc fun x => { x with retry := some (o, n, s.elapsed) }
  else s.complete 0x61 1 cLOCKED o

/-- The time within which a retried laser may fail again (R221). -/
def retryTime : Nat := us 200

/-- RETRY_END (R221): the retried laser fails, which ends the RETRY within its 200 µs, or has held through them. -/
def State.retryEnd (s : State) (ok : Bool) : State :=
  match s.osc.retry with
  | none => s
  | some (o, n, t) =>
    let e := s.updOsc fun x => { x with retry := none }
    if t + retryTime ≤ s.elapsed then
      let e := e.updOsc fun x => { x with failed := x.failed.filter fun k => k != n }
      let e := ((e.cause 0x61 2).laserEvent 0x5302 n).complete 0x61 1 cDONE o
      if ok then e else e.laserFail n
    else if ok then s
    else (e.markFailed n).complete 0x61 1 cREFUSED o

/-! ### Flood sets (R214) -/

/-- Is member n in the active flood set of class c? -/
def State.flooded (s : State) (c n : Nat) : Bool := s.rb (0x40A00 + 0x80 * c + 4 * (n / 32)) (n % 32)

/-- FLOOD_APPLY (R214). -/
def State.floodApply (s : State) (o : Order) (a0 : Word) : State :=
  let m := fld a0 2 0
  if m = 0 then s.complete 0x40 1 cZERO o
  else
    let s := ((List.range 3).filter fun c => m.testBit c).foldl (fun s c =>
      (List.range 17).foldl (fun s w => s.setReg (0x40A00 + 0x80 * c + 4 * w) (s.reg (0x40800 + 0x80 * c + 4 * w))) s) s
    s.complete 0x40 1 cDONE o

/-! ### Object frames (R208 to R211) -/

/-- The fields of the object tag (Table OSC-3). -/
def tagOctet (f : List Byte) (k : Nat) : Nat := natBE (octets f (bodyAt f + k) 1)
def tagVersion (f : List Byte) : Nat := tagOctet f 0 / 16
def tagClass (f : List Byte) : Nat := tagOctet f 0 / 4 % 4
def tagNoLearn (f : List Byte) : Bool := (tagOctet f 0).testBit 1
def tagSrc (f : List Byte) : Nat := natBE (octets f (bodyAt f + 1) 5) / 2 ^ 20
def tagDst (f : List Byte) : Nat := natBE (octets f (bodyAt f + 1) 5) % 2 ^ 20
def tagHop (f : List Byte) : Nat := tagOctet f 6

/-- Is a frame an object frame, or a PTP frame? -/
def isObject (f : List Byte) : Bool := etherType f == 0x88B6
def isPtp (f : List Byte) : Bool := etherType f == 0x88F7

/-- Does safe-hold let a frame pass: a SAFETY object frame or a PTP frame (R217)? -/
def keptInSafe (f : List Byte) : Bool := isPtp f || (isObject f && tagClass f == 0)

/-- The queue of a copy of a frame (R211); `dflt` is the lane whose DEF_PCP applies (assumption log 30). -/
def State.frameQueue (s : State) (dflt : Nat) (f : List Byte) : Nat :=
  if tagged f then natBE (octets f 14 1) / 32
  else if isObject f then
    (if tagClass f = 3 then 0 else s.rf Reg.OSC_CLASS_PCP (4 * tagClass f + 2) (4 * tagClass f))
  else s.rf (laneWord dflt 0) 2 0

/-- The lanes and perhaps the host that an object frame goes to, by the table and the flood sets (R210); `src` is the ingress
lane, or 512 for the host, and `flood` says that learning found no room (R228). -/
def State.egressOf (s : State) (src : Nat) (f : List Byte) (flood : Bool) : State × List Nat :=
  let c := tagClass f
  let set := (List.range 513).filter fun n =>
    decide (c < 3) && s.flooded c n && n != src && (n == 512 || (s.lane n).link)
  if flood ∨ tagDst f = 0xFFFFF then (s, set)
  else if tagDst f = 0 then (s, if src = 512 then [] else [512])
  else match s.resolveLane (fun n => (s.lane n).link) (tagDst f) with
    | none => (if src < 512 then s.laneBump src cUNKNOWN_FLOOD else s, set)
    | some l =>
      if l = src then (if src < 512 then s.laneBump src cFILTER else s, [])
      else
        let miss := ((s.objAt (tagDst f)).map (·.cls)) != some c
        (if miss && decide (src < 512) then s.laneBump src cCLASS_MIS else s, [l])

/-- A frame goes to each of a list of egresses: the host queue gets it as received, the lanes `out`. -/
def State.sendTo (s : State) (src : Nat) (f : List Byte) (out : QFrame) (l : List Nat) : State :=
  l.foldl (fun s n => if n = 512 then s.hostPush src (keptInSafe f) f else s.sendCopy n out) s

/-- A frame bound for the host under check 7 or step 1 of R209; safe-hold drops it (R217). -/
def State.toHost (s : State) (i : Nat) (f : List Byte) : State :=
  if s.safe.active then s.laneBump i cSAFE_DROP else s.hostPush i false f

/-- A frame whose tag is in error (R209, R218). -/
def State.tagError (s : State) (i : Nat) : State :=
  let s := s.laneBump i cTAG_ERR
  s.causeOnce 0x40 1 0x5011 (pay [i])

/-- The source object is offered for learning (R209 step 3, R225, R234); true where it finds no room. -/
def State.offer (s : State) (i : Nat) (f : List Byte) : State × Bool :=
  if tagNoLearn f ∨ tagSrc f = 0 ∨ s.safe.active ∨ s.rb Reg.LEARN_CFG 31 = false then (s, false)
  else s.learn (tagSrc f) (tagClass f) i

/-- An object frame received on lane i (R209 to R211): its learn event, its policer and its lookup, in this order; frames of
one ingress time-stamp each in turn by lane (log 131). -/
def State.objectFrame (s : State) (i : Nat) (f : List Byte) : State :=
  if tagVersion f ≠ 1 then (s.laneBump i cTAG_VER).toHost i f
  else if tagClass f = 3 ∨ tagSrc f = 0xFFFFF then s.tagError i
  else
    let (s, noRoom) := s.offer i f
    let (s, ok) := s.police i (tagClass f) (frameLen f)
    if ok = false then s
    else if s.safe.active ∧ tagClass f ≠ 0 then s.laneBump i cSAFE_DROP
    else if tagHop f = 0 then s.laneBump i cHOP_DROP
    else
      let (s, l) := s.egressOf i f noRoom
      let out : QFrame := ⟨s.elapsed + (8 * frameLen f + 800) * nsUnit, s.now, i, s.frameQueue i f, keptInSafe f, none,
        setOctets f (bodyAt f + 6) (octBE 1 (tagHop f - 1)), .none⟩
      s.sendTo i f out l

/-- A frame received acts: a copy of a PTP frame and any other frame for the host enter the host queue, an object frame its
tables (R209, R212). -/
def State.settleFrame (s : State) (i : Nat) (f : List Byte) : State :=
  if isPtp f then s.hostPush i true f else if isObject f then s.objectFrame i f else s.toHost i f

/-- The frames received up to now act, each at its ingress time-stamp, in order of time-stamp and lane (R212, R224). -/
def State.settleArrived (s : State) : State :=
  let due (x : Arrival) : Bool := decide (x.at_ ≤ s.elapsed)
  (s.osc.arrived.filter due).foldl (fun s x => s.stamped x.time fun s => s.settleFrame x.lane x.octets)
    (s.updOsc fun o => { o with arrived := o.arrived.filter fun x => !(due x) })

/-- RX_FRAMES and RX_OCTETS count a frame of n octets (R207). -/
def State.received (s : State) (i n : Nat) : State := (s.laneWrap i 0x08).laneOctets i 0x10 n

/-- A frame that has passed the checks of the line code and the FCS is taken through the rest of Table OSC-2 (R207), a PTP frame
by `ptp`. -/
def State.takeFrame (s : State) (i : Nat) (f : List Byte) (ptp : State → State) : State :=
  let n := frameLen f
  if n < 64 ∨ 2048 < n then s.laneBump i cLEN_ERR
  else
    let s := s.received i n
    if etherType f = 0x8808 then s.laneBump i cMACCTL_DROP
    else if isPtp f then ptp s
    else s.arrive i f

/-- A frame is taken through Table OSC-2 (R207). -/
def State.ingress (s : State) (i : Nat) (f : LaneFrame) : State :=
  if f.codeOk = false then s.laneBump i cCODE_ERR
  else if f.fcsOk = false then s.laneBump i cFCS_ERR
  else s.takeFrame i f.octets fun s => s.ptpReceive i f.octets

/-- FRAME_RECEIVE: a frame on the line of lane i (R205, R207, R222). -/
def State.frameReceive (s : State) (i : Nat) (f : LaneFrame) : State :=
  if s.forwarding && s.laneEn i && (s.lane i).link && !s.laneLpbk i then s.ingress i f else s

/-! ### Transmission (R244) -/

/-- From the start of a frame's preamble to its SFD: 8 octets (R207). -/
def preambleTime : Nat := ns 64

/-- A frame looped back comes in at an instant, in order of instant and lane. -/
def insertLoop (t i : Nat) (f : List Byte) : List (Nat × Nat × List Byte) → List (Nat × Nat × List Byte)
  | [] => [(t, i, f)]
  | x :: l => if t < x.1 ∨ (t = x.1 ∧ i < x.2.1) then (t, i, f) :: x :: l else x :: insertLoop t i f l

/-- The frames looped back whose SFD has returned are received (R207, Table OSC-11); no PTP frame is among them. -/
def State.loopsDue (s : State) : State :=
  let due (x : Nat × Nat × List Byte) : Bool := decide (x.1 ≤ s.elapsed)
  (s.osc.loops.filter due).foldl
    (fun s x => if s.laneEn x.2.1 && (s.lane x.2.1).link then s.takeFrame x.2.1 x.2.2 id else s)
    (s.updOsc fun o => { o with loops := o.loops.filter fun x => !(due x) })

/-- A frame that lane i sends comes back, its ingress time-stamp taken at its SFD (R207, Table OSC-11), and is received then. A PTP
frame goes to the time block at once, with the stamp it will have (R213; DESIGN CHOICE, log 166). -/
def State.loopFrame (s : State) (i : Nat) (o : List Byte) : State :=
  if isPtp o then s.later preambleTime fun s => s.ingress i ⟨true, true, o⟩
  else s.updOsc fun x => { x with loops := insertLoop (s.elapsed + preambleTime) i o x.loops }

/-- TRANSMIT_START on lane i: the frame leaves on the wire, or comes back where the lane loops back (Table OSC-11). -/
def State.transmitStart (s : State) (i : Nat) : State :=
  let g := s.egress i
  if s.forwarding && g.tx.isNone && decide (g.free ≤ s.elapsed) then
    match s.selectFrame i with
    | none => s
    | some f =>
      let (s, o) := (s.startFrame i f).stampFrame i f
      if s.laneLpbk i then s.loopFrame i o
      else { s with sent := s.sent ++ [.lane i s.elapsed o] }
  else s

/-! ### Frames from the host (R216) -/

/-- The code a frame from the host completes with at once, if one of R216 applies. -/
def State.hostRefuse (s : State) (lane len : Nat) (f : List Byte) : Option Nat :=
  if 512 < lane ∨ len < 60 ∨ 2044 < len ∨ f.length < len ∨ (lane = 512 ∧ !(isObject f && tagVersion f == 1)) then some cBADARG
  else if lane < 512 ∧ s.laneEn lane = false then some cLOCKED
  else if s.safe.active ∧ keptInSafe f = false then some cREFUSED
  else none

/-- A frame from the host enters egress; the transaction completes once every copy is queued (R216, R242). -/
def State.hostInject (s : State) (p : Port) (seq : BitVec 16) (r : Reply) (words : List Word) : State :=
  let w0 := words.headD 0
  let lane := fld w0 25 16
  let len := fld w0 11 0
  let f := (unpackWords (words.drop 3)).take len
  match s.hostRefuse lane len f with
  | some c => s.frameDone p seq r c
  | none =>
    let (s, l) := if lane = 512 then s.egressOf 512 f false else (s, [lane])
    let up := l.filter fun n => (s.lane n).link
    let s := (l.filter fun n => !(s.lane n).link).foldl (fun s n => s.laneBump n cNOLINK_DROP) s
    if up = [] then s.frameDone p seq r cDONE
    else
      let num := s.osc.next
      let s := s.updOsc fun o => { o with next := o.next + 1, waiting := o.waiting ++ [⟨num, p, r, seq, up.length, cDONE⟩] }
      up.foldl (fun s n => s.sendCopy n
        ⟨s.elapsed + 800 * nsUnit, s.now, 512, s.frameQueue n f, keptInSafe f, some num, f, .none⟩) s

/-! ### Safe-hold (R217) -/

/-- What safe-hold discards from one lane, each frame counted on the lane. -/
def State.discardLane (s : State) (i : Nat) : State :=
  let g := s.egress i
  let out := (g.queued ++ g.waiting).filter fun f => !f.keep
  let s := s.updEgress i fun g => { g with
    queued := g.queued.filter fun f => f.keep, waiting := g.waiting.filter fun f => f.keep }
  out.foldl (fun s f => (s.laneBump i cSAFE_DROP).hostCopy f.host cREFUSED) s

/-- At safe-hold entry every frame that is neither a SAFETY object frame nor a PTP frame is discarded. -/
def State.discardFrames (s : State) : State :=
  let s := (s.sched.egress.map (·.1)).foldl State.discardLane s
  let out := s.osc.hostq.filter fun f => !f.keep
  let s := s.updOsc fun o => { o with hostq := o.hostq.filter fun f => f.keep }
  out.foldl (fun s _ => s.count Reg.OSC_HOSTQ_DROP_CNT) s

end Sys2Proof.Machine
end

