-- ==== Sys2Proof/Machine/Link.lean ====
section
/-!
DEFINITION. Ehreri Link and Chain (R276 to R298, R306): a port's link, what becomes of a received frame, requests
outstanding and their order, events, supervisory frames across the link, enumeration and PING.
-/

namespace Sys2Proof.Machine

/-! ### Port status (R277, R303) -/

/-- The page of a port. -/
def ehrPage (p : Port) : Nat := 0x0B + portNum p

/-- The state with f applied to a port's record. -/
def State.updLink (s : State) (p : Port) (f : LinkPort → LinkPort) : State := s.setLink p (f (s.link p))

/-- Does RS-FEC run on a port, does the port loop back (Table EHR-6)? -/
def State.fecEn (s : State) (p : Port) : Bool := s.rb (Reg.EHR_CFG p) 31
def State.ehrLpbk (s : State) (p : Port) : Bool := s.rb (Reg.EHR_CFG p) 29
def State.strict (s : State) (p : Port) : Bool := s.rb (Reg.EHR_CFG p) 30

/-- LINK of a port falls, if it is up (R277). -/
def State.ehrFall (s : State) (p : Port) : State :=
  if (s.link p).link then
    let s := (s.updLink p fun l => { l with link := false }).cause (ehrPage p) 0
    (s.event (ehrPage p) 0x7001 (pay [portNum p])).count (Reg.EHR_LINK_DOWN_CNT p)
  else s

/-- BLOCK_LOCK: block lock and codeword alignment are gained, or hi_ber is left; the 1 ms begins (R277). -/
def State.blockLock (s : State) (p : Port) : State :=
  s.updLink p fun l => { l with
    blockLock := true, fecAlign := s.fecEn p, hiBer := false, since := some (l.since.getD s.elapsed) }

/-- EHR_LINK_UP: all of it has held for 1 ms (R277). -/
def State.ehrUp (s : State) (p : Port) : State :=
  match (s.link p).since with
  | none => s
  | some t =>
    if (s.link p).link = false ∧ t + us 1000 ≤ s.elapsed then
      ((s.updLink p fun l => { l with link := true }).cause (ehrPage p) 0).event (ehrPage p) 0x7000 (pay [portNum p])
    else s

/-- EHR_LINK_DOWN: block lock and alignment are lost (R277). -/
def State.ehrDown (s : State) (p : Port) : State :=
  (s.updLink p fun l => { l with blockLock := false, fecAlign := false, since := none }).ehrFall p

/-- HI_BER: an entry to hi_ber (R277). -/
def State.hiBer (s : State) (p : Port) : State :=
  if (s.link p).hiBer then s
  else
    let s := (s.updLink p fun l => { l with hiBer := true, since := none }).count (Reg.EHR_HI_BER_CNT p)
    ((s.cause (ehrPage p) 1).event (ehrPage p) 0x7002 []).ehrFall p

/-- FEC_UNCORR: an uncorrectable codeword (R277). -/
def State.fecUncorr (s : State) (p : Port) : State :=
  let s := s.count (Reg.EHR_FEC_UNCORR_CNT p)
  s.causeOnce (ehrPage p) 2 0x7003 []

/-- EHR_CFG_WRITE (R303): BUSY where it changes ORDER while requests are outstanding; a change of FEC_EN or LPBK takes the
link down (assumption log 37). `mine` is the transaction the write came in, which does not count. -/
def State.ehrCfg (s : State) (p : Port) (mine : Option (BitVec 12)) (v : Word) : State × Nat :=
  let old := s.reg (Reg.EHR_CFG p)
  let v := v &&& 0xE0000000
  if bit v 30 ≠ bit old 30 ∧ ((s.link p).out.filter fun o => some o.tid != mine) ≠ [] then (s, cBUSY)
  else
    let s := s.setReg (Reg.EHR_CFG p) v
    (if bit v 31 ≠ bit old 31 ∨ bit v 29 ≠ bit old 29 then s.ehrDown p else s, cDONE)

/-! ### What becomes of a received frame (R278, R280, R294, R295) -/

/-- Does a frame address every device: BCAST, or DEV 0xFF in what only the host sends? -/
def toAll (op : BitVec 4) (f : LinkFrame) : Bool :=
  f.bcast || (f.dev == 0xFF && op != 5 && op != 6 && op != 7)

/-- Does a frame name this device? -/
def State.named (s : State) (f : LinkFrame) : Bool := s.chain.enumerated && f.dev.toNat == s.chain.addr

/-- Is the header one the device takes or passes on (R278, R294)? -/
def headed (f : LinkFrame) : Bool :=
  f.etherType == 0x88B5 && f.version == 1 && decide (f.hops.toNat < 64) && (decide (f.dev.toNat < 64) || f.dev == 0xFF)

/-- A frame as it is passed on (R294): HOPS incremented, and after a failed FCS the complement of the correct one. -/
def onward (f : LinkFrame) : LinkFrame :=
  { f with hops := f.hops + 1, fcs := if f.fcs = .good then .good else .stomped }

/-- The loopback of a port returns a frame that has been passed on to it (Table EHR-6; log 72). -/
def State.loopBack (s : State) (q : Port) (op : BitVec 4) (f : LinkFrame) : State :=
  if s.ehrLpbk q then s.updLink q fun l => { l with looped := l.looped ++ [(op, f)] } else s

/-- A frame that came in on port p goes out on the other one (R294). What came back in loopback is not forwarded, and what
goes out on a port in loopback is received back there (Table EHR-6). -/
def State.passOn (s : State) (p : Port) (op : BitVec 4) (f : LinkFrame) : State :=
  let q := otherPort p
  if (s.link p).link = false ∨ s.ehrLpbk p then s
  else if (s.link q).link then
    State.loopBack { s with sent := s.sent ++ [.forward q op (onward f)] } q op (onward f)
  else s.count (Reg.EHR_FWD_DROP_CNT p)

/-- A frame that is not for this device alone: dropped and counted, or passed on (R294). -/
def State.relay (s : State) (p : Port) (op : BitVec 4) (f : LinkFrame) : State :=
  match f.fcs with
  | .stomped => s.count (Reg.EHR_STOMP_CNT p)
  | .bad =>
    let s := s.count (Reg.EHR_RX_FCS_CNT p)
    if headed f then s.passOn p op f else s
  | .good => if headed f then s.passOn p op f else s.count (Reg.EHR_RX_DROP_CNT p)

/-- A frame for this device alone: dropped and counted, or taken by `k` (R280, R294). -/
def State.consume (s : State) (p : Port) (f : LinkFrame) (k : State → State) : State :=
  match f.fcs with
  | .stomped => s.count (Reg.EHR_STOMP_CNT p)
  | .bad => s.count (Reg.EHR_RX_FCS_CNT p)
  | .good => if headed f then k s else s.count (Reg.EHR_RX_DROP_CNT p)

/-- A received frame: one for this device is taken by `k`, any other passed on; a broadcast both (R294, R295). -/
def State.receive (s : State) (p : Port) (op : BitVec 4) (f : LinkFrame) (k : State → State) : State :=
  if toAll op f then
    let s := s.relay p op f
    if f.fcs = .good ∧ headed f then k s else s
  else if s.named f then s.consume p f k
  else s.relay p op f

/-- FORWARD: a frame that is not for this device. A RESPONSE, an EVENT and a device-originated FRAME never are (R294). -/
def State.forward (s : State) (p : Port) (op : BitVec 4) (f : LinkFrame) : State :=
  if op = 5 ∨ op = 6 ∨ op = 7 then s.relay p op f else s.receive p op f id

/-! ### Requests outstanding (R279, R289 to R291) -/

/-- Is a response due (Table EHR-3)? -/
def answerDue (op : BitVec 4) (f : LinkFrame) : Bool :=
  match op.toNat with
  | 1 | 4 => !(toAll op f) || f.ackreq
  | 2 => f.ackreq
  | 7 => bit f.addr 31
  | 8 => !(bit (f.payload.getD 0 0) 31) || f.ackreq
  | _ => true

/-- A request ends: it is no longer outstanding, and its response leaves if one is due (R289). -/
def State.reply (s : State) (p : Port) (op : BitVec 4) (f : LinkFrame) (code : Nat) (words : List Word) : State :=
  let s := s.retire p f.tid
  if answerDue op f then s.respond p f.seq f.tid f.src f.addr code words else s

/-- The answer of a request that did not become outstanding (R291). -/
def State.turnedAway (s : State) (p : Port) (op : BitVec 4) (f : LinkFrame) (code : Nat) : State :=
  if answerDue op f then s.respond p f.seq f.tid f.src f.addr code [] else s

/-- A request is answered without becoming outstanding (R291), under STRICT after every earlier one (R290). -/
def State.turnAway (s : State) (p : Port) (op : BitVec 4) (f : LinkFrame) (code : Nat) : State :=
  if s.strict p && (s.link p).out != [] then
    s.updLink p fun l => { l with waiting := l.waiting ++ [⟨op, f, some code⟩] }
  else s.turnedAway p op f code

/-- The most requests of a port that may be outstanding (R289, R290). -/
def State.outMax (s : State) (p : Port) : Nat := if s.strict p then 16 else 256

/-- A request finds its port at the limit (R291). -/
def State.atLimit (s : State) (p : Port) (op : BitVec 4) (f : LinkFrame) : State :=
  let s :=
    if op = 2 then ((s.count (Reg.EHR_POSTED_DROP_CNT p)).cause (ehrPage p) 3).event (ehrPage p) 0x7004 []
    else s.count (Reg.EHR_BUSY_CNT p)
  s.turnAway p op f cBUSY

/-- A request for this device that is to be answered becomes outstanding and is issued by `k`, or under STRICT waits until no
earlier one is outstanding; at the limit, and with the transaction ID of an outstanding one, it is turned away (R289 to
R291; assumption log 75). -/
def State.takeIn (s : State) (p : Port) (op : BitVec 4) (f : LinkFrame) (k : State → State) : State :=
  let s := s.updLink p fun l => { l with rxTrans := (l.rxTrans + 1) % 2 ^ 48 }
  if s.outMax p ≤ (s.link p).out.length then s.atLimit p op f
  else if (s.link p).out.any fun o => o.tid == f.tid then (s.count (Reg.EHR_BADTID_CNT p)).turnAway p op f cBADARG
  else
    let wait := s.strict p && (s.link p).out != []
    let s := s.updLink p fun l => { l with out := l.out ++ [⟨f.tid, op⟩] }
    if wait then s.updLink p fun l => { l with waiting := l.waiting ++ [⟨op, f, none⟩] } else k s

/-- A request for this device (R289 to R291, R295): in a reset it is not answered unless a thermal shutdown answers (R365). -/
def State.take (s : State) (p : Port) (op : BitVec 4) (f : LinkFrame) (k : State → State) : State :=
  if s.dev.inReset.isSome && s.dev.inReset != some 4 then s
  else if toAll op f && (op == 0 || op == 3) then s.count (Reg.EHR_RX_DROP_CNT p)
  else if toAll op f && !s.chain.enumerated && op != 9 then s
  else s.takeIn p op f k

/-! ### Transactions of the device's own (R278, R285, R286) -/

/-- EHRn.PEER as an address, first octet transmitted most significant. -/
def State.peer (s : State) (p : Port) : BitVec 48 :=
  let o (w : Word) (k : Nat) : Nat := fld w (8 * k + 7) (8 * k)
  let lo := s.reg (Reg.EHR_PEER_LO p)
  let hi := s.reg (Reg.EHR_PEER_HI p)
  BitVec.ofNat 48 ([o lo 0, o lo 1, o lo 2, o lo 3, o hi 0, o hi 1].foldl (fun n b => n * 256 + b) 0)

/-- A transaction of the device's own leaves on a port. -/
def State.originate (s : State) (p : Port) (op : BitVec 4) (addr : Word) (words : List Word) : State :=
  let seq := (s.link p).txSeq
  let s := s.updLink p fun l => { l with txSeq := (l.txSeq + 1) % 65536 }
  s.transmit p op (s.peer p)
    { fcs := .good, etherType := 0x88B5, src := macOf s.fuse p, version := 1, bcast := false, evt := op == 6, ackreq := false,
      dev := s.devAddr, seq := BitVec.ofNat 16 seq, tid := 0, len := BitVec.ofNat 16 words.length, addr := addr, code := 0,
      hops := 0, payload := words }

/-- The words of an event record (Table EHR-4). -/
def Event.words (e : Event) : List Word :=
  let ns := e.time / nsUnit
  let sec := ns / 1000000000
  [w32 (at_ 31 16 e.code + at_ 15 12 e.src + at_ 3 0 e.payload.length), w32 (at_ 15 0 e.seq), w32 e.epoch,
    w32 (ns % 1000000000), w32 sec, w32 (at_ 31 16 (e.time % nsUnit) + at_ 15 0 (sec / 2 ^ 32))] ++ e.payload

/-- The port the event queue is sent on, if any can send (R286). -/
def State.eventPort (s : State) : Option Port :=
  let p : Port := if s.rb Reg.CHAIN_CFG 31 then .e1 else .e0
  if (s.link p).link then some p
  else if s.rb Reg.CHAIN_CFG 30 ∧ (s.link (otherPort p)).link then some (otherPort p)
  else none

/-- How many of the first n records fit into one transaction of room words. -/
def fitting : Nat → Nat → List Event → Nat
  | 0, _, _ => 0
  | _, _, [] => 0
  | n + 1, room, e :: t => if e.words.length ≤ room then fitting n (room - e.words.length) t + 1 else 0

/-- EVENT_SEND: up to n whole records leave in one EVENT transaction; once room returns, the number of events lost is
reported (R285, R286). -/
def State.eventSend (s : State) (n : Nat) : State :=
  match s.eventPort with
  | none => s
  | some p =>
    let k := fitting n 352 s.chain.queue
    if k = 0 then s
    else
      let words := (s.chain.queue.take k).flatMap Event.words
      let s := { s with chain := { s.chain with queue := s.chain.queue.drop k } }
      let s := s.originate p 6 0 words
      let lost := s.chain.dropped
      if lost = 0 then s
      else
        let s := { s with chain := { s.chain with dropped := 0 } }
        (s.cause 0x0D 1).event 0x0D 0x7009 (pay [lost])

/-! ### Supervisory frames across the link (R215, R284) -/

/-- The segments of a payload from word offset k: offset with LAST, and words; n bounds their number. -/
def segments : Nat → Nat → List Word → List (Nat × List Word)
  | 0, _, _ => []
  | n + 1, k, l =>
    if l.length ≤ 352 then [(2 ^ 31 + k, l)] else (k, l.take 352) :: segments n (k + 352) (l.drop 352)

/-- The payload of a frame to the host (Table OSC-4). -/
def HostFrame.words (f : HostFrame) : List Word :=
  let ns := f.time / nsUnit
  [w32 (at_ 25 16 f.lane + at_ 11 0 f.octets.length), w32 (ns % 1000000000), w32 (ns / 1000000000)] ++ packWords 512 f.octets

/-- HOST_FRAME_DELIVERY: the first frame of the host queue leaves in its segments, once the host shaper lets it (R212, R215,
R252, R284). It waits while the port's LINK is 0 (assumption log 38). -/
def State.hostDeliver (s : State) : State :=
  let p : Port := if s.rb Reg.OSC_HOSTQ_CFG 0 then .e1 else .e0
  let b := (s.bucket hostKey).at_ s.elapsedNs
  match s.osc.hostq with
  | [] => s
  | f :: t =>
    if s.forwarding && (s.link p).link && b.maySend then
      let s := s.setBucket hostKey (b.debit (frameLen f.octets))
      let s := s.updOsc fun o => { o with hostq := t }
      (segments 2 0 f.words).foldl (fun s x => s.originate p 7 (w32 x.1) x.2) s
    else s

/-- A segment that does not follow what came before discards the incomplete frame (R284). -/
def State.frameAbort (s : State) (p : Port) : State :=
  let s := s.updLink p fun l => { l with asm := [], asmOpen := false }
  ((s.count (Reg.EHR_FRAME_ABORT_CNT p)).cause (ehrPage p) 4).event (ehrPage p) 0x7005 []

/-- FRAME: a segment from the host; the last one of a frame hands it to the supervisory plane (R284, R216). -/
def State.frameSegment (s : State) (p : Port) (f : LinkFrame) : State :=
  let k := fld f.addr 9 0
  let last := bit f.addr 31
  if f.addr.toNat % 4 ≠ 0 ∨ f.payload.length < f.len.toNat ∨ 352 < f.len.toNat then s.reply p 7 f cBADARG []
  else if f.len = 0 then s.reply p 7 f cZERO []
  else
    let l := s.link p
    let follows := if l.asmOpen then decide (k = l.asm.length) else decide (k = 0)
    let s := if follows then s else s.frameAbort p
    if follows = false ∧ k ≠ 0 then s.reply p 7 f cBADARG []
    else
      let words := (if k = 0 then [] else (s.link p).asm) ++ f.payload.take f.len.toNat
      if last then
        let s := s.updLink p fun l => { l with asm := [], asmOpen := false }
        if 514 < words.length then s.frameDone p f.seq ⟨f.tid, f.src, f.addr, true⟩ cBADARG
        else s.hostInject p f.seq ⟨f.tid, f.src, f.addr, true⟩ words
      else (s.updLink p fun l => { l with asm := words, asmOpen := true }).reply p 7 f cDONE []

/-! ### Enumeration and PING (R287, R296) -/

/-- The payload of a PING response (R287). -/
def State.pingWords (s : State) : List Word :=
  let n := serial s.fuse
  [w32 n, w32 (n / 2 ^ 32), w32 (flag 31 s.chain.enumerated + flag 30 s.chain.ring + at_ 29 28 s.lifeState
    + at_ 14 8 s.chain.count + (if s.chain.enumerated then at_ 5 0 s.chain.addr else 0))]

/-- Is a request that names no register malformed (R280)? -/
def crooked (f : LinkFrame) : Bool := decide (f.addr.toNat % 4 ≠ 0) || decide (f.payload.length < f.len.toNat)

/-- PING (R287); a thermal shutdown answers BUSY first (R338). -/
def State.ping (s : State) (p : Port) (f : LinkFrame) : State :=
  if s.dev.inReset = some 4 then s.reply p 9 f cBUSY []
  else if crooked f then s.reply p 9 f cBADARG []
  else s.reply p 9 f cDONE s.pingWords

/-- ENUM, ASSIGN (R296): the device takes address N and hands on N + 1, or answers the number of devices; with N = 64 it answers
NOROOM, and a larger N is no device index (R6). -/
def State.enumAssign (s : State) (p : Port) (f : LinkFrame) (w : Word) : State :=
  let n := fld w 6 0
  if 64 < n then s.reply p 8 f cBADARG []
  else if n = 64 then s.reply p 8 f cNOROOM []
  else
    let s := { s with chain := { s.chain with enumerated := true, addr := n } }
    let s := ((s.count Reg.CHAIN_ENUM_CNT).cause 0x0D 0).event 0x0D 0x7008 (pay [n])
    let w' := w32 (w.toNat - n + (n + 1))
    if (s.link .e1).link then (s.retire p f.tid).passOn p 8 { f with payload := w' :: f.payload.drop 1 }
    else s.reply p 8 f cDONE [w32 (n + 1)]

/-- ENUM, FINAL (R296): each enumerated device notes the length of the chain; one without an address does not answer. -/
def State.enumFinal (s : State) (p : Port) (f : LinkFrame) (w : Word) : State :=
  let n := fld w 6 0
  if s.chain.enumerated = false then s.retire p f.tid
  else if 1 ≤ n ∧ n ≤ 64 then
    { s with chain := { s.chain with count := n, ring := bit w 30 } }.reply p 8 f cDONE []
  else s.reply p 8 f cBADARG []

/-- Is an ENUM one with FINAL = 1 (R296)? -/
def isFinal (f : LinkFrame) : Bool := bit (f.payload.getD 0 0) 31

/-- An ENUM is issued (R296); a thermal shutdown answers it with BUSY and hands an ASSIGN on as it is (assumption log 39). -/
def State.enumIssue (s : State) (p : Port) (f : LinkFrame) : State :=
  if s.dev.inReset = some 4 then (if isFinal f then s else s.passOn p 8 f).reply p 8 f cBUSY []
  else if crooked f then s.reply p 8 f cBADARG []
  else match f.payload.take f.len.toNat with
    | [] => s.reply p 8 f cBADARG []
    | w :: _ => if bit w 31 then s.enumFinal p f w else s.enumAssign p f w

/-- An ENUM frame comes in (R294, R296): on E1 it is dropped; a device in reset passes it on, and FINAL is passed on as it
comes (assumption log 39); then it is taken as any request, by `k`. -/
def State.enum (s : State) (p : Port) (f : LinkFrame) (k : State → State) : State :=
  match f.fcs with
  | .stomped => s.count (Reg.EHR_STOMP_CNT p)
  | .bad => s.count (Reg.EHR_RX_FCS_CNT p)
  | .good =>
    if headed f = false ∨ p = .e1 then s.count (Reg.EHR_RX_DROP_CNT p)
    else if s.dev.inReset.isSome ∧ s.dev.inReset ≠ some 4 then s.passOn p 8 f
    else (if isFinal f then s.passOn p 8 f else s).takeIn p 8 f k

end Sys2Proof.Machine
end

