-- ==== Sys2Proof/Machine/Safe.lean ====
section
/-!
DEFINITION. Safe-hold (Drive Planes, Feeds, Token and Safe-Hold R196 to R199): its causes, entry, the causes that follow
the planes, and exit.
-/

namespace Sys2Proof.Machine

/-- The causes standing, bits of Table PLANE-8. -/
def SafeSt.causes (f : SafeSt) : Nat := flag 0 f.pin + flag 1 f.host + flag 2 f.unhealthy + flag 3 f.bist

/-- The state with f applied to the safe-hold record. -/
def State.updSafe (s : State) (f : SafeSt → SafeSt) : State := { s with safe := f s.safe }

/-- Safe-hold is entered if a cause stands and it is not yet in force (R197). While clear codes are driven, elements stay in
HOLD with cause NCLR, and R198 applies when clear ends. -/
def State.safeCheck (s : State) : State :=
  if s.safe.active ∨ s.safe.causes = 0 then s
  else
    let s := s.updSafe fun f => { f with active := true, first := f.causes }
    let s := if s.drv.clearing then s else s.safeFreeze
    let s := s.discardSafe s.safe.pin
    ((s.count Reg.TOKEN_SAFE_CNT).cause 0x04 7).event 0x04 0x3010 (pay [s.safe.causes])

/-- Causes UNHEALTHY and BIST follow the planes (Table PLANE-8); UNHEALTHY is not evaluated before the first grant. -/
def State.safeFollow (s : State) : State :=
  let up (pl : Plane) : Bool := (s.plane pl).st == .active || (s.plane pl).st == .standby
  let arises := s.token.granted && ((!(s.healthy .a) && !(s.healthy .b)) || (!(up .a) && !(up .b)))
  let ends := (s.healthy .a && up .a) || (s.healthy .b && up .b)
  let s := s.updSafe fun f => { f with
    unhealthy := arises || (f.unhealthy && !ends), bist := s.pla.bistFail && s.plb.bistFail }
  s.safeCheck

/-- SAFE_ENTER (R199). -/
def State.safeEnter (s : State) (o : Order) : State :=
  ((s.updSafe fun f => { f with host := true }).safeCheck).complete 0x04 1 cDONE o

/-- NSAFE_HOLD_FALL: nSAFE_HOLD is recognised low (R196). -/
def State.nsafeFall (s : State) : State := (s.updSafe fun f => { f with pin := true }).safeCheck

/-- NSAFE_HOLD_RISE: the cause ends; safe-hold stays (R199). -/
def State.nsafeRise (s : State) : State := s.updSafe fun f => { f with pin := false }

/-- SAFE_EXIT (R199). -/
def State.safeExit (s : State) (o : Order) : State :=
  if s.safe.active = false then s.complete 0x04 2 cDONE o
  else if s.safe.pin ∨ s.safe.unhealthy ∨ s.safe.bist then s.complete 0x04 2 cLOCKED o
  else
    let s := s.updSafe fun f => { f with active := false, host := false }
    let s := (s.cause 0x04 7).event 0x04 0x3011 []
    let s := if s.drv.clearing then s else s.safeThaw
    s.complete 0x04 2 cDONE o

end Sys2Proof.Machine
end

