-- ==== Sys2Proof/Machine/Reset.lean ====
section
/-!
DEFINITION. Resets (Start-Up, Reset, Memory and Life Cycle R364 to R366; Drive Planes R175, R202; Element Drive R173): how
each begins and ends, and what the device is right after one.
-/

namespace Sys2Proof.Machine

/-- The state with f applied to the start-up record. -/
def State.updDev (s : State) (f : DevSt → DevSt) : State := { s with dev := f s.dev }

/-- The device enters BIST_HOLD (R353): clear codes are driven under R185. -/
def State.enterHoldState (s : State) : State :=
  ((s.updDev fun d => { d with state := 2 }).updToken fun t => { t with free := true }).clearGrant

/-- The state of start-up that a reset of a cause leaves: START, or BIST_HOLD, which only POWER_ON and NRESET end (R353,
R370). -/
def DevSt.stateAfter (d : DevSt) (cause : Nat) : Nat := if d.state = 2 ∧ cause ≠ 1 ∧ cause ≠ 2 then 2 else 0

/-- A reset begins (R364, R365): light and heaters off, prepared and scheduled epochs and transitions lost (R86, R109), a
journal record cut off; a DEV soft reset resets every master (R302); POWER_ON and NRESET take the ports down and end a thermal
shutdown; the test access port loses its instruction with the power (log 85). -/
def State.beginReset (s : State) (cause : Nat) : State :=
  let soft := cause = 3 ∨ cause = 5 ∨ cause = 6
  let cold := cause = 1 ∨ cause = 2
  let s := s.cutJournal
  let s := if cause = 3 then s.each (List.range 9) fun s m => s.masterReset m (s.burstAt m) else s
  let s := if cold then s else s.count Reg.DEV_RESET_CNT
  let marker :=
    if s.dev.returning ∧ cause ≠ 6 then (if s.returnWiping then 8 else Config.markerCells s.elapsed % 9) else s.dev.marker
  let s := s.updDev fun d => { d with
    inReset := some cause, cause := cause, lasers := false, marker := marker, returning := false, armed := none
    state := d.stateAfter cause, restoreWait := false, lockAt := none
    softFrom := if soft then some s.elapsed else if cause = 1 then none else d.softFrom }
  let down (l : LinkPort) : LinkPort :=
    let l := { l with out := [], waiting := [], asm := [], asmOpen := false, snap := [], staged := [], looped := [] }
    if cold then { l with blockLock := false, fecAlign := false, hiBer := false, since := none, link := false } else l
  { s with
    e0 := down s.e0, e1 := down s.e1
    drv := { s.drv with preset := true }
    token := { s.token with holder := none, free := false }
    epoch := { s.epoch with prep := none, held := none, job := none, restoring := false }
    bell := { s.bell with job := none }
    trans := State.reset.trans
    osc := { s.osc with hostq := [], waiting := [], retry := none, loops := [], arrived := [] }
    tap := if cause = 1 then State.reset.tap else s.tap
    sched := { s.sched with egress := [] }
    bist := { s.bist with job := none }
    jrnl := { s.jrnl with rec_ := none, orders := [], wiping := false, wipeOrd := none }
    therm := { s.therm with trip := s.therm.trip && !(decide cold), shut := s.therm.shut && !(decide cold) } }

/-- The registers that outlast a reset of codes 3 to 6 (Table START-1, R341). -/
def State.keptRegs (s : State) (regs : Tbl Word) : Tbl Word :=
  let keep (t : Tbl Word) (a : Nat) : Tbl Word := tset regReset t a (s.reg a)
  keep (keep regs Reg.DEV_RESET_CNT) Reg.THM_TRIP_CNT

/-- A plane right after a reset (R202): in START where it has power, which it loses only below 10.8 V (R175, R390). -/
def PlaneRec.anew (p : PlaneRec) : PlaneRec :=
  { State.reset.pla with st := if p.pg then .start else .off, valid := p.valid, pg := p.pg }

/-- A port right after a reset of a cause: its line stays, everything else returns to its reset value (R306, R365). -/
def LinkPort.restart (l : LinkPort) : LinkPort :=
  { State.reset.e0 with
    blockLock := l.blockLock, fecAlign := l.fecAlign, hiBer := l.hiBer, link := l.link, since := l.since.map fun _ => 0 }

/-- The device at the end of a reset of a cause: what R364, R366 and the start-up sections keep, and reset values for all
else. -/
def State.restart (s : State) (cause : Nat) : State :=
  let cold := cause = 1 ∨ cause = 2
  let mem := s.mem.filter fun c => decide (jrnlBase ≤ c.1 ∧ c.1 < jrnlEnd)
  let regs := tset regReset [] Reg.JRNL_AUTO_RESTORE (autoRestoreReset mem)
  { State.reset with
    mem := mem
    fuse := s.fuse
    regs := if cold then regs else s.keptRegs regs
    drv := { State.reset.drv with nclrLow := s.drv.nclrLow }
    pla := s.pla.anew
    plb := s.plb.anew
    safe := { State.reset.safe with pin := s.safe.pin }
    therm := { State.reset.therm with
      peak := if cold then State.reset.therm.peak else s.therm.peak
      tripped := !(decide cold) && s.therm.tripped
      restarted := decide (cause = 4) }
    dev := { State.reset.dev with
      cause := cause, lifeBits := s.dev.lifeBits, marker := s.dev.marker, state := s.dev.stateAfter cause }
    jrnl := { State.reset.jrnl with wiping := decide (5 ≤ s.dev.marker) }
    tap := s.tap
    e0 := s.e0.restart
    e1 := s.e1.restart
    chain := if cold ∨ cause = 5 then State.reset.chain else { s.chain with queue := [], dropped := 0, withheld := [] }
    sent := s.sent
    pending := s.pending }

/-- A reset ends once none is in force any more; nCLR and nSAFE_HOLD are evaluated afresh (R173, R202, R364, R393). -/
def State.leaveReset (s : State) : State :=
  match s.dev.inReset with
  | none => s
  | some cause =>
    if s.dev.softFrom.isSome ∨ (s.pla.valid = false ∧ s.plb.valid = false) ∨ s.dev.nresetLow ∨ s.therm.trip then s
    else
      let s := s.restart cause
      let s := if s.dev.state = 2 then s.enterHoldState else s
      let s := if s.drv.nclrLow then (s.count Reg.DRV_NCLR_CNT).clearEnter 1 else s
      s.safeCheck

/-- NRESET_FALL: nRESET is recognised low. -/
def State.nresetFall (s : State) : State :=
  if s.dev.nresetLow then s else (s.updDev fun d => { d with nresetLow := true }).beginReset 2

/-- NRESET_RISE: nRESET is recognised high. -/
def State.nresetRise (s : State) : State := (s.updDev fun d => { d with nresetLow := false }).leaveReset

/-- RESET_END: 10 µs after a reset of code 3, 5 or 6 began. -/
def State.resetEnd (s : State) : State :=
  match s.dev.softFrom with
  | none => s
  | some t => if t + us 10 ≤ s.elapsed then (s.updDev fun d => { d with softFrom := none }).leaveReset else s

/-- FEED_VALID: a feed has been at or above 11.4 V for 1 ms (R175, R191), and a plane that was off starts, its converters after
its rings (R154). The first one ends a power-on reset. -/
def State.feedValid (s : State) (pl : Plane) : State :=
  if (s.plane pl).valid then s
  else if s.dev.inReset.isSome then (s.updPlane pl fun p => { p with valid := true, pg := true }).leaveReset
  else
    let s := (s.feedEvent pl true).updPlane pl fun p => { p with pg := true }
    if (s.plane pl).st = .off then
      (s.updPlane pl fun p => { p with st := .start, rung := false }).updConv fun c => c.stop pl
    else s

/-- Neither feed valid begins a power-on reset, once for each such loss (R364). -/
def State.powerCheck (s : State) : State :=
  let off : Bool := !s.pla.valid && !s.plb.valid
  if off = s.dev.unpowered then s
  else
    let s := s.updDev fun d => { d with unpowered := off }
    if off then s.beginReset 1 else s

/-- FEED_INVALID: a feed falls below 11.2 V (R175). -/
def State.feedInvalid (s : State) (pl : Plane) : State :=
  if (s.plane pl).valid = false then s
  else if s.dev.inReset.isSome then (s.updPlane pl fun p => { p with valid := false }).powerCheck
  else (s.feedEvent pl false).powerCheck

/-- A plane loses its feed during a reset. -/
def State.feedLostInReset (s : State) (pl : Plane) : State :=
  (s.updPlane pl fun p => { p with valid := false, pg := false }).powerCheck

/-- nCLR and nSAFE_HOLD during a reset: their levels are noted, and evaluated at its end (R393). -/
def State.nclrInReset (s : State) (low : Bool) : State := { s with drv := { s.drv with nclrLow := low } }
def State.nsafeInReset (s : State) (low : Bool) : State := { s with safe := { s.safe with pin := low } }

end Sys2Proof.Machine
end

