-- ==== Sys2Proof/Machine/Thermal.lean ====
section
/-!
DEFINITION. Temperature and Power Management (R326 to R341): samples and levels, the rate-of-rise condition, throttling, the
power limit, the release of BULK circuits, shutdown and restart.
-/

namespace Sys2Proof.Machine

/-- The state with f applied to the temperature record. -/
def State.updTherm (s : State) (f : ThermSt → ThermSt) : State := { s with therm := f s.therm }

/-! ### Levels (R327, R328) -/

/-- LEVEL of a level register in 1/16 °C, and LEVEL − HYST. -/
def levelOf (w : Word) : Int := sx 16 (fld w 15 0)
def releaseOf (w : Word) : Int := levelOf w - 16 * fld w 20 16

/-- THM_LEVEL_WRITE (R328). -/
def State.levelWrite (s : State) (lvl : ThmLevel) (v : Word) : State × Nat :=
  let v := v &&& 0x1FFFFF
  let warn := if lvl = .warn then v else s.reg Reg.THM_WARN
  let thr := if lvl = .throttle then v else s.reg Reg.THM_THROTTLE
  let shut := if lvl = .shutdown then
      w32 (at_ 20 16 (max (fld v 20 16) 10) + (if 2080 < levelOf v then 2080 else fld v 15 0))
    else s.reg Reg.THM_SHUTDOWN
  if levelOf warn < levelOf thr ∧ levelOf thr < levelOf shut then
    (match lvl with
      | .warn => s.setReg Reg.THM_WARN warn
      | .throttle => s.setReg Reg.THM_THROTTLE thr
      | .shutdown => s.setReg Reg.THM_SHUTDOWN shut, cDONE)
  else (s, cBADARG)

/-- The thermal state: 0 NORMAL, 1 WARN, 2 THROTTLE, 3 SHUTDOWN (R327). -/
def ThermSt.state (t : ThermSt) : Nat := if t.shut then 3 else if t.thr then 2 else if t.warn then 1 else 0

/-- One level's counts at a valid sample v: active, samples at or above LEVEL in a row, samples below LEVEL − HYST in a row. -/
def levelStep (w : Word) (v : Int) (active : Bool) (up dn : Nat) : Bool × Nat × Nat :=
  let up := if levelOf w ≤ v then up + 1 else 0
  let dn := if v < releaseOf w then dn + 1 else 0
  (if active then decide (dn < 8) else decide (8 ≤ up), min up 8, min dn 8)

/-- A valid sample meets the three levels; SHUTDOWN only becomes active here (R337). WARN_CNT and THROTTLE_CNT count at a
change of state (R327). -/
def State.levels (s : State) (v : Int) : State :=
  let t := s.therm
  let w := levelStep (s.reg Reg.THM_WARN) v t.warn t.wUp t.wDn
  let h := levelStep (s.reg Reg.THM_THROTTLE) v t.thr t.tUp t.tDn
  let u := levelStep (s.reg Reg.THM_SHUTDOWN) v false t.sUp 0
  let s := s.updTherm fun t => { t with
    warn := w.1, wUp := w.2.1, wDn := w.2.2, thr := h.1, tUp := h.2.1, tDn := h.2.2, shut := t.shut || u.1, sUp := u.2.1 }
  if s.therm.state = t.state then s
  else
    let s := if w.1 && !t.warn then s.count Reg.THM_WARN_CNT else s
    let s := if h.1 && !t.thr then s.count Reg.THM_THROTTLE_CNT else s
    let s := s.cause 0x03 0
    if s.rb Reg.THM_CFG 0 then s.event 0x03 0x4000 [w32 s.therm.state, i32 v] else s

/-! ### Throttling (R330 to R332) -/

/-- The style PWR.CFG.MODE selects: LARGE or not (R330). -/
def State.styleLarge (s : State) : Bool :=
  match s.rf Reg.PWR_CFG 1 0 with
  | 1 => false
  | 2 => true
  | _ => decide (16 ≤ s.chain.count)

/-- Does throttling apply: THROTTLE or SHUTDOWN active, or SFAULT (R331, R332)? -/
def ThermSt.throttled (t : ThermSt) : Bool := t.shut || t.thr || t.sfault

/-- A change of the power limit is reported (R332); at 70 W, SHORT ends (R335). -/
def State.setLimit (s : State) (w : Nat) : State :=
  if s.therm.limit = w then s
  else
    let s := (s.updTherm fun t => { t with limit := w, short := t.short && w != 70 }).cause 0x02 0
    if s.rb Reg.PWR_CFG 2 then s.event 0x02 0x4100 (pay [w]) else s

/-- F and N in the style in force (R331, R332). -/
def State.formFN (s : State) : State :=
  let t := s.therm
  let rise : Int := if t.sfault then 160 else t.temp - levelOf (s.reg Reg.THM_THROTTLE)
  let f : Int := if t.large = false ∧ t.throttled then clampI 26 256 (256 - tdiv (rise * 256) 160) else 256
  let n : Int := if t.large then 4352 * ((t.limit : Int) - 40) / 30 else 4352 * f / 256
  s.updTherm fun t => { t with f := f.toNat, n := (max 1 n).toNat }

/-- The style and the power limit's phase at a sample (R330, R332); in the small style the limit is 70 W (assumption log
42). -/
def State.throttle (s : State) : State :=
  let large := s.styleLarge
  let low := s.therm.throttled
  let now := s.elapsed
  let sec := us 1000000
  let from_ := if low != s.therm.low then now
    else if large && !s.therm.large then now - (now - s.therm.limitAt) % (if low then sec else 5 * sec) else s.therm.limitAt
  let s := s.updTherm fun t => { t with large := large, low := low, limitAt := from_ }
  (if large then s else s.setLimit 70).formFN

/-- PWR_LIMIT: 2 W down at each full second while throttling applies, 2 W up at each full 5 s after it (R332). -/
def State.powerStep (s : State) : State :=
  let t := s.therm
  let sec := us 1000000
  if t.large = false then s
  else if t.low then
    if s.elapsed < t.limitAt + sec then s
    else ((s.updTherm fun t => { t with limitAt := t.limitAt + sec }).setLimit (max 40 (t.limit - 2))).formFN
  else if s.elapsed < t.limitAt + 5 * sec then s
  else ((s.updTherm fun t => { t with limitAt := t.limitAt + 5 * sec }).setLimit (min 70 (t.limit + 2))).formFN

/-! ### Rate of rise (R333) -/

/-- The rate-of-rise condition changes. -/
def State.rateCond (s : State) (b : Bool) : State :=
  let s := (s.updTherm fun t => { t with rate := b, rUp := 0, rDn := 0 }).cause 0x03 1
  if s.rb Reg.THM_CFG 0 then s.event 0x03 0x4001 (pay [if b then 1 else 0]) else s

/-- Sum of a list of samples. -/
def sumI (l : List Int) : Int := l.foldl (· + ·) 0

/-- RISE over the latest samples, none while too few exist (assumption log 43). -/
def riseOf (win : Nat) (l : List Int) : Option Int :=
  if l.length < win + 8 ∨ win = 0 then none
  else some (tdiv ((sumI (l.take 8) - sumI ((l.drop win).take 8)) * 1000) (8 * win))

/-- A valid sample's RISE and the condition. -/
def State.rateStep (s : State) : State :=
  let w := s.reg Reg.THM_RATE_RISE
  match riseOf (fld w 25 16) s.therm.samples with
  | none => s
  | some r =>
    let s := s.updTherm fun t => { t with rise := r }
    if bit w 31 = false then s
    else
      let lim : Int := fld w 11 0
      let up := if lim < r then s.therm.rUp + 1 else 0
      let dn := if r ≤ lim * 3 / 4 then s.therm.rDn + 1 else 0
      if s.therm.rate = false ∧ 8 ≤ up then s.rateCond true
      else if s.therm.rate ∧ 8 ≤ dn then s.rateCond false
      else s.updTherm fun t => { t with rUp := min up 8, rDn := min dn 8 }

/-- A write of THM.RATE_RISE: WIN_MS is stored within 100 to 1,000 (Table THM-3); with EN = 0 the condition ends. -/
def State.rateWrite (s : State) (v : Word) : State :=
  let win := max 100 (min 1000 (fld v 25 16))
  let s := s.setReg Reg.THM_RATE_RISE (w32 (flag 31 (bit v 31) + at_ 25 16 win + fld v 11 0))
  if bit v 31 = false then
    if s.therm.rate then s.rateCond false else s.updTherm fun t => { t with rUp := 0, rDn := 0 }
  else s

/-! ### Samples (R326, R327, R329, R337) -/

/-- Is a sample valid (R326)? -/
def validSample (x : Option Int) : Option Int := x.filter fun v => decide (-960 ≤ v ∧ v ≤ 2560)

/-- What every valid sample does: TEMP, PEAK and the samples RISE is formed from. -/
def State.noteSample (s : State) (v : Int) : State :=
  s.updTherm fun t => { t with temp := v, peak := max t.peak v, samples := (v :: t.samples).take 1008 }

/-- SHUTDOWN has become active: Table THM-2. -/
def State.shutdown (s : State) : State :=
  let s := (s.count Reg.THM_TRIP_CNT).updTherm fun t => { t with tripped := true, trip := true, cool := 0 }
  (s.event 0x03 0x4002 []).beginReset 4

/-- An invalid sample (R326, R329). -/
def State.badSample (s : State) : State :=
  let s := s.updTherm fun t => { t with bad := min (t.bad + 1) 8, good := 0 }
  if 8 ≤ s.therm.bad ∧ s.therm.sfault = false then
    ((s.updTherm fun t => { t with sfault := true }).cause 0x03 2).event 0x03 0x4003 []
  else s

/-- A valid sample; level counts are frozen while SFAULT stands (R329). -/
def State.goodSample (s : State) (v : Int) : State :=
  let frozen := s.therm.sfault
  let s := (s.noteSample v).updTherm fun t => { t with bad := 0, good := min (t.good + 1) 8 }
  let s := if 8 ≤ s.therm.good then s.updTherm fun t => { t with sfault := false } else s
  (if frozen then s else s.levels v).rateStep

/-- Sensor and thermal state meet a sample. -/
def State.meet (s : State) (x : Option Int) : State :=
  match x with
  | some v => s.goodSample v
  | none => s.badSample

/-- A sample during thermal shutdown: sensor and thermal state go on (Table THM-2), and 1,000 valid samples in a row below
SHUTDOWN.LEVEL − HYST end it (R337). -/
def State.coolSample (s : State) (x : Option Int) : State :=
  let low := match x with
    | some v => decide (v < releaseOf (s.reg Reg.THM_SHUTDOWN))
    | none => false
  let s := (s.meet x).updTherm fun t => { t with cool := if low then t.cool + 1 else 0 }
  if 1000 ≤ s.therm.cool then (s.updTherm fun t => { t with trip := false }).leaveReset else s

/-! ### Heater power -/

/-- Heater power of an element's drive code, in units of 5 mW / 2^32 (R159). -/
def State.heaterPower (s : State) (e : Nat) : Nat :=
  let c := s.driveCode s.lead e
  c * c * (if s.range2 (tileOf e) then 4 else 1)

/-- What PWR.HEATER shows of all heaters, in 10 mW (Table PWR-1); the presets leave every heater without current (R167). -/
def State.heaterSum (s : State) : Nat :=
  if s.drv.preset then 0 else ((List.range 8704).map s.heaterPower).foldl (· + ·) 0 / 2 ^ 33

/-- TEMP_SAMPLE: the die temperature, and the reading of PWR.NOW (R326, R340). Sampling starts at the end of reset (R341)
and goes on in a thermal shutdown (R337). -/
def State.tempSample (s : State) (x : Option Int) (power : Nat) : State :=
  let x := validSample x
  let note (s : State) : State := s.updTherm fun t => { t with now := min power 0xFFFF, heater := min s.heaterSum 0xFFFF }
  if s.therm.trip then (note s).coolSample x
  else if s.dev.inReset.isSome then s
  else
    let s := ((note s).meet x).throttle
    if s.therm.shut then s.shutdown else s

/-! ### Releasing BULK circuits (R335, R336) -/

/-- The heater power whose 1.25-fold is a circuit's credit: the elements of the cells only it passes. -/
def State.credit (s : State) (c : Circuit) : Nat :=
  let others := s.epoch.active.without c.out
  let own := (c.path.map fun h => h.cell).filter fun x => (others.hopIn x).isNone
  (own.map fun x => s.heaterPower (swOf x) + s.heaterPower (trOf x)).foldl (· + ·) 0

/-- Outputs marked in ascending order until their credits reach the excess, in 10 mW; whether they do. -/
def markUpTo (excess : Nat) : Nat → List (Nat × Nat) → List Nat × Bool
  | sum, [] => ([], decide (excess * 8 * 2 ^ 32 ≤ 5 * sum))
  | sum, (q, p) :: t =>
    if excess * 8 * 2 ^ 32 ≤ 5 * sum then ([], true)
    else
      let r := markUpTo excess (sum + p) t
      (q :: r.1, r.2)

/-- BULK_EVALUATION with the reading of PWR.NOW (R335). An evaluation that finds an excess marks afresh, also while circuits
it marked before still wait (assumption log 44). -/
def State.bulkEvaluation (s : State) (power : Nat) : State :=
  let s := s.updTherm fun t => { t with now := min power 0xFFFF }
  let t := s.therm
  if 70 ≤ t.limit then s
  else if t.skip then s.updTherm fun t => { t with skip := false }
  else if t.now ≤ 100 * t.limit then s
  else
    let bulk := (s.epoch.active.filter fun c => c.cls == 2).map fun c => (c.out, s.credit c)
    let r := markUpTo (t.now - 100 * t.limit) 0 bulk
    let s := s.updTherm fun t => { t with marks := r.1 }
    if r.2 then s
    else
      let s := (s.updTherm fun t => { t with short := true }).cause 0x02 2
      if t.short = false ∧ s.rb Reg.PWR_CFG 2 then s.event 0x02 0x4102 [] else s

/-- A map without the marked circuits: the circuit of the same output from the same input (R336). -/
def releaseFrom (m : CMap) (gone : CMap) : CMap :=
  m.filter fun c => !(gone.any fun g => g.out == c.out && g.inp == c.inp)

/-- Has a solve that has ended covered the request? The fresh requests of a solve that runs wait for its end (R52, R58). -/
def Bell.solved (b : Bell) (r : Req) : Bool :=
  r.covered && !(b.job.any fun (j : SolveJob) => j.fresh.contains (r.src, r.seq))

/-- Listed requests are settled (R65) and those solved before are solved again against the new base (R45, R336), or without
those the settlement discarded (R66). -/
def State.resolve (s : State) : State :=
  if s.bell.list.any s.bell.solved then
    let b := s.bell
    let s := s.settle
    if (b.applied.filter b.solved).isEmpty && s.bell.base == b.base then s
    else
      let (m, outs) := solveIncrMap s.epoch.active s.bell.base (s.bell.applied.filter s.bell.solved)
      let s := outs.foldl State.noteOut { s with bell := { s.bell with stg := m } }
      s.report 1 (outs.any fun x => x.fellBack) (s.bell.list.filter s.bell.solved).length
        (outs.filter fun x => x.reason != 0).length 0
  else s

/-- BULK_RELEASE (R336). -/
def State.bulkRelease (s : State) : State :=
  let marks := s.therm.marks
  if marks = [] ∨ s.trans.running ∨ s.epoch.prep.isSome then s
  else
    let old := s.epoch.active
    let gone := old.filter fun c => marks.contains c.out
    let m := old.filter fun c => !(marks.contains c.out)
    let s := s.moveCells old m false []
    let s := { s with
      epoch := { s.epoch with active := m }
      bell := { s.bell with
        base := releaseFrom s.bell.base gone
        stg := releaseFrom s.bell.stg gone
        fulls := s.bell.fulls.map fun (f : FullSolve) => { f with base := releaseFrom f.base gone } } }
    let s := s.resolve
    let s := s.updTherm fun t => { t with marks := [], skip := true }
    let s := s.startTransition old
    gone.foldl (fun s c =>
      let s := (s.count Reg.PWR_RELEASE_CNT).setReg Reg.PWR_LAST_RELEASE (w32 (2 ^ 31 + at_ 8 0 c.out))
      let s := s.cause 0x02 1
      if s.rb Reg.PWR_CFG 2 then s.event 0x02 0x4101 (pay [c.out]) else s) s

/-- PWR_MODE_WRITE (R340). -/
def State.modeWrite (s : State) (v : Word) : State × Nat :=
  if fld v 1 0 = 3 then (s, cBADARG) else (s.setReg Reg.PWR_CFG (v &&& 7), cDONE)

end Sys2Proof.Machine
end

