-- ==== Sys2Proof/Machine/Bist.lean ====
section
/-!
DEFINITION. Self-Test and Calibration (R342 to R363): slices, their verdicts and signature, runs and their outcome, failures
of a plane, RUN, the load of the fuse shadow and its checks; and MASTER_RESET of the matrix (R302, R305).
-/

namespace Sys2Proof.Machine

/-! ### State of a plane's self-test -/

/-- A plane's self-test, and the state with f applied to it. -/
def State.bistOf (s : State) : Plane → BistPlane
  | .a => s.bist.a
  | .b => s.bist.b
def State.updBist (s : State) (pl : Plane) (f : BistPlane → BistPlane) : State :=
  match pl with
  | .a => { s with bist := { s.bist with a := f s.bist.a } }
  | .b => { s with bist := { s.bist with b := f s.bist.b } }
def State.setJob (s : State) (j : Option BistJob) : State := { s with bist := { s.bist with job := j } }

/-- The RUN that runs on a plane. -/
def State.jobOf (s : State) (pl : Plane) : Option BistJob := s.bist.job.filter fun j => j.pl == pl

/-- A run of a type begins (R349). -/
def BistPlane.begin_ (b : BistPlane) (ty : Nat) : BistPlane :=
  { b with ty := ty, tile := 0, crc := 0xFFFFFFFF, aborted := false, failed := false }

/-- A plane's self-test without values of a slice. -/
def BistPlane.fresh (b : BistPlane) : BistPlane := { b with got := [], loops := [], turn := none, lim := false }

/-- An event of page BIST, if enabled. -/
def State.bistEvent (s : State) (code : Nat) (p : List Nat) : State :=
  if s.rb Reg.BIST_CFG 2 then s.event 0x07 code (pay p) else s

/-! ### Verdicts (R343, R344, R347) -/

/-- Is a DARK check of monitor m not applicable: a cell not in PARK, an input port, or an output whose VOA is not blanked? -/
def State.darkSkips (s : State) (m : Nat) : Bool :=
  if m < 8704 then s.actCell (m / 2) != .park
  else if m < 9216 then true
  else !(s.drv.preset || s.outCode m == s.parkedDrive m)

/-- Is a HEATER check of element e not applicable? -/
def State.heaterSkips (s : State) (e : Nat) : Bool :=
  s.actCell (e / 2) != .park || s.effWarm (e / 2) || s.token.holder.isNone || decide (20 * s.parkedDrive e < 65536)

/-- Is an element excluded from a DAC check on the active plane (R347)? -/
def State.dacSkips (s : State) (pl : Plane) (e : Nat) : Bool :=
  s.token.holder == some pl && ((elType e == 1 && s.elAmp e != 0) || decide (s.updPeriod e < 6))

/-- The result of check k of a CONV or DARK slice for a value v of R142 (Table BIST-2): CONV checks in the order converter,
gain, reference. -/
def State.judgeValue (s : State) (ty t k : Nat) (v : Int) : Nat :=
  if ty = 0 then
    let g : Int := 2 ^ (k % 12 / 3)
    if k % 3 = 0 then (if 200 * (v * g - 245760).natAbs ≤ 245760 then 0 else 0x01)
    else if k % 3 = 1 then (if 200 * (v * g - 16384).natAbs ≤ 16384 then 0 else 0x02)
    else if v.natAbs ≤ 128 then 0 else 0x03
  else
    let m := elemAt t k
    if s.darkSkips m ∨ -64 ≤ v - 16 * monOffset s.fuse m then 0 else 0x20

/-- The result of a HEATER check for a resistance in mΩ (Table BIST-2). -/
def ohmCode (m : Nat) : Nat := if 880000 < m then 0x30 else if m < 720000 then 0x31 else 0

/-- The result of check k of a slice for one reading: 0 for pass or not applicable, else its failure code (Table BIST-2). -/
def State.judge (s : State) (pl : Plane) (ty t k : Nat) (r : CheckReading) : Nat :=
  let e := elemAt t k
  match ty, r with
  | 0, .conv raw => s.judgeValue 0 t k (s.convValue pl t (k / 12) (k % 12 / 3) raw)
  | 1, .dac a b c sc =>
    if s.dacSkips pl e then 0
    else if a.natAbs ≤ 100 ∧ b.natAbs ≤ 100 ∧ c.natAbs ≤ 100 then (if sc then 0x11 else 0) else 0x10
  | 2, .dark raw => s.judgeValue 2 t k (s.convValue pl t 0 3 raw)
  | 3, .heater m => if s.heaterSkips e then 0 else ohmCode m
  | _, _ => 0

/-- Channel and gain of the conversion that check k of a slice makes on the converter that serves injections (R147, Table
BIST-1): the references on converter 0, and a monitor at ×8. -/
def checkConv (ty k : Nat) : Option (Nat × Nat) :=
  if ty = 0 ∧ k < 12 then some (if k % 3 = 0 then 16 else if k % 3 = 1 then 17 else 19, k % 12 / 3)
  else if ty = 2 then some (k, 3)
  else none

/-- The results of check k in the order they came: of the values the slice's conversions delivered, or, where no command told
them apart, of the readings the slice ends with, the second one of a repeat (assumption log 135). -/
def State.results (s : State) (pl : Plane) (ty t k : Nat) (l again : List CheckReading) : List Nat :=
  let got := match checkConv ty k with
    | some (ch, g) => (s.bistOf pl).got.filter fun x => x.1 == ch && x.2.1 == g
    | none => []
  if got = [] then [s.judge pl ty t k (l.getD k .none), s.judge pl ty t k (again.getD k .none)]
  else got.map fun x => s.judgeValue ty t k x.2.2

/-- A failing check is repeated once, and then only its second result counts (R344). -/
def settled : List Nat → Nat
  | [] => 0
  | [a] => a
  | a :: b :: _ => if a = 0 then 0 else b

/-- Checks of a slice (Table BIST-1). -/
def checksOf (ty : Nat) : Nat := if ty = 0 then 24 else 16

/-! ### Checks read through LOOPBACK (Tables BIST-1 and BIST-2) -/

/-- The three test codes of a DAC check. -/
def dacCodes : List Nat := [0x0400, 0x8000, 0xFC00]

/-- How a type of slice reads through LOOPBACK: the values a check takes, which slots are not applicable, which can still be
taken, and the result of a slot's values. -/
structure LoopCheck where
  per : Nat
  skip : Nat → Bool
  reach : Nat → Bool
  judge : Nat → List LoopVal → Nat

/-- Can a DAC check of element e begin within the budget of the slice that runs (R347): on the active plane it waits for an
update of the element, which one in OFF never makes and any other makes PER after its latest one? -/
def State.dacReach (s : State) (pl : Plane) (e : Nat) : Bool :=
  s.token.holder != some pl || ((s.elem e).st != .off && match (s.bistOf pl).slice, (s.lp pl e).upAt with
    | some (_, _, n, t0), some u =>
      decide (s.elapsed ≤ u + ns 50) || decide (u + s.updPeriod e * 250 * nsUnit ≤ t0 + us n)
    | _, _ => true)

/-- The DAC and HEATER checks of tile t; none of the other types. A LOOPBACK value is compared with what Config.loopback has for
its code (log 158). -/
def State.loopCheck (s : State) (pl : Plane) (ty t : Nat) : Option LoopCheck :=
  if ty = 1 then some {
    per := 3
    skip := fun k => s.dacSkips pl (elemAt t k)
    reach := fun k => s.dacReach pl (elemAt t k)
    judge := fun k l =>
      let fs := s.fullScale (elemAt t k)
      let off (c : Nat) (x : LoopVal) : Bool :=
        decide ((Config.loopback fs 65536 x.gain).natAbs < 100 * (x.value - Config.loopback fs c x.gain).natAbs)
      if (dacCodes.zip l).any fun x => off x.1 x.2 then 0x10 else if l.any (·.lim) then 0x11 else 0 }
  else if ty = 3 then some {
    per := 1
    skip := fun k => s.heaterSkips (elemAt t k)
    reach := fun _ => true
    judge := fun k l =>
      let e := elemAt t k
      match l with
      | x :: _ => ohmCode (Config.nodeOhms x.value x.gain (s.fullScale e * s.parkedDrive e))
      | [] => 0 }
  else none

/-- Is the check of a slot complete with its values: passed, or repeated (R344)? -/
def LoopCheck.done (c : LoopCheck) (k : Nat) (v : List LoopVal) : Bool :=
  decide (c.per ≤ v.length) && (c.judge k (v.take c.per) == 0 || decide (2 * c.per ≤ v.length))

/-- The verdict of a slot from the LOOPBACK values of a slice, a failing check repeated once (R344); none for a check without
its values. -/
def LoopCheck.verdict (c : LoopCheck) (l : List LoopVal) (k : Nat) : Option Nat :=
  let v := l.filter fun x => x.slot == k
  if c.per ≤ v.length then
    some (if v.length < 2 * c.per ∨ c.judge k (v.take c.per) = 0 then c.judge k (v.take c.per)
      else c.judge k ((v.drop c.per).take c.per))
  else if c.skip k then some 0 else none

/-- The first slot from k on whose check is still to be taken. -/
def LoopCheck.from_ (c : LoopCheck) (k : Nat) : Option Nat :=
  (List.range 16).find? fun j => decide (k ≤ j) && !(c.skip j) && c.reach j

/-- The check whose turn it is, and how many values its present try has had: the one begun until it is complete, then the next
(R342, R344). -/
def LoopCheck.next (c : LoopCheck) (b : BistPlane) : Option (Nat × Nat) :=
  match b.turn with
  | none => (c.from_ 0).map fun k => (k, 0)
  | some k =>
    let v := b.loops.filter fun x => x.slot == k
    if c.done k v then (c.from_ (k + 1)).map fun k => (k, 0) else some (k, v.length % c.per)

/-- The verdict bytes of a slice, in slot order. -/
def State.verdicts (s : State) (pl : Plane) (ty t : Nat) (l again : List CheckReading) : List Nat :=
  let told (k : Nat) : Option Nat := (s.loopCheck pl ty t).bind fun c => c.verdict (s.bistOf pl).loops k
  (List.range (checksOf ty)).map fun k => (told k).getD (settled (s.results pl ty t k l again))

/-- Was check k of a DARK or HEATER slice applicable, and did it pass (R351)? A check without a reading is none. -/
def State.checkPassed (s : State) (pl : Plane) (ty t : Nat) (l : List CheckReading) (v : List Nat) (k : Nat) : Bool :=
  let taken := (l.getD k .none != .none) || (match checkConv ty k with
    | some (ch, g) => (s.bistOf pl).got.any fun x => x.1 == ch && x.2.1 == g
    | none => match s.loopCheck pl ty t with
      | some c => (c.verdict (s.bistOf pl).loops k).isSome
      | none => false)
  let skips := if ty = 2 then s.darkSkips (elemAt t k) else s.heaterSkips (elemAt t k)
  taken && !skips && v.getD k 0 == 0

/-! ### Signature (R349) -/

/-- One bit, and one byte, of CRC-32C. -/
def crcBit (c : BitVec 32) : BitVec 32 := if c.getLsbD 0 then (c >>> 1) ^^^ 0x82F63B78 else c >>> 1
def crcByte (c : BitVec 32) (b : Nat) : BitVec 32 :=
  let c := c ^^^ BitVec.ofNat 32 (b % 256)
  crcBit (crcBit (crcBit (crcBit (crcBit (crcBit (crcBit (crcBit c)))))))

/-- The bytes a slice contributes: its verdicts, those of DARK and HEATER as 0x00, and the fold. -/
def sliceBytes (ty t : Nat) (v : List Nat) : List Nat :=
  let i := ty * 1024 + t
  (if ty ≤ 1 then v else v.map fun _ => 0) ++ [i % 256, i / 256, 0x5C, 0xA3]

/-! ### Failures (R351, R352) -/

/-- A plane fails in operation. -/
def State.planeFails (s : State) (pl : Plane) (sig : Bool) (ty t slot code : Nat) : State :=
  let s := s.updPlane pl fun p => { p with bistFail := true }
  let a := match pl with | .a => Reg.BIST_FAIL_A | .b => Reg.BIST_FAIL_B
  let s := if s.rb a 31 then s
    else s.setReg a (w32 (2 ^ 31 + flag 30 sig + at_ 29 28 ty + at_ 27 24 slot + at_ 23 16 code + at_ 9 0 t))
  ((s.count Reg.BIST_FAIL_CNT).cause 0x07 0).bistEvent 0x8000 [planeIdx pl, ty, t, slot, code]

/-- Is a failing DARK or HEATER check this plane's own: was the other plane's latest result of it a pass (R351)? One that was
not applicable, or not taken, was none. -/
def State.ownFault (s : State) (pl : Plane) (ty t k : Nat) : Bool :=
  (tget (fun _ => none) (s.bistOf (otherPlane pl)).results (t + 608 * (ty - 2))).any fun l => l.contains k

/-- The failing checks of a slice that are the plane's own, or shared (R351). -/
def State.ownChecks (s : State) (pl : Plane) (ty t : Nat) (own : Bool) (bad : List (Nat × Nat)) : List (Nat × Nat) :=
  bad.filter fun x => (decide (ty ≤ 1) || s.ownFault pl ty t x.1) == own

/-- A shared fault is reported, in its plane's place among those of its time-stamp (R324, R351). -/
def State.sharedFault (s : State) (pl : Plane) (p : List Nat) : State :=
  let s := s.cause 0x07 3
  if s.rb Reg.BIST_CFG 2 then s.eventOf (planeIdx pl) 0x07 0x8004 7 0 s.epoch.act (pay p) else s

/-- The failing checks of a slice: shared faults are reported (R351), and in operation the first one of the plane's own fails
it (R352); in START its run fails (R353). -/
def State.judgeSlice (s : State) (pl : Plane) (ty t : Nat) (bad : List (Nat × Nat)) : State :=
  let own := s.ownChecks pl ty t true bad
  let s := (s.ownChecks pl ty t false bad).foldl (fun s x => s.sharedFault pl [elemAt t x.1, x.2]) s
  match own with
  | [] => s
  | x :: _ => if (s.plane pl).st = .start then s else s.planeFails pl false ty t (x.1 % 16) x.2

/-! ### Runs (R350, R355) -/

/-- The tiles of a type, from tile t on (Table BIST-1). -/
def tilesFrom (ty t : Nat) : Option Nat :=
  (List.range 608).find? fun k => decide (t ≤ k) && (ty != 3 || !(portTile k))

/-- RUN completes with a code (R355): INT_CAUSE bit 1 and event 0x8001 RUN_DONE with the code. -/
def State.runDone (s : State) (code : Nat) (o : Order) : State :=
  ((s.cause 0x07 1).bistEvent 0x8001 [code]).complete 0x07 1 code o

/-- The RUN on a plane ends one of its runs with an outcome (0 PASS, 1 INCOMPLETE, 2 FAIL); the last one completes it. -/
def State.jobNext (s : State) (pl : Plane) (outcome : Nat) : State :=
  match s.jobOf pl with
  | none => s
  | some j =>
    let j := { j with runs := j.runs.drop 1, failed := j.failed || outcome == 2, incomplete := j.incomplete || outcome == 1 }
    match j.runs with
    | ty :: _ => (s.setJob (some j)).updBist pl fun b => b.begin_ ty
    | [] =>
      let code := if j.failed then cREFUSED else if j.incomplete then cABORTED else cDONE
      ((s.setJob none).updBist pl fun b => b.begin_ 0).runDone code j.ord

/-- The run that follows one that ended: of the RUN, the next type of the cycle, or in START the same one again after an
INCOMPLETE one, up to three times; a run of START that fails, or stays incomplete, fails the plane (R353); after the last type
START goes on with SELF_CAL (R191). -/
def State.nextRun (s : State) (pl : Plane) (outcome : Nat) : State :=
  if (s.jobOf pl).isSome then s.jobNext pl outcome
  else
    let start := (s.plane pl).st == .start
    let again := start && outcome == 1 && decide ((s.bistOf pl).reps < 3)
    if start ∧ again = false ∧ outcome ≠ 0 then s.planeStartDone pl false
    else
      let s := if start ∧ again = false ∧ (s.bistOf pl).ty = 3 then s.calStart pl else s
      s.updBist pl fun b =>
        if again then { b.begin_ b.ty with reps := b.reps + 1 }
        else { b.begin_ ((b.ty + 1) % 4) with reps := 0, started := if start then b.started + 1 else b.started }

/-- A run ends and is evaluated (R349, R350). -/
def State.endRun (s : State) (pl : Plane) : State :=
  let b := s.bistOf pl
  let sig := (b.crc ^^^ 0xFFFFFFFF).toNat
  let s := s.setReg (match pl with | .a => Reg.BIST_SIG_A | .b => Reg.BIST_SIG_B) (w32 sig)
  let clear (s : State) : State := s.updBist pl fun b => { b with starve := 0, starves := tset (fun _ => 0) b.starves b.ty 0 }
  let start := (s.plane pl).st == .start
  if sig = expectedSig s.fuse b.ty then (clear s).nextRun pl (if start ∧ b.failed then 2 else 0)
  else if b.aborted then
    let n := tget (fun _ => 0) b.starves b.ty + 1
    let s := s.updBist pl fun b => { b with starve := min (b.starve + 1) 255, starves := tset (fun _ => 0) b.starves b.ty n }
    let s := if n = 8 then (s.cause 0x07 2).bistEvent 0x8002 [planeIdx pl, b.ty] else s
    s.nextRun pl 1
  else
    let s := clear s
    let s := if start then s else s.planeFails pl (!b.failed) b.ty 0 0 0
    s.nextRun pl 2

/-- What a slice saved is restored, in settle rounds too: the sequence position of its tile's pair and its mode (R345, R348).
The DAC input codes return with the end of the slice, since they are formed from the state (R158) and a slice's test codes
stand only while it runs (State.dacTest). -/
def State.restoreTile (s : State) (pl : Plane) (t : Nat) : State :=
  match (s.bistOf pl).saved with
  | none => s
  | some (ptr, mode) => s.updPair pl t fun p => { p with
      ptr := if ptr < (p.inForce t).2.length then ptr else p.ptr
      pass := p.pass.map fun q => (mode, q.2) }

/-- The slice of type ty on tile t is over: the tile is restored, and the run goes on with the next tile, or ends. -/
def State.passTile (s : State) (pl : Plane) (ty t : Nat) : State :=
  let s := s.restoreTile pl t
  let s := s.updBist pl fun b => { b with slice := none, endAt := some s.elapsed, saved := none }.fresh
  let b := s.bistOf pl
  if b.ty ≠ ty ∨ b.tile ≠ t then s
  else match tilesFrom ty (t + 1) with
    | some k => s.updBist pl fun b => { b with tile := k }
    | none => s.endRun pl

/-! ### Slices (R345, R346, R348) -/

/-- Do the conditions of R346 let the plane that holds the token start a slice in tile t? -/
def State.activeMayTest (s : State) (pl : Plane) (t : Nat) : Bool :=
  let b := s.bistOf pl
  let gap := match b.endAt with
    | some x => decide (x + us (s.rf Reg.BIST_CFG 31 16) ≤ s.elapsed)
    | none => true
  gap && !s.trans.running && !s.safe.active && !s.drv.nclrLow && s.token.holder == some pl && !(s.calibrates pl)
    && !(s.pair pl t).rounds && (List.range 16).all fun k =>
      let st := (s.elem (elemAt t k)).st
      st != .kick && st != .settle

/-- May a plane start a slice in tile t? In START each type is run once (R353), after its rings are calibrated (R191). -/
def State.mayTest (s : State) (pl : Plane) (t : Nat) : Bool :=
  let job := (s.jobOf pl).isSome
  match (s.plane pl).st with
  | .start => (s.plane pl).rung && decide ((s.bistOf pl).started < 4)
  | .standby => job || s.rb Reg.BIST_CFG 1
  | .active => (job || s.rb Reg.BIST_CFG 0) && s.activeMayTest pl t
  | _ => false

/-- SLICE_START (R346): the next slice of the plane's run, type 3 first passing over the port tiles; it saves the position
and mode of its tile's pair (R345). -/
def State.sliceStart (s : State) (pl : Plane) : State :=
  let b := s.bistOf pl
  match b.slice, tilesFrom b.ty b.tile with
  | none, some t =>
    if s.mayTest pl t then
      s.updBist pl fun b => { b with
        tile := t, slice := some (b.ty, t, s.rf Reg.BIST_BUDGET 7 0, s.elapsed)
        saved := some ((s.pair pl t).ptr, ((s.pair pl t).inForce t).1) }.fresh
    else s
  | _, _ => s

/-- BIST.LAST_SLICE (Table BIST-7): of slices that end at one device time, the last by plane, type and tile. -/
def State.noteSlice (s : State) (pl : Plane) (aborted failed : Bool) (ty cause t : Nat) : State :=
  s.latest Reg.BIST_LAST_SLICE (4096 * planeIdx pl + 1024 * ty + t)
    (w32 (2 ^ 31 + flag 30 aborted + flag 29 failed + flag 28 (pl == .b) + at_ 27 26 ty + at_ 25 23 cause + at_ 9 0 t))

/-- The slice of a plane ends without results, aborted with a cause (R348). -/
def State.sliceDrop (s : State) (pl : Plane) (cause : Nat) : State :=
  match (s.bistOf pl).slice with
  | none => s
  | some (ty, t, _, _) =>
    let s := (s.count Reg.BIST_ABORT_CNT).noteSlice pl true false ty cause t
    let s := s.updBist pl fun b => if b.ty = ty ∧ b.tile = t then { b with aborted := true } else b
    s.passTile pl ty t

/-- The slice of a plane is aborted with a cause (R348), which resets master M7 (R302). -/
def State.sliceAbort (s : State) (pl : Plane) (cause : Nat) : State :=
  if (s.bistOf pl).slice = none then s else (s.sliceDrop pl cause).masterReset 7 (s.burstAt 7)

/-- SLICE_BUDGET_END (R348). -/
def State.sliceBudgetEnd (s : State) (pl : Plane) : State :=
  match (s.bistOf pl).slice with
  | none => s
  | some (_, _, n, t0) => if t0 + us n ≤ s.elapsed then s.sliceAbort pl 1 else s

/-- A completed slice: counts, fold, failures and results; `passed` are the slots of a DARK or HEATER slice that passed. -/
def State.sliceDone (s : State) (pl : Plane) (ty t : Nat) (v passed : List Nat) : State :=
  let bad := ((List.range v.length).zip v).filter fun x => x.2 != 0
  let s := (s.count (match pl with | .a => Reg.BIST_SLICE_CNT_A | .b => Reg.BIST_SLICE_CNT_B)).noteSlice pl false
    (bad != []) ty 0 t
  let own := s.ownChecks pl ty t true bad
  let s := s.judgeSlice pl ty t bad
  let s := s.updBist pl fun b =>
    let b := if ty ≤ 1 then b
      else { b with results := tset (fun _ => none) b.results (t + 608 * (ty - 2)) (some passed) }
    if b.ty = ty ∧ b.tile = t then { b with crc := (sliceBytes ty t v).foldl crcByte b.crc, failed := b.failed || own != [] }
    else b
  s.passTile pl ty t

/-- SLICE_END with the readings of its checks and of their repeats (R344, R345, R349); past its budget it is aborted. -/
def State.sliceEnd (s : State) (pl : Plane) (l again : List CheckReading) : State :=
  match (s.bistOf pl).slice with
  | none => s
  | some (ty, t, n, t0) =>
    if t0 + us n < s.elapsed then s.sliceAbort pl 1
    else
      let v := s.verdicts pl ty t l again
      s.sliceDone pl ty t v ((List.range 16).filter (s.checkPassed pl ty t l v))

/-- RUN (R355). -/
def State.runBist (s : State) (o : Order) (a0 a1 : Word) : State :=
  let pl : Plane := if bit a0 0 then .b else .a
  let types := (List.range 4).filter fun k => bit a0 (4 + k)
  let n := fld a1 7 0
  let st := (s.plane pl).st
  if types = [] ∨ n = 0 then s.runDone cZERO o
  else if fld a0 31 8 ≠ 0 then s.runDone cBADARG o
  else if st ≠ .active ∧ st ≠ .standby then s.runDone cLOCKED o
  else if s.bist.job.isSome then s.runDone cBUSY o
  else
    let runs := types.flatMap fun k => List.replicate n k
    (s.setJob (some ⟨o, pl, runs, false, false⟩)).updBist pl fun b => b.begin_ (runs.headD 0)

/-! ### What other happenings do to self-test (R348, R353, R355) -/

/-- The tiles a commit or release touches: elements of moving cells, and those that wave 1 will compensate, so that every
switch is closed before it begins (R348). -/
def State.movedTiles (old s : State) : List Nat :=
  let u := if s.trans.waveAt.isSome then s.waveStart else s
  ((movingCells old.epoch.active s.epoch.active).map fun c => tileOf (swOf c)) ++ u.trans.comp.map tileOf

/-- One plane's self-test after a command: aborts of causes 3 to 5, a fresh run where the plane enters START or leaves it,
and the end of a RUN whose plane left service (assumption log 46). -/
def State.followBistOn (s : State) (old : State) (pl : Plane) : State :=
  let held (x : State) : Bool := x.token.holder == some pl
  let cal (x : State) : Bool := x.conv.cal.any fun c => c.1 == pl
  let s := match (s.bistOf pl).slice with
    | none => s
    | some (_, t, _, _) =>
      if held old != held s then s.sliceAbort pl 4
      else if cal s && !(cal old) then s.sliceAbort pl 5
      else if held s && decide (old.epoch.active ≠ s.epoch.active) && (old.movedTiles s).contains t then s.sliceAbort pl 3
      else s
  let a := (old.plane pl).st
  let b := (s.plane pl).st
  let s : State := if (b = .start ∧ a ≠ .start) ∨ (a = .start ∧ b ≠ .start) then
      s.updBist pl fun x => { x.begin_ 0 with reps := 0, slice := none, saved := none, started := 0 }.fresh
    else s
  let s : State := if b = .start ∧ a ≠ .start ∧ (s.plane pl).restart.isSome then
      s.setReg (match pl with | .a => Reg.BIST_FAIL_A | .b => Reg.BIST_FAIL_B) 0
    else s
  match s.jobOf pl with
  | none => s
  | some j =>
    if b = .active ∨ b = .standby then s
    else
      let code := if j.failed then cREFUSED else cABORTED
      (s.setJob none).runDone code j.ord

/-- Both planes' self-test after a command. -/
def State.followBist (s : State) (old : State) : State := (s.followBistOn old .a).followBistOn old .b

/-! ### Fuse shadow (R356) -/

/-- FUSE.LAST_ECC; of words of one load, the last one loaded. -/
def State.lastEcc (s : State) (uncorr : Bool) (w : Nat) : State :=
  s.latest Reg.FUSE_LAST_ECC w (w32 (2 ^ 31 + flag 30 uncorr + at_ 13 0 w))

/-- FUSE_LOAD_DONE with the words found in error, 0.3 ms from the end of the reset or later (Table START-2): the shadow is
loaded, every DAC takes its clear code, though the hold cells keep their presets until a plane's switches close; an
uncorrectable word leads to BIST_HOLD (R167, R353, R356). The journal is examined in step 3 (R375, R376). -/
def State.fuseLoadDone (s : State) (corr uncorr : List (BitVec 14)) : State :=
  if s.dev.fuseOk.isSome ∨ s.dev.state = 1 ∨ s.dev.state = 3 ∨ s.elapsed < us 300 then s
  else
    let s : State := corr.foldl (fun s w => (s.count Reg.FUSE_ECC_CORR_CNT).lastEcc false w.toNat) s
    let s : State := uncorr.foldl (fun s w => (s.count Reg.FUSE_ECC_UNCORR_CNT).lastEcc true w.toNat) s
    let s : State := { s with bist := { s.bist with nCorr := corr.length } }
    let ok : Bool := uncorr == []
    let s : State := s.updDev fun d => { d with fuseOk := some ok }
    let s : State := s.updDrv fun d => { d with preset := !(s.switchesClosed .a || s.switchesClosed .b) }
    if ok then s else s.enterHoldState

/-- A read of a shadow word checks its code: a word in error is reloaded, and stays in error if the array holds it so. -/
def State.fuseRead (s : State) (w : Nat) : State :=
  match s.fuseUpset.find? fun u => u.1 == w with
  | none => s
  | some (_, false) =>
    let s := { s with fuseUpset := s.fuseUpset.filter fun u => u.1 != w }
    (((s.count Reg.FUSE_ECC_CORR_CNT).lastEcc false w).cause 0x08 0).event 0x08 0x8100 (pay [w])
  | some (_, true) =>
    let s := { s with bist := { s.bist with uncorrRun := true } }
    (((s.count Reg.FUSE_ECC_UNCORR_CNT).lastEcc true w).cause 0x08 1).event 0x08 0x8101 []

/-- The device's own reads of shadow words since the command before, by its decoders: which words it read is open, and a read
of a word without error changes nothing (R356; DESIGN CHOICE, log 159). -/
def State.deviceReads (s : State) : State :=
  if s.dev.inReset.isSome ∨ s.dev.fuseOk.isNone then s
  else (s.fuseUpset.filter fun u => Config.fuseReadByDevice u.1 s.elapsed).foldl (fun s u => s.fuseRead u.1) s

/-! ### Master resets (R302, R305) -/

/-- MASTER_RESET (R305): slices are aborted, and the named masters reset, each with the burst it is found in
(assumption log 45). -/
def State.masterResetCmd (s : State) (o : Order) (a0 : Word) (burst : Nat → Option Nat) : State :=
  let mask := fld a0 8 0
  if mask = 0 then s.complete 0x0A 1 cZERO o
  else if mask % 2 ^ 7 ≠ 0 then s.complete 0x0A 1 cBADARG o
  else
    let s := if mask.testBit 7 then (s.sliceDrop .a 6).sliceDrop .b 6 else s
    (s.each ([7, 8].filter fun m => mask.testBit m) fun s m => s.masterReset m (burst m)).complete 0x0A 1 cDONE o

end Sys2Proof.Machine
end

