-- ==== Sys2Proof/Machine/Drive.lean ====
section
/-!
DEFINITION. Element drive commands (Element Drive R160 to R163, R168 to R173): range, sine generators, deglitch holds and
short-circuit flags.
-/

namespace Sys2Proof.Machine

/-- The elements of a tile. -/
def tileElems (t : Nat) : List Nat := (List.range 16).map (elemAt t)

/-- The codes of an element's current, as recorded, in its tile's new range at the same current. -/
def HoldRec.ranged (t : Nat) (r : Bool) (k : HoldRec) : HoldRec :=
  let same (c : Nat) : Nat := if r then c / 2 else 2 * c
  if tileOf k.elem = t then { k with dac := same k.dac, out := same k.out } else k

/-- SET_RANGE (R160). While the token is in passage the hold cells keep their current, and so the codes they recorded follow
the range (R181). -/
def State.setRange (s : State) (o : Order) (a0 a1 : Word) : State :=
  let t := fld a0 9 0
  let r := bit a1 0
  if 607 < t then s.complete 0x16 1 cBADARG o
  else if s.range2 t = r then s.complete 0x16 1 cDONE o
  else if (tileElems t).any fun e => (s.elem e).st != .off then s.complete 0x16 1 cBUSY o
  else
    let s := s.updDrv fun d => { d with ranges := tset (fun _ => none) d.ranges t (some r) }
    let s := { s with token := { s.token with codes := s.token.codes.map (HoldRec.ranged t r) } }
    (s.each (tileElems t) fun s e => (s.updElem e fun x =>
      { x with lkbV := false, lkxV := false, clear := none, clearNow := none }).updLps e fun l => { l with dac := none }).complete
      0x16 1 cDONE o

/-- Each TR element of a tile begins a fresh window (R170). -/
def State.freshTr (s : State) (t : Nat) : State :=
  s.each ((tileElems t).filter fun e => elType e == 1) fun s e => s.fresh e

/-- The frequency word of a tile. -/
def State.fw (s : State) (t : Nat) : Nat := (tget sineDefault s.drv.sines t).fw

/-- A tile's sine generator goes on from a phase with a frequency word at the next tick, and its TR elements begin fresh
windows there (R170). -/
def State.setSine (s : State) (t phase fw : Nat) : State :=
  let k := s.tickNow
  match s.sineAt t k with
  | (p, k0, f) => s.updDrv fun d => { d with
      sines := tset sineDefault d.sines t ⟨phase, k + 1, fw, p, k0, f⟩
      freshAt := d.freshAt.filter (· != (t, k + 1)) ++ [(t, k + 1)] }

/-- The fresh windows of R170 that are due begin. -/
def State.freshDue (s : State) : State :=
  let due := s.drv.freshAt.filter fun x => decide (ns (50 * x.2) ≤ s.elapsed)
  (due.foldl (fun s x => s.freshTr x.1) s).updDrv fun d => { d with freshAt := d.freshAt.filter fun x => !(due.contains x) }

/-- SYNC (R170, R172). -/
def State.sync (s : State) (o : Order) (a0 a1 : Word) : State :=
  match tileRange a0 a1 with
  | .error c => s.complete 0x16 2 c o
  | .ok l => (s.each l fun s t => s.setSine t 0 (s.fwAt t (s.tickNow + 1))).complete 0x16 2 cDONE o

/-- FW_WRITE of a tile, with continuous phase (R170). -/
def State.fwWrite (s : State) (t fw : Nat) : State := s.setSine t (s.phaseAt t (s.tickNow + 1)) fw

/-- DITHER_TICK (R168): the tick of the elapsed-time counter at which every sine generator gains its FW. The phases are
functions of that counter (phaseAt), so they have advanced with the time the command brings. -/
def State.ditherTick (s : State) : State := s.freshDue

/-- DEGLITCH_HOLD_END of element e, 20 ns after its hold began: the output tracks the latest code (R161). -/
def State.holdEnd (s : State) (e : Nat) : State :=
  s.updDrv fun d => { d with holds := d.holds.filter fun h => h.elem != e || decide (s.elapsed < h.since + holdTime) }

/-- Elements whose drive may have changed between two states: those with a record, and those of a tile whose range is set. -/
def drivenElems (old s : State) : List Nat :=
  let tiles := (s.drv.ranges.filter fun x => tget (fun _ => none) old.drv.ranges x.1 != x.2).map (·.1)
  (s.touched ++ old.touched ++ tiles.flatMap tileElems).foldl (fun acc e => insN e acc) []

/-- The elements whose DAC input code on plane p differs between two states. -/
def changedElems (old s : State) (p : Plane) : List Nat := (drivenElems old s).filter fun e => old.dacCode p e != s.dacCode p e

/-- The deglitch hold that stands after a change of an element's code on plane p: one that began with the latest dither step
goes on holding what it held; else one begins where the upper 6 bits differ and none is in force (R161). -/
def newHold (old s : State) (p : Plane) (e : Nat) : Option Hold :=
  if (s.holdOf e).isSome then none
  else match old.ditherHold p e with
    | some c => some ⟨e, c, ns (50 * s.tickNow)⟩
    | none => if old.dacCode p e / 1024 = s.dacCode p e / 1024 then none else some ⟨e, old.dacCode p e, s.elapsed⟩

/-- The dither tick that falls into a deglitch hold after its beginning, with the element: the step of that tick begins no
hold of its own (R161). -/
def Hold.tickInside (h : Hold) : Option (Nat × Nat) :=
  let k := tickOf (h.since + holdTime - 1)
  if tickOf h.since < k then some (h.elem, k) else none

/-- Deglitch holds that a command begins or meets: the DAC code of the token plane changes (R161). With the change an element
has passed the latest tick: no hold of that tick's dither step begins later. -/
def State.noteHolds (old s : State) : State :=
  match old.token.holder, s.token.holder with
  | some p, some q =>
    if p ≠ q then s
    else
      let changed := changedElems old s p
      let new := changed.filterMap (newHold old s p)
      if changed = [] then s
      else s.updDrv fun d => { d with
        holds := (d.holds.filter fun h => !(new.any fun x => x.elem == h.elem)) ++ new
        passed := (d.passed.filter fun x => decide (s.tickNow ≤ x.2)) ++ changed.map (fun e => (e, s.tickNow))
          ++ new.filterMap Hold.tickInside }
  | _, _ => s

/-- What an SC flag that sets leads to: FAULT on the plane that holds the token, a defect on one in STANDBY (R162). -/
def State.scEffect (s : State) (pl : Plane) (e : Nat) : State :=
  if s.token.holder = some pl then
    if (s.elem e).st.regulates then s.enterFault e 1 else s
  else if (s.plane pl).st = .standby then s.updPlane pl fun p => { p with sc := true }
  else s

/-- An SC flag sets and is counted (Table DRV-9). -/
def State.setSc (s : State) (pl : Plane) (e : Nat) : State :=
  match pl with
  | .a => (s.updDrv fun d => { d with scA := insN e d.scA }).count Reg.DRV_SC_CNT_A
  | .b => (s.updDrv fun d => { d with scB := insN e d.scB }).count Reg.DRV_SC_CNT_B

/-- The record, cause and event of an SC flag (R162). -/
def State.noteSc (s : State) (pl : Plane) (e : Nat) : State :=
  let s := (s.latest Reg.DRV_LAST_SC (2 * e + planeIdx pl) (w32 (2 ^ 31 + flag 24 (pl == .b) + at_ 13 0 e))).cause 0x16 0
  if s.rb Reg.DRV_CFG 0 then s.event 0x16 0x2300 (pay [e, planeIdx pl]) else s

/-- DRV_SC: a limiter of a plane's DAC has been active for 200 ns (R162). -/
def State.drvSc (s : State) (pl : Plane) (e : Nat) : State :=
  if (s.plane pl).pg = false ∨ s.scFlag pl e then s else ((s.setSc pl e).noteSc pl e).scEffect pl e

/-- SC_FLAG_CLEAR: a write to DRV.SC_FLAGS for the tile in DRV.SC_SEL (R163, Table DRV-13). -/
def State.scFlagClear (s : State) (v : Word) : State :=
  let t := min (s.rf Reg.DRV_SC_SEL 9 0) 607
  let keep (base e : Nat) : Bool := !(decide (tileOf e = t) && bit v (base + slotOf e))
  s.updDrv fun d => { d with scA := d.scA.filter (keep 0), scB := d.scB.filter (keep 16) }

end Sys2Proof.Machine
end

