-- ==== Sys2Proof/Machine/Pass.lean ====
section
/-!
DEFINITION. What the passing of time brings of itself, at instants the manual fixes: wave 1 of a transition 40 ns after its
commit (Transitions R90), fresh windows at a tick of the sine generators (Element Drive R170), visits and interval ends of
the sweep (Object Table R233), frames that a lane's loopback returns (Supervisory Plane Table OSC-11), and what the frames of
an instant do (Supervisory Plane R212, Object Table R224); and what time leaves open, grant waits and corrected codewords (Ehreri Link
R303, R305).
-/

namespace Sys2Proof.Machine

/-- Wave 1 begins, if its instant has come (R90), and deglitch holds with it where drives change (R161). -/
def State.waveDue (s : State) : State :=
  match s.trans.waveAt with
  | none => s
  | some t => if s.elapsed < t then s else State.noteHolds s s.waveStart

/-- The instants of elapsed time at which something is due. -/
def State.dues (s : State) : List Nat :=
  s.trans.waveAt.toList ++ (s.drv.freshAt.map fun x => ns (50 * x.2)) ++ (s.osc.loops.map fun x => x.1)
    ++ (s.osc.arrived.map fun x => x.at_).filter fun t => decide (s.elapsed < t)

/-- The next instant of elapsed time at which something is due. -/
def State.nextDue (s : State) : Option Nat :=
  s.dues.foldl (fun m t =>
    match m with
    | none => some t
    | some u => some (min t u)) none

/-- Time passes to instant e with nothing due on the way; the frames of the instant it leaves act first, and the visits and
interval ends it has passed over follow (R224). -/
def State.goTo (s : State) (e : Nat) : State :=
  if e ≤ s.elapsed then s else (s.settleArrived.elapse (e - s.elapsed)).sweepPass

/-- Time passes to instant e, and what is due on the way takes place at its instant; n bounds the number of instants. -/
def State.runTo (s : State) (e : Nat) : Nat → State
  | 0 => s.goTo e
  | n + 1 =>
    match s.nextDue with
    | none => s.goTo e
    | some t => if e < t then s.goTo e else (s.goTo t).freshDue.waveDue.loopsDue.runTo e n

/-- What the manual leaves open of a stretch of time that has passed: how long masters waited (R305), which codewords were
corrected (R303), and which shadow words the device has read (R356). -/
def State.meanwhile (s : State) : State :=
  ((if s.dev.inReset.isSome then s else s.grantWaits).fecCorrects .e0 |>.fecCorrects .e1).deviceReads

/-- Time dt passes before a command, with everything that is due in it. In a reset nothing is (DESIGN CHOICE, log 147). -/
def State.advance (s : State) (dt : Nat) : State :=
  if dt = 0 then s
  else if s.dev.inReset.isSome then (s.elapse dt).meanwhile
  else (s.runTo (s.elapsed + dt) s.dues.length).meanwhile

end Sys2Proof.Machine
end

