-- ==== Sys2Proof/Machine/Inject.lean ====
section
/-!
DEFINITION. Injected conversions (Monitor Conversion R147 to R150, Transitions Under Live Light R104, Self-Test and
Calibration R345): requests of the transition sequencer, of self-test slices and of the host, their queue and drops, and
where each value goes.
-/

namespace Sys2Proof.Machine

/-- The tile's drop counter of a plane counts (Table CONV-8). -/
def TileRec.dropped (r : TileRec) (pl : Plane) : TileRec :=
  match pl with
  | .a => { r with dropA := bumpWord r.dropA }
  | .b => { r with dropB := bumpWord r.dropB }

/-- A request is dropped (R148, R152); what the requester does about it follows apart. -/
def State.dropNote (s : State) (pl : Plane) (t who : Nat) (cal : Bool) : State :=
  let s := s.count (if cal then Reg.CONV_CAL_DROP_CNT else Reg.CONV_INJ_DROP_CNT)
  let s := (s.updTile t fun r => r.dropped pl).tally (tileAddr t (2 + planeIdx pl))
  let s := s.latest Reg.CONV_LAST_DROP (2 * t + planeIdx pl)
    (w32 (2 ^ 31 + at_ 30 28 who + flag 27 cal + flag 24 (pl == .b) + at_ 9 0 t))
  if s.rb Reg.CONV_CFG 0 then s.causeOnce 0x15 2 0x2202 (pay [t, planeIdx pl, who]) else s

/-- A pair's queue with a request put in order of arrival, those of one instant in the order transition sequencer,
self-test, host (R148). -/
def placeInj (i : Inj) : List Inj → List Inj
  | [] => [i]
  | x :: t => if x.at_ = i.at_ ∧ i.who < x.who then i :: x :: t else x :: placeInj i t

/-- A pair with a request placed, and the request that finds the queue of two full: the request that came first of one
instant is in progress (R147, R148). -/
def Pair.place (p : Pair) (i : Inj) (acquiring : Bool) : Pair × Option Inj :=
  match p.cur with
  | none =>
    if p.queue = [] ∧ acquiring then ({ p with cur := some i }, none)
    else
      let q := placeInj i p.queue
      ({ p with queue := q.take 2 }, q[2]?)
  | some c =>
    let (c, j) := if c.at_ = i.at_ ∧ i.who < c.who then (i, c) else (c, i)
    let q := placeInj j p.queue
    ({ p with cur := some c, queue := q.take 2 }, q[2]?)

/-- Place a request; the one that is dropped, if any: it, or one of the same instant it goes before (R147, R148, R152). -/
def State.tryInject (s : State) (pl : Plane) (t : Nat) (i : Inj) (acquiring : Bool) : State × Option Inj :=
  if s.calibrates pl then (s.dropNote pl t i.who true, some i)
  else
    let r := (s.pair pl t).place i acquiring
    let s := s.updPair pl t fun _ => r.1
    match r.2 with
    | none => (s, none)
    | some d => (s.dropNote pl t d.who false, some d)

/-- The running INJECT ends with its count (R150, Table CONV-15). -/
def State.injectEnd (s : State) (j : InjJob) : State :=
  (s.updConv fun c => { c with inject := none }).completeX 0x15 4 (if j.dropped then cNOROOM else cDONE)
    (at_ 23 16 j.delivered) (some j.ord)

/-- The tile a plane's slice runs on. -/
def State.sliceTile (s : State) (pl : Plane) : Option Nat := (s.bistOf pl).slice.map (·.2.1)

/-- What the transition sequencer and a self-test slice do about a dropped request in tile t (R104, R348): one that an ended
slice has left in another tile is no conversion of the slice that runs. -/
def State.droppedOwn (s : State) (pl : Plane) (t : Nat) (d : Inj) : State :=
  if d.who = 1 then (s.setArrival d.out 0x8000).count Reg.SHEEP_INJ_DROP_CNT
  else if d.who = 2 ∧ s.sliceTile pl = some t then s.sliceAbort pl 2
  else s

/-- Issue the next requests of the running INJECT until one is in progress or waits, or none is left (R150). -/
def State.injectNext (s : State) (j : InjJob) : Nat → State
  | 0 => s.injectEnd { j with left := 0 }
  | n + 1 =>
    match s.tryInject j.plane j.tile { j.inj with at_ := s.elapsed } (s.acquiring j.plane j.tile) with
    | (s, none) => s.updConv fun c => { c with inject := some { j with left := n } }
    | (s, some d) =>
      if d.who = 3 then s.injectNext { j with dropped := true } n
      else (s.updConv fun c => { c with inject := some { j with left := n } }).droppedOwn j.plane j.tile d

/-- What a requester does about a dropped request: the running INJECT goes on with its next one (R104, R150, R348). -/
def State.dropped (s : State) (pl : Plane) (t : Nat) (d : Inj) : State :=
  if d.who = 3 then
    match s.conv.inject with
    | some j => if j.plane = pl ∧ j.tile = t then s.injectNext { j with dropped := true } j.left else s
    | none => s
  else s.droppedOwn pl t d

/-- A request reaches a pair, and whoever's request is dropped reacts (R147, R148). -/
def State.injectionRequest (s : State) (pl : Plane) (t : Nat) (i : Inj) (acquiring : Bool) : State :=
  match s.tryInject pl t i acquiring with
  | (s, none) => s
  | (s, some d) => s.dropped pl t d

/-- The value of a self-test conversion goes to the slice that runs on its tile, for its verdicts (R134, R345): one of LOOPBACK to
the check in turn, with what limited its DAC, which a limiter may have done too shortly to report it (R162, R344; DESIGN
CHOICE, log 165). -/
def State.gotValue (s : State) (pl : Plane) (t chan gain : Nat) (v : Int) : State :=
  if s.sliceTile pl ≠ some t then s
  else if chan ≠ 18 then s.updBist pl fun b => { b with got := b.got ++ [(chan, gain, v)] }
  else match (s.bistOf pl).turn with
    | none => s
    | some k =>
      let brief := Config.briefLimit (planeIdx pl) (elemAt t k) s.elapsed
      s.updBist pl fun b => { b with loops := b.loops ++ [⟨k, gain, v, b.lim || brief⟩] }

/-- INJECTION_COMPLETE (R147): the corrected value goes to its requester only, and the next waiting request starts. -/
def State.injectionComplete (s : State) (pl : Plane) (t : Nat) (raw : BitVec 12) : State :=
  match (s.pair pl t).cur with
  | none => s
  | some i =>
    let v := s.correct pl t 0 i.gain i.chan raw
    let s := ((s.updPair pl t fun p => { p with cur := none, slotAt := s.elapsed }).startInj pl t).beginIdle pl t
    if i.who = 1 then s.setArrival i.out (enc 16 (dBm16 v))
    else if i.who = 2 then s.gotValue pl t i.chan i.gain (s.convValue pl t 0 i.gain raw)
    else
      let s := s.addHost pl t i.chan v (s.elapsed - ns 13)
      match s.conv.inject with
      | some j => if j.plane = pl ∧ j.tile = t then s.injectNext { j with delivered := j.delivered + 1 } j.left else s
      | none => s

/-- How many requests of one requester are outstanding in a pair. -/
def Pair.own (p : Pair) (who : Nat) : Nat := ((p.cur.toList ++ p.queue).filter fun i => i.who == who).length

/-- The transition sequencer's request for output q (R104): one conversion of its tap with 100 ns acquisition on the lead
plane, once it is due, at most two of its own outstanding in a pair. -/
def State.arrivalFor (s : State) (q gain : Nat) (acquiring : Bool) : State :=
  let t := tileOf (ovoaOf q)
  if s.arrivalIsDue q = false ∨ 2 ≤ (s.pair s.lead t).own 1 then s
  else
    let s := s.updTrans fun x => { x with arrivalDue := x.arrivalDue.filter fun y => y.1 != q }
    s.injectionRequest s.lead t ⟨1, slotOf (ovoaOf q), 3, gain, q, s.elapsed⟩ acquiring

/-- ARRIVAL_INJECTION of output q (R104): at ×1 and on the lead plane, neither of which the rule gives (DESIGN CHOICE, log 180). -/
def State.arrivalInjection (s : State) (q : Nat) : State :=
  s.arrivalFor q 0 (s.acquiring s.lead (tileOf (ovoaOf q)))

/-- The LOOPBACK check in turn of the slice that runs on a tile of a plane: its slot and how many values its present try has
had (R342, R347). -/
def State.loopTurn (s : State) (pl : Plane) (t : Nat) : Option (Nat × Nat) :=
  match (s.bistOf pl).slice with
  | some (ty, k, _, _) => if k = t then (s.loopCheck pl ty t).bind fun c => c.next (s.bistOf pl) else none
  | none => none

/-- The same of a DAC slice. -/
def State.dacTurn (s : State) (pl : Plane) (t : Nat) : Option (Nat × Nat) :=
  if (s.bistOf pl).slice.map (·.1) = some 1 then s.loopTurn pl t else none

/-- A slice asks for a LOOPBACK conversion: the check in turn begins, or goes on (R347). -/
def State.takeTurn (s : State) (pl : Plane) (t : Nat) : State :=
  match s.loopTurn pl t with
  | none => s
  | some (k, j) => s.updBist pl fun b => { b with turn := some k, lim := b.lim && decide (0 < j) }

/-- The test code a DAC is driven at: that of the element whose check is in progress, from its first conversion to the
delivery of its third (Table BIST-1, R347). -/
def State.dacTest (s : State) (pl : Plane) (e : Nat) : Option Nat :=
  match s.dacTurn pl (tileOf e) with
  | some (k, j) =>
    if elemAt (tileOf e) k = e ∧ (0 < j ∨ (s.pair pl (tileOf e)).own 2 ≠ 0) then dacCodes[j]? else none
  | none => none

/-- A limiter that reports while its DAC is under a check limits it in the check, whether or not its flag is set already
(R162, R344). -/
def State.noteLimit (s : State) (pl : Plane) (e : Nat) : State :=
  if (s.dacTest pl e).isSome then s.updBist pl fun b => { b with lim := true } else s

/-- The current, in units of 2^-16 µA, of a DAC of a powered plane in its dummy load, which channel LOOPBACK reads: while the
output switches are open (R157), or, on the active plane, the switch of the element under a DAC check, whose hold cell keeps
the element current meanwhile (R347). Before the fuse shadow is loaded the DACs hold no code (R167). -/
def State.dummyLoad (s : State) (pl : Plane) (e : Nat) : Option Nat :=
  if (s.plane pl).st = .off ∨ s.dev.fuseOk.isNone then none
  else match s.dacTest pl e with
    | some c => some (s.fullScale e * c)
    | none => if s.switchesClosed pl then none else some (s.fullScale e * s.dacCode pl e)

/-- May the DAC check in turn begin on the active plane: within 50 ns after an update of its element (R347)? -/
def State.dacMayBegin (s : State) (pl : Plane) (t : Nat) : Bool :=
  match s.dacTurn pl t with
  | some (k, 0) => (s.lp pl (elemAt t k)).upAt.any fun x => decide (s.elapsed ≤ x + ns 50)
  | _ => true

/-- May the slice of a plane issue a conversion on tile t (R345, R347): the slice runs there, none of its own is outstanding,
and on the active plane none has been in this pass and a DAC check begins right after an update? -/
def State.sliceMayInject (s : State) (pl : Plane) (t : Nat) : Bool :=
  (s.sliceTile pl == some t) && (s.pair pl t).own 2 == 0
    && !(s.token.holder == some pl && ((s.pair pl t).bistPass || !(s.dacMayBegin pl t)))

/-- INJECTION_REQUEST by one of the three requesters (R148). -/
def State.injectFor (s : State) (pl : Plane) (t : Nat) (who : InjWho) (chan acq gain : Nat) (acquiring : Bool) : State :=
  match who with
  | .sheep =>
    let e := elemAt t chan
    if chan < 16 ∧ 9216 ≤ e ∧ acq = 3 ∧ pl = s.lead then s.arrivalFor (e - 9216) gain acquiring else s
  | .bist =>
    if s.sliceMayInject pl t then
      let s := if chan = 18 then s.takeTurn pl t else s
      (s.updPair pl t fun p => { p with bistPass := true }).injectionRequest pl t ⟨2, chan, acq, gain, 0, s.elapsed⟩ acquiring
    else s
  | .host => s.injectionRequest pl t ⟨3, chan, acq, gain, 0, s.elapsed⟩ acquiring

/-- INJECT (R150, Table CONV-14). -/
def State.inject (s : State) (o : Order) (a0 a1 : Word) : State :=
  let n := fld a1 7 0
  let t := fld a0 9 0
  let ch := fld a0 20 16
  let pl : Plane := if bit a0 12 then .b else .a
  let done (c : Nat) : State := s.complete 0x15 4 c o
  if n = 0 then done cZERO
  else if 607 < t ∨ 19 < ch then done cBADARG
  else if s.winOpen t s.elapsed = false then done cLOCKED
  else if s.conv.inject.isSome then done cBUSY
  else s.injectNext ⟨o, t, pl, ⟨3, ch, fld a0 25 24, fld a0 29 28, 0, s.elapsed⟩, n, 0, false⟩ n

end Sys2Proof.Machine
end

