-- ==== Sys2Proof/Machine/Start.lean ====
section
/-!
DEFINITION. The start sequence (Start-Up, Reset, Memory and Life Cycle R366 to R371), the restore of journalled circuits
(R84), READY and BIST_HOLD (R353, R370), the life cycle's commands (R380, R381), CHAIN_RESET (R297), page soft resets (R319),
the test access port and the output lands (R392, R396).
-/

namespace Sys2Proof.Machine

/-! ### Steps 3 and 4 -/

/-- TABLE_WIPE_END (R366, R375, R381), after step 2 and 2 ms from the end of the reset or later (Table START-2): in RETURN the
journal is wiped first; then its rings are examined (R376, R383) and the static entries restored. -/
def State.tableWipeEnd (s : State) : State :=
  if s.dev.wiped ∨ s.dev.fuseOk = none ∨ s.elapsed < us 2000 then s
  else
    let s := if 5 ≤ s.dev.marker then
        (s.wipeJournal.updJrnl fun j => { j with wiping := false }).setReg Reg.JRNL_AUTO_RESTORE (autoRestoreReset [])
      else s
    s.examineJournal.restoreStatics.updDev fun d => { d with wiped := true }

/-- LASER_WARMUP_END (R222), after step 3 and 22 ms from the end of the reset or later (Table START-2). -/
def State.laserWarmup (s : State) : State :=
  if s.dev.wiped = false ∨ s.elapsed < us 22000 then s else s.updDev fun d => { d with lasers := true }

/-! ### Step 7: restore (R84, R368) -/

/-- The classes taken at this instant: in safe-hold only SAFETY. -/
def State.restoreClass (s : State) (c : Nat) : Bool :=
  s.rb Reg.JRNL_AUTO_RESTORE c && (!s.safe.active || c == 0)

/-- The circuits taken from the newest valid slot. -/
def State.restorable (s : State) : CMap :=
  match s.jrnl.slot with
  | none => []
  | some k => (s.storedMap k).filter fun c => s.restoreClass c.cls

/-- Is the restore commit deferred by the rate of rise (R79, R334)? -/
def State.restoreDefers (s : State) : Bool := s.defers s.restorable

/-- Is the device ready to commit the restore (R79, R368)? Safe-hold does not hold it back. -/
def State.mayRestore (s : State) : Bool := s.canRestore && !s.restoreDefers

/-- The restore waits for a device that is not ready (R368); its first deferral counts (R334; DEDUCED, log 167). -/
def State.restoreWaits (s : State) : State :=
  let first := s.restoreDefers && !s.epoch.deferred
  let s := if first then s.count Reg.THM_DEFER_CNT else s
  { s.updDev fun d => { d with restoreWait := true } with
    epoch := { s.epoch with restoring := true, deferred := s.epoch.deferred || first } }

/-- The epoch of the newest valid slot. -/
def State.slotEpochOf (s : State) : Nat :=
  match s.jrnl.slot.bind s.latestRing with
  | some w => w.2.2
  | none => 0

/-- The restore takes a map: it is committed as epoch 1 unless it is empty, and loop lock begins (R84, R369). -/
def State.restoreMap (s : State) (m : CMap) : State :=
  let e := s.slotEpochOf
  let s := if m = [] then s else s.commitMap m 5 0
  let s := s.updJrnl fun j => { j with restored := m.length, slotEpoch := e }
  let s := { s with epoch := { s.epoch with restoring := false, deferred := false } }
  let s := s.updDev fun d => { d with
    restoreWait := false, restoreDone := true, restored := m.map (·.out)
    lockAt := if m = [] then none else some s.elapsed, lockDone := m == [] }
  s.event 0x13 0x1206 (pay [m.length])

/-- RESTORE_COMMIT (R84, R368): once the first grant is made; with no class selected, and in RETURN, nothing is restored. -/
def State.restoreCommit (s : State) : State :=
  let d := s.dev
  if d.state ≠ 0 ∨ d.restoreDone ∨ d.wiped = false ∨ d.fuseOk ≠ some true ∨ s.token.granted = false then s
  else if 5 ≤ d.marker ∨ s.rf Reg.JRNL_AUTO_RESTORE 2 0 = 0 then
    s.updDev fun d => { d with restoreDone := true, lockDone := true }
  else if s.mayRestore then s.restoreMap s.restorable
  else s.restoreWaits

/-! ### Step 8: loop lock (R369) -/

/-- Is every element of a circuit's path in LOCK? -/
def State.pathLocked (s : State) (c : Circuit) : Bool :=
  (c.path.all fun h => (s.elem (swOf h.cell)).st == .lock && (s.elem (trOf h.cell)).st == .lock)
    && (s.elem (ivoaOf c.inp)).st == .lock && (s.elem (ovoaOf c.out)).st == .lock

/-- The restored circuits that have an element not in LOCK. -/
def State.unlocked (s : State) : CMap :=
  s.epoch.active.filter fun c => s.dev.restored.contains c.out && !(s.pathLocked c)

/-- Loop lock ends as soon as every restored path is in LOCK. -/
def State.noteLock (s : State) : State :=
  if s.dev.lockAt.isSome ∧ s.dev.lockDone = false ∧ s.unlocked = [] then s.updDev fun d => { d with lockDone := true } else s

/-- LOCK_LATE: loop lock ends 50 ms after the restore commit. -/
def State.lockLate (s : State) : State :=
  match s.dev.lockAt with
  | none => s
  | some t =>
    if s.dev.lockDone ∨ s.elapsed < t + us 50000 then s
    else
      let n := s.unlocked.length
      ((s.updDev fun d => { d with lockDone := true }).cause 0x00 2).event 0x00 0x8302 (pay [n])

/-! ### Step 9: READY, DIAG, BIST_HOLD (R353, R370) -/

/-- Do all conditions of R370 hold? -/
def State.mayReady (s : State) : Bool :=
  s.dev.state == 0 && s.dev.fuseOk == some true && s.obj.ready && s.token.holder.isSome
    && (s.dev.lasers || decide (32 ≤ s.osc.failed.length)) && s.dev.lockDone && !s.therm.shut

/-- READY, or DIAG in life-cycle state RETURN (R370, R381). -/
def State.becomeReady (s : State) : State :=
  if s.mayReady = false then s
  else
    let ns := s.elapsed / nsUnit % 2 ^ 32
    if 5 ≤ s.dev.marker then s.updDev fun d => { d with state := 3, startNs := ns }
    else
      let s := (s.updDev fun d => { d with state := 1, startNs := ns }).cause 0x00 0
      let s := s.event 0x00 0x8300 (pay [s.dev.cause])
      let s := if s.therm.restarted then (s.cause 0x03 3).event 0x03 0x4004 [] else s
      let t := s.nowNs
      let n := s.rf Reg.AGE_INTERVAL 11 0
      s.updObj fun o => { o with sweep := some ⟨t, n, 0⟩ }

/-- Is a plane out of START and of service? -/
def PlaneSt.lost (p : PlaneSt) : Bool := p == .failed || p == .off || p == .cleardrv

/-- No plane has passed START after POWER_ON or NRESET (R353). -/
def State.holdCheck (s : State) : State :=
  if s.dev.state = 0 ∧ s.dev.inReset = none ∧ s.token.granted = false ∧ s.dev.passed = false ∧ s.dev.cause ≤ 2 ∧ s.pla.st.lost ∧ s.plb.st.lost then
    s.enterHoldState
  else s

/-- A grant while the device stands in BIST_HOLD is not made (R353). -/
def State.grant (s : State) (pl : Plane) (gap : Nat) : State := if s.dev.state = 2 then s else s.tokenGrant pl gap

/-! ### Life cycle (R380) -/

/-- Low word of the serial number. -/
def State.serialLo (s : State) : Word := w32 (serial s.fuse)

/-- The device is no longer armed. -/
def State.disarm (s : State) : State := s.updDev fun d => { d with armed := none }

/-- RETURN_ARM. -/
def State.returnArm (s : State) (o : Order) (a0 a1 : Word) : State :=
  if s.lifeState ≠ 2 ∨ s.dev.state ≠ 1 then s.complete 0x00 1 cLOCKED o
  else if a0 ≠ s.serialLo ∨ fld a1 15 0 ≠ 0x4C43 then s.disarm.complete 0x00 1 cBADARG o
  else
    let s := s.updDev fun d => { d with armed := some (o.port, s.elapsed + us 1000000) }
    ((s.cause 0x00 1).event 0x00 0x8301 []).complete 0x00 1 cDONE o

/-- RETURN_COMMIT; a second one leaves the RETURN in progress as it is, and one in state RETURN is LOCKED (log 160). -/
def State.returnCommit (s : State) (o : Order) (a0 a1 : Word) : State :=
  match s.dev.armed with
  | none => s.complete 0x00 2 cLOCKED o
  | some (p, t) =>
    if p ≠ o.port ∨ s.epoch.active ≠ [] ∨ s.epoch.prep.isSome ∨ s.lifeState = 3 then s.complete 0x00 2 cLOCKED o
    else if t ≤ s.elapsed then s.disarm.complete 0x00 2 cTIMEOUT o
    else if a0 ≠ ~~~s.serialLo ∨ fld a1 15 0 ≠ 0xB3BC then s.disarm.complete 0x00 2 cBADARG o
    else (s.disarm.updDev fun d => { d with
      returning := true, returnAt := if d.returning then d.returnAt else s.elapsed }).complete 0x00 2 cDONE o

/-- RETURN_ARM_EXPIRY: the arming has ended; a commit through its port answers TIMEOUT. -/
def State.armExpiry (s : State) : State :=
  match s.dev.armed with
  | some (p, t) => if t ≤ s.elapsed then s.updDev fun d => { d with armed := some (p, 0) } else s
  | none => s

/-- RETURN_MARKER_DONE: the marker is programmed, the journal wiped, and the reset of cause 6 begins. -/
def State.markerDone (s : State) : State :=
  if s.dev.returning then ((s.updDev fun d => { d with marker := 8 }).wipeJournal).beginReset 6 else s

/-- Any opcode page DEV does not define: BADARG, and the device is disarmed. -/
def State.devBadOp (s : State) (op : Nat) (o : Order) : State := s.disarm.complete 0x00 op cBADARG o

/-- CHAIN_RESET (R297): the response leaves, then the reset begins. -/
def State.chainReset (s : State) (o : Order) (a0 : Word) : State :=
  if fld a0 15 0 = 0xC4A1 then (s.complete 0x0D 1 cDONE o).beginReset 5 else s.complete 0x0D 1 cBADARG o

/-! ### Page soft reset (R319) -/

/-- Is a register's upper word of a page's snapshot or staging? -/
def onPage (page : Nat) (l : Latched) : Bool := l.addr / 0x1000 == page

/-- Header offsets with RW, WC or counter fields. -/
def headerFields : List Nat := [0x008, 0x010, 0x014, 0x01C, 0x024]

/-- The RW, WC and counter fields of one page's registers at their reset values. -/
def State.resetRegs (s : State) (page : Nat) : State :=
  let b := Reg.base page
  let s := headerFields.foldl (fun s o => s.setReg (b + o) (w32 (headerReset o))) s
  (blockRows page).foldl (fun s r =>
    let m := if r.counter then 0xFFFFFFFF else (w32 r.rw) ||| (w32 r.wc)
    s.setReg (b + r.off) ((s.reg (b + r.off) &&& ~~~m) ||| (w32 r.reset &&& m))) s

/-- Counters and WC fields kept outside the registers: the 48-bit counters of a port, the words the journal has written, the SC
flags and the counters of every lane's learning (assumption log 143). -/
def State.resetWide (s : State) (page : Nat) : State :=
  let port (p : Port) : State := s.updLink p fun l => { l with fecCorr := 0, rxTrans := 0, txTrans := 0 }
  if page = 0x0B then port .e0 else if page = 0x0C then port .e1
  else if page = 0x09 then s.updJrnl fun j => { j with writes := 0 }
  else if page = 0x16 then { s with drv := { s.drv with scA := [], scB := [] } }
  else if page = 0x6A then { s with obj := { s.obj with cnts := [] } }
  else s

/-- What follows where a soft reset changes what a register commands: the line of a port retrains, SOURCE returns to its
reset value, the restore selection is what the journal holds, and that of page TRACE resets master M8 (R302). -/
def State.resetFollow (old s : State) (page : Nat) : State :=
  let line (p : Port) : State := if s.reg (Reg.EHR_CFG p) = old.reg (Reg.EHR_CFG p) then s else s.ehrDown p
  if page = 0x0B then line .e0 else if page = 0x0C then line .e1
  else if page = 0x09 then s.setReg Reg.JRNL_AUTO_RESTORE (autoRestoreReset s.mem)
  else if page = 0x78 then (if s.reg Reg.TIME_CFG = old.reg Reg.TIME_CFG then s else s.sourceWritten)
  else if page = 0x17 then s.masterReset 8 (s.burstAt 8)
  else if page = 0x03 then (if s.therm.rate then s.rateWrite (s.reg Reg.THM_RATE_RISE) else s)
  else s

/-- A page soft reset of any page but DEV. -/
def State.softReset (s : State) (page : Nat) : State :=
  let drop (l : LinkPort) : LinkPort :=
    { l with snap := l.snap.filter fun x => !(onPage page x), staged := l.staged.filter fun x => !(onPage page x) }
  let s' := (s.resetRegs page).resetWide page
  let s' := { s' with e0 := drop s'.e0, e1 := drop s'.e1 }
  let s' := s'.updDev fun d => { d with pageV := true, page := page }
  s.resetFollow s' page

/-- A write to PAGE_CTRL of an occupied page (R319): the state and the completion code. On page DEV an effective SRST begins
the DEV soft reset, once the response has been sent; `softDue` tells so. -/
def State.pageCtrl (s : State) (page : Nat) (v : Word) : State × Nat :=
  let b := Reg.base page
  let keyed := s.rf (b + 0x024) 15 0 == 0x5AFE
  let s := (s.setReg (b + 0x024) 0).setReg (b + 0x008) (v &&& 1)
  if bit v 31 = false then (s, cDONE)
  else if keyed = false then (s, cLOCKED)
  else if page = 0 then (s, cDONE)
  else (s.softReset page, cDONE)

/-- Does a write to PAGE_CTRL of page DEV ask for an effective soft reset? -/
def State.softDue (s : State) (page : Nat) (v : Word) : Bool :=
  page == 0 && bit v 31 && s.rf (Reg.base 0 + 0x024) 15 0 == 0x5AFE

/-- PAGE_SOFT_RESET: an effective write of SRST to a page; it comes only where the key stands. -/
def State.pageSoftReset (s : State) (page : Nat) : State :=
  if (pageInfo page).isNone ∨ s.rf (Reg.base page + 0x024) 15 0 ≠ 0x5AFE then s
  else if page = 0 then (s.pageCtrl 0 (w32 (2 ^ 31 + 1))).1.beginReset 3
  else (s.pageCtrl page (w32 (2 ^ 31 + fld (s.reg (Reg.base page + 0x008)) 0 0))).1

/-! ### Test access port and output lands (R354, R392, R396) -/

/-- The device identification register. -/
def idcode : Word := w32 (1 * 2 ^ 28 + 0x0512 * 2 ^ 12 + Config.jedecId.toNat * 2 + 1)

/-- Does EXTEST drive the output lands: while nRESET is recognised low, in a module that has power (R396, Table PKG-5)? -/
def State.extestDrives (s : State) : Bool := s.tap.ir == .extest && s.dev.nresetLow && (s.pla.valid || s.plb.valid)

/-- nFAULT is held low (R354, R392). -/
def State.nFaultLow (s : State) : Bool :=
  s.dev.state == 2 || (s.dev.state != 0 && s.dev.inReset.isNone && (s.pla.bistFail || s.plb.bistFail || s.bist.uncorrRun))

/-- SAFE_STAT is high (R197, R392). -/
def State.safeStat (s : State) : Bool :=
  if s.dev.state = 0 ∨ s.dev.inReset.isSome then decide (s.safe.causes ≠ 0) else s.safe.active

/-- THERM_TRIP is high (R337, R392). -/
def State.thermTrip (s : State) : Bool := s.therm.trip

/-- The levels the device gives its output lands (Table PKG-5). -/
def State.outLands (s : State) : LandStates :=
  if s.pla.valid = false ∧ s.plb.valid = false then ⟨false, false, none, true, true, none⟩
  else ⟨s.safeStat, s.thermTrip, some (s.time.ppsOut && s.dev.inReset.isNone), !s.nint, !s.nFaultLow, none⟩

/-- The levels of the output lands: what EXTEST drives, while it does, and else the device's own. -/
def State.lands (s : State) : LandStates :=
  let d := s.tap.drive
  if s.extestDrives then ⟨d.safeStat, d.thermTrip, some d.ppsOut, d.nint, d.nfault, none⟩ else s.outLands

/-- What a scan shifts out on TDO, by the instruction in force (R396). -/
def State.scanOut (s : State) (ins : InLands) : TdoData :=
  match s.tap.ir with
  | .idcode => .idcode idcode
  | .bypass => .bypass false
  | .sample => .boundary ins s.lands
  | .extest => .boundary ins s.lands

/-- TEST_ACCESS_PORT: codes not implemented act as BYPASS; a scan delivers its register on TDO, and under SAMPLE/PRELOAD or
EXTEST, having captured every land, takes new values for the output lands. Without power there is no access. -/
def State.tapOp (s : State) (op : TapOp) : State :=
  let load (i : TapIr) : State := { s with tap := { s.tap with ir := i } }
  if s.pla.valid = false ∧ s.plb.valid = false then s
  else match op with
  | .reset => load .idcode
  | .bypass => load .bypass
  | .idcode => load .idcode
  | .sample => load .sample
  | .extest => load .extest
  | .other _ => load .bypass
  | .scan ins outs =>
    let s := { s with sent := s.sent ++ [.tdo (s.scanOut ins)] }
    if s.tap.ir = .sample ∨ s.tap.ir = .extest then
      { s with tap := { s.tap with ins := ins, outs := s.lands, drive := outs } }
    else s

end Sys2Proof.Machine
end

