-- ==== Sys2Proof/Machine/Views.lean ====
section
/-!
DEFINITION. The registers and windows that are views of other state: what a read of each address returns (chapters 02 to
18, each under the table named at its function). An address no function names reads the stored register (Ops.lean). The
two kinds of registers with a side of their own, snapshots and cleared-by-reading maxima, get that side where the access is
made (Request.lean).
-/

namespace Sys2Proof.Machine

/-! ### Building words -/

/-- A word whose bit k is p k. -/
def bitmap (p : Nat → Bool) : Word := w32 ((List.range 32).foldl (fun n k => if p k then n + 2 ^ k else n) 0)

/-- How many of the numbers below n satisfy p. -/
def countUpTo (n : Nat) (p : Nat → Bool) : Nat := ((List.range n).filter p).length

/-- The word that holds halfwords 2k and 2k + 1. -/
def halves (k : Nat) (f : Nat → Nat) : Word := half2 (f (2 * k)) (f (2 * k + 1))

/-- Words of a time in ns: nanoseconds, seconds [31:0], seconds [47:32]. -/
def timeWord (t k : Nat) : Word := (timeWords t).getD k 0

/-- Words of a stamp with its fraction (Table TIME-6 and TIME-8): as timeWord, with FNS above S_HI. -/
def stampWord (t k : Nat) : Word :=
  if k = 2 then w32 (at_ 31 16 (t % nsUnit) + at_ 15 0 (t / nsUnit / 1000000000 / 2 ^ 32)) else timeWord (t / nsUnit) k

/-- A time in units of 2^-16 ns as signed whole ns, saturated to 32 bits. -/
def nsWord (t : Int) : Word := i32 (satI 32 (tdiv t (nsUnit : Int)))

/-! ### Page header and page INTR (Tables REG-5 and REG-8) -/

/-- Is an INT_CAUSE bit of a page set and not masked? -/
def State.pend (s : State) (page : Nat) : Bool :=
  (s.reg (Reg.base page + 0x010) &&& ~~~(s.reg (Reg.base page + 0x014))) != 0

/-- Does a command of a page run (R320)? -/
def State.busy (s : State) (page : Nat) : Bool :=
  if page = 0x04 then s.pla.restart.isSome || s.plb.restart.isSome
  else if page = 0x07 then s.bist.job.isSome
  else if page = 0x09 then !s.jrnl.orders.isEmpty || s.jrnl.wipeOrd.isSome
  else if page = 0x11 then s.bell.job.any fun j => j.ord.isSome
  else if page = 0x13 then
    s.epoch.held.isSome || s.epoch.job.any fun j => j.ord.isSome || j.forCommit.isSome || !j.held.isEmpty
  else if page = 0x15 then s.conv.inject.isSome || s.conv.cal.isSome
  else if page = 0x61 then s.osc.retry.isSome
  else if page = 0x6C then s.obj.flush.isSome
  else false

/-- The header registers. -/
def State.headerView (s : State) (page off : Nat) (i : PageInfo) : Word :=
  if off = 0x000 then w32 (at_ 31 24 1 + at_ 23 16 i.kind + at_ 15 8 i.index + at_ 7 0 page)
  else if off = 0x004 then w32 (at_ 31 24 i.nreg + flag 23 i.win + flag 22 (i.cmd != 0) + at_ 11 0 i.cmd)
  else if off = 0x00C then w32 (flag 31 (s.busy page) + flag 30 (s.pend page))
  else if off = 0x008 ∨ off = 0x010 ∨ off = 0x014 ∨ off = 0x01C ∨ off = 0x020 ∨ off = 0x024 then
    s.reg (Reg.base page + off)
  else 0

/-- Pages with an unmasked cause, and with any cause. -/
def State.pendMap (s : State) (k : Nat) : Word := bitmap fun b => (pageInfo (32 * k + b)).isSome && s.pend (32 * k + b)
def State.rawMap (s : State) (k : Nat) : Word :=
  bitmap fun b => (pageInfo (32 * k + b)).isSome && s.reg (Reg.base (32 * k + b) + 0x010) != 0

/-- Page INTR. -/
def State.intrView (s : State) (off : Nat) : Option Word :=
  if off = 0x044 then
    some (w32 (flag 31 s.nint + countUpTo 128 fun n => (pageInfo n).isSome && s.pend n))
  else if 0x048 ≤ off ∧ off < 0x058 then some (s.pendMap ((off - 0x048) / 4))
  else if 0x058 ≤ off ∧ off < 0x068 then some (s.rawMap ((off - 0x058) / 4))
  else none

/-! ### Start-up, power and temperature, planes, self-test, journal (chapters 16 to 18 and 09) -/

/-- DEV.STATE, RESET_CAUSE, LIFECYCLE, START_NS and the serial number (R382). -/
def State.devView (s : State) (off : Nat) : Option Word :=
  let d := s.dev
  if off = 0x054 then some (w32 (serial s.fuse))
  else if off = 0x058 then some (w32 (serial s.fuse / 2 ^ 32))
  else if off = 0x05C then
    some (w32 (at_ 31 30 d.state + flag 29 d.restoreWait + flag 28 s.epoch.restoring
      + flag 27 (d.lockAt.isSome && !d.lockDone) + flag 26 (d.inReset.isNone && !d.wiped)))
  else if off = 0x060 then some (w32 (at_ 31 28 d.cause + flag 23 d.pageV + at_ 22 16 d.page))
  else if off = 0x064 then
    let arm := d.armed.filter fun a => decide (s.elapsed < a.2)
    some (w32 (flag 31 arm.isSome + flag 30 (arm.any fun a => a.1 == .e1) + at_ 1 0 s.lifeState))
  else if off = 0x06C then some (w32 d.startNs)
  else none

/-- Page PWR (R339). -/
def State.pwrView (s : State) (off : Nat) : Option Word :=
  let t := s.therm
  if off = 0x044 then some (w32 (at_ 7 0 t.limit))
  else if off = 0x048 then some (w32 (at_ 15 0 t.now))
  else if off = 0x04C then some (w32 (at_ 15 0 t.heater))
  else if off = 0x050 then
    some (w32 (flag 31 t.large + flag 30 (decide (t.limit < 70)) + flag 29 t.short + flag 28 (!t.marks.isEmpty)
      + at_ 24 16 t.f + at_ 12 0 t.n))
  else none

/-- Page THM (R340). -/
def State.thmView (s : State) (off : Nat) : Option Word :=
  let t := s.therm
  if off = 0x054 then some (w32 (enc 16 t.temp))
  else if off = 0x058 then
    some (w32 (at_ 31 30 t.state + flag 29 t.rate + flag 28 t.sfault + flag 27 t.tripped + enc 16 t.rise))
  else if off = 0x05C then some (w32 (enc 16 t.peak))
  else none

/-- Page TOKEN (R200); both planes are lost while the token is free (R185). -/
def State.tokenView (s : State) (off : Nat) : Option Word :=
  let t := s.token
  if off = 0x050 then
    some (w32 (at_ 31 30 (match t.holder with | none => 0 | some .a => 1 | some .b => 2)
      + flag 29 (t.holder.isNone && !t.free) + flag 28 (t.holder.isSome && decide (s.elapsed < t.leaseEnd))
      + flag 27 t.peerUp + flag 26 (t.peerUp && t.holder.any fun h => (s.plane (otherPlane h)).st == .standby)
      + flag 25 t.free + flag 24 s.safe.active + at_ 23 20 t.hoCause + at_ 15 0 (min t.hoGap 0xFFFF)))
  else if off = 0x054 then
    some (w32 (at_ 23 20 s.safe.first + at_ 15 12 s.safe.causes
      + at_ 9 0 (s.epoch.active.filter fun c => c.cls == 0).length))
  else none

/-- Tiles with a set SC flag on a plane (R171). -/
def State.scTiles (s : State) (pl : Plane) : Nat :=
  ((match pl with | .a => s.drv.scA | .b => s.drv.scB).foldl (fun l e => insN (tileOf e) l) []).length

/-- Pages PLA and PLB (R201). -/
def State.planeView (s : State) (pl : Plane) (off : Nat) : Option Word :=
  let p := s.plane pl
  if off = 0x040 then
    some (w32 (at_ 31 29 p.st.code + flag 28 (p.st == .standby) + flag 27 (s.healthy pl) + at_ 26 24 p.cause
      + at_ 7 0 p.score))
  else if off = 0x044 then
    some (w32 (flag 31 p.valid + flag 30 p.pg + at_ 15 0 (Config.feedMv (planeIdx pl) s.elapsed)))
  else if off = 0x048 then some (w32 p.defects)
  else if off = 0x04C then
    let fail (t : Nat) : Bool := match pl with | .a => (s.tile t).cfailA | .b => (s.tile t).cfailB
    some (w32 (at_ 25 16 (countUpTo 608 fail) + at_ 9 0 (s.scTiles pl)))
  else if off = 0x050 then
    let regs (l : List Nat) : Nat := (List.range 6).foldl (fun n k => if l.contains k then n + 2 ^ k else n) 0
    some (w32 (at_ 13 8 (regs p.fail) + at_ 5 0 (regs (p.warn ++ p.fail))))
  else none

/-- Page BIST (Table BIST-6). -/
def State.bistView (s : State) (off : Nat) : Option Word :=
  let ty (b : BistPlane) : Nat := (b.slice.map (·.1)).getD b.ty
  let a := s.bist.a
  let b := s.bist.b
  if off = 0x058 then
    some (w32 (flag 31 (s.dev.state == 2) + flag 30 s.bist.job.isSome + at_ 29 28 (ty b) + at_ 27 26 (ty a)
      + flag 25 (b.slice.isSome && s.token.holder == some .b)
      + flag 24 (a.slice.isSome && s.token.holder == some .a) + at_ 15 8 (min b.starve 255) + at_ 7 0 (min a.starve 255)))
  else none

/-- Page FUSE (Table BIST-8). -/
def State.fuseView (s : State) (off : Nat) : Option Word :=
  if off = 0x040 then
    some (w32 (flag 31 s.dev.fuseOk.isSome + flag 30 (s.dev.fuseOk == some false) + flag 29 s.bist.uncorrRun
      + at_ 14 0 s.bist.nCorr))
  else none

/-- Page JRNL (R383). -/
def State.jrnlView (s : State) (off : Nat) : Option Word :=
  let j := s.jrnl
  if off = 0x058 then
    some (w32 (flag 31 j.rec_.isSome + flag 30 s.unrecorded + flag 29 (j.wiping || s.returnWiping) + flag 28 j.v0 + flag 27 j.v1
      + at_ 26 26 j.newest + flag 25 j.torn + at_ 24 15 j.restored
      + at_ 14 0 (if s.dev.wiped then countUpTo 16384 s.staticUsed else 0)))
  else if off = 0x05C then some (w32 j.slotEpoch)
  else if off = 0x060 then some (w32 j.writes)
  else if off = 0x064 then some (w32 (at_ 15 0 (j.writes / 2 ^ 32)))
  else none

/-! ### Link, chain and matrix (chapter 14) -/

/-- Page MTX (R305): nothing is outstanding between two commands of the model. -/
def State.mtxView (s : State) (off : Nat) : Option Word :=
  if off = 0x050 then
    some (w32 (((List.range 8).map fun t => flag (24 + t) (s.targetBusy t)).sum
      + ((List.range 9).map fun m => flag m (s.idsOut m != 0)).sum))
  else if 0x054 ≤ off ∧ off < 0x060 then
    let i := (off - 0x054) / 4
    some (w32 (((List.range 4).map fun j => if 4 * i + j < 9 then at_ (8 * j + 4) (8 * j) (s.idsOut (4 * i + j)) else 0).sum))
  else if 0x084 ≤ off ∧ off < 0x0A4 then some (w32 (tget (fun _ => 0) s.waits ((off - 0x084) / 4)))
  else none

/-- Pages EHR0 and EHR1 (R303). -/
def State.ehrView (s : State) (p : Port) (off : Nat) : Option Word :=
  let l := s.link p
  if off = 0x044 then
    some (w32 (flag 31 l.blockLock + flag 30 l.link + flag 29 l.fecAlign + flag 28 l.hiBer + at_ 8 0 l.out.length))
  else if off = 0x048 then some (w32 (macLo s.fuse p))
  else if off = 0x04C then some (w32 (macHi s.fuse p))
  else if off = 0x058 then some (w32 l.txSeq)
  else if off = 0x08C then some (w32 l.fecCorr)
  else if off = 0x090 then some (w32 (l.fecCorr / 2 ^ 32))
  else if off = 0x094 then some (w32 l.rxTrans)
  else if off = 0x098 then some (w32 (l.rxTrans / 2 ^ 32))
  else if off = 0x09C then some (w32 l.txTrans)
  else if off = 0x0A0 then some (w32 (l.txTrans / 2 ^ 32))
  else none

/-- Page CHAIN (R304). -/
def State.chainView (s : State) (off : Nat) : Option Word :=
  let c := s.chain
  if off = 0x050 then
    some (w32 (flag 31 c.enumerated + flag 30 c.ring + flag 29 (decide (16 ≤ c.count)) + at_ 13 8 c.addr + at_ 6 0 c.count))
  else if off = 0x054 then some (w32 (at_ 10 0 c.queue.length))
  else none

/-! ### Fabric, routes, transitions, epochs (chapters 02 to 05) -/

/-- Is a PARK cell driven warm (R26)? -/
def State.drivenWarm (s : State) (c : Nat) : Bool := s.actCell c == .park && (s.elem (swOf c)).st == .parked

/-- Page FAB with its port delay window (R34, R37). -/
def State.fabView (s : State) (off : Nat) : Option Word :=
  if off = 0x048 then
    some (w32 (at_ 28 16 s.epoch.active.lit.length + at_ 12 0 (countUpTo 4352 s.drivenWarm)))
  else if 0x800 ≤ off ∧ off < 0xC00 then some (halves ((off - 0x800) / 4) (inDelay s.fuse))
  else if 0xC00 ≤ off then some (halves ((off - 0xC00) / 4) (outDelay s.fuse))
  else none

/-- Outputs with a DELTA of the latest solve (R55). -/
def State.deltaMap (s : State) (d k : Nat) : Word := bitmap fun b => tget (fun _ => 0) s.bell.delta (32 * k + b) == d

/-- Page BELL with its window (Tables ROUTE-4 and ROUTE-10). -/
def State.bellView (s : State) (off : Nat) : Option Word :=
  let b := s.bell
  if off = 0x054 then
    some (w32 (flag 31 b.job.isSome + at_ 26 16 b.list.length + at_ 10 0 (b.list.filter fun r => !r.covered).length))
  else if off = 0x06C then some (w32 (flag 31 b.logOvf + at_ 7 0 b.log.length))
  else if 0xD00 ≤ off ∧ off < 0xD40 then some (s.deltaMap 3 ((off - 0xD00) / 4))
  else if 0xD40 ≤ off ∧ off < 0xD80 then some (s.deltaMap 1 ((off - 0xD40) / 4))
  else if 0xD80 ≤ off ∧ off < 0xDC0 then some (s.deltaMap 5 ((off - 0xD80) / 4))
  else if 0xDC0 ≤ off ∧ off < 0xE00 then some (s.deltaMap 2 ((off - 0xDC0) / 4))
  else if 0xE00 ≤ off then some (b.log.getD ((off - 0xE00) / 4) 0)
  else none

/-- PHASE of SHEEP.STAT (Table TRANS-12): WAIT from an abandonment of R108 to the end of its recovery. -/
def Trans.phase (t : Trans) : Nat :=
  if t.running = false then 0
  else if 2 ≤ t.abandon then 4
  else if t.waveAt.isSome then 1
  else if t.kicking ≠ [] ∨ t.waves ≠ [] then 2
  else 3

/-- Page SHEEP with its window (Tables TRANS-6, TRANS-7, TRANS-12 and TRANS-13). -/
def State.sheepView (s : State) (off : Nat) : Option Word :=
  let t := s.trans
  if off = 0x050 then
    let settling := countUpTo 4352 fun c => (s.elem (trOf c)).st == .settle
    some (w32 (flag 31 t.running + at_ 30 28 t.phase + at_ 27 18 t.blankOut.length
      + at_ 12 0 settling))
  else if off = 0x054 then some (w32 (at_ 24 16 t.f + at_ 12 0 t.n))
  else if 0x800 ≤ off ∧ off < 0x840 then some (mapWord t.blankOut ((off - 0x800) / 4))
  else if 0x840 ≤ off ∧ off < 0x880 then some (mapWord (t.unsettled.map (·.1)) ((off - 0x840) / 4))
  else if 0x880 ≤ off ∧ off < 0x8C0 then some (mapWord t.blankIn ((off - 0x880) / 4))
  else if 0xA00 ≤ off ∧ off < 0xE00 then some (halves ((off - 0xA00) / 4) (tget (fun _ => 0x8000) t.arrival))
  else if 0x800 ≤ off then some 0
  else none

/-- STATE of EPOCH.STAT (Table EPOCH-13). -/
def State.epochState (s : State) : Nat :=
  let e := s.epoch
  if e.restoring then 4 else if e.job.isSome then 1
  else if e.prep.isSome then (if e.held.any fun h => h.cmd.op == 2 then 3 else 2)
  else 0

/-- T of the held COMMIT_AT, 0 without one. -/
def EpochSt.heldT (e : EpochSt) : Nat := match e.held with
  | some h => if h.cmd.op = 2 then h.at_ else 0
  | none => 0

/-- Page EPOCH with its window (Tables EPOCH-4 to EPOCH-16). -/
def State.epochView (s : State) (off : Nat) : Option Word :=
  let e := s.epoch
  if off = 0x060 then
    some (w32 (at_ 31 28 s.epochState + flag 27 (s.deferredNow || (s.epoch.restoring && s.restoreDefers)) + flag 26 s.safe.active + at_ 25 24 e.prepRes
      + flag 23 s.trans.running + at_ 22 20 e.lastOut + flag 19 e.clogOvf + at_ 18 12 e.clog.length + at_ 11 0 e.tag))
  else if off = 0x064 then some (w32 e.act)
  else if off = 0x068 then some (w32 (if e.prep.isSome then s.nextEpoch else 0))
  else if 0x06C ≤ off ∧ off < 0x078 then some (timeWord e.heldT ((off - 0x06C) / 4))
  else if off = 0x078 then
    some (w32 (if e.prep.isSome ∧ s.elapsed < e.leaseEnd then (e.leaseEnd - s.elapsed) / us 1 % 2 ^ 24 else 0))
  else if off = 0x07C then some (w32 e.lastEpoch)
  else if 0x800 ≤ off ∧ off < 0xA00 then
    let x := e.clog.getD ((off - 0x800) / 8) (0, 0)
    some (if off % 8 = 0 then x.1 else x.2)
  else none

/-- The Cell Table (R35, Tables FAB-4 to FAB-8). -/
def State.cellWord (s : State) (c w : Nat) : Word :=
  let act := (s.actCell c).code
  match w with
  | 0 =>
    let prp := match s.epoch.prep with | some m => (m.cell c).code | none => act
    let frozen := (s.elem (swOf c)).st == .hold 3
    w32 (at_ 31 30 act + at_ 29 28 prp + at_ 27 26 (s.bell.stg.cell c).code + flag 25 frozen + flag 24 (s.cell c).warm
      + at_ 20 16 (c / 256) + at_ 7 0 (c % 256))
  | 1 =>
    let side (k : Nat) : Nat := match s.epoch.active.occ c k with | some q => 2 ^ 15 + q | none => 0
    w32 (at_ 31 16 (side 0) + at_ 15 0 (side 1))
  | 2 => half2 (cellDelay s.fuse c false) (cellDelay s.fuse c true)
  | 3 => w32 (s.cell c).moves
  | 4 => w32 (flag 1 (s.cell c).parkLit + flag 0 (s.cell c).dmap)
  | _ => 0

/-- A circuit in the common format of CIRC_ACT, CIRC_PRP and CIRC_STG (Table ROUTE-3). -/
def circWord (m : CMap) (q : Nat) : Nat := match m.at_ q with
  | some c => flag 31 true + at_ 30 29 c.cls + flag 28 c.pinned + at_ 26 18 c.inp + at_ 15 8 c.mid
  | none => 0

/-- The Circuit Table (R58, R62). -/
def State.circuitWord (s : State) (q w : Nat) : Word :=
  let stg := s.bell.stg.at_ q
  let obj (f : Origin → Option Nat) : Word := match stg.bind fun c => f c.org with
    | some x => w32 (flag 31 true + at_ 19 0 x)
    | none => 0
  match w with
  | 0 => w32 (circWord s.epoch.active q)
  | 1 => w32 (circWord (s.epoch.prep.getD s.epoch.active) q)
  | 2 => w32 (circWord s.bell.stg q + at_ 2 0 (tget (fun _ => 0) s.bell.delta q))
  | 3 => match stg with
    | some c => w32 (at_ 31 29 c.org.src + at_ 28 26 c.org.kind + at_ 15 0 c.org.seq)
    | none => 0
  | 4 => w32 (tget (fun _ => 0) s.epoch.changed q)
  | 5 => match s.epoch.active.at_ q with | some c => w32 (at_ 23 0 (latency s.fuse c)) | none => 0
  | 6 => obj (·.srcObj)
  | _ => obj (·.dstObj)

/-! ### Loops, conversion, drive, tracing (chapters 06 to 08) -/

/-- How many elements satisfy p. -/
def State.countElems (s : State) (p : Elem → Bool) : Nat := countUpTo 9728 fun e => p (s.elem e)

/-- Page LOOP (Tables LOOP-16 to LOOP-28). -/
def State.loopView (s : State) (off : Nat) : Option Word :=
  if off = 0x050 then
    some (w32 (at_ 29 16 (s.countElems fun x => x.st == .lock)
      + at_ 13 0 (s.countElems fun x => x.st == .kick || x.st == .settle)))
  else if off = 0x054 then
    some (w32 (at_ 29 16 (s.countElems fun x => x.st.code == 6) + at_ 13 0 (s.countElems fun x => x.st.code == 7)))
  else if off = 0x080 then
    let dark := countUpTo 8704 fun e => (s.elem e).dark && s.actCell (e / 2) != .park
    let bal := countUpTo 8704 fun e => (s.elem e).bal
    some (w32 (at_ 29 16 dark + at_ 13 0 bal))
  else none

/-- Cause of HOLD or FAULT (Table LOOP-7). -/
def ElSt.causeCode : ElSt → Nat
  | .hold c => c
  | .fault c => c
  | _ => 0

/-- The Element Table (R127), as the plane that holds the token shows it. -/
def State.elemWord (s : State) (e w : Nat) : Word :=
  let x := s.elem e
  let l := s.lp s.lead e
  match w with
  | 0 =>
    w32 (at_ 31 29 x.st.code + at_ 28 27 (elType e) + flag 26 x.hh + flag 25 l.down + flag 24 x.bal + flag 23 x.dark
      + at_ 22 21 x.band + flag 20 x.deadline + flag 19 x.limit + at_ 18 16 x.st.causeCode + flag 15 x.lkxV
      + flag 14 x.lkbV + at_ 13 0 e)
  | 1 => half2 (s.elBand e) (s.elStep e)
  | 2 => w32 (at_ 26 16 (s.elPer e) + at_ 15 8 (s.elAmp e) + at_ 3 0 (s.elJudge e))
  | 3 =>
    if 8704 ≤ e then w32 (at_ 15 0 x.target)
    else if e % 2 = 0 ∧ s.actCell (e / 2) = .cross then 0xFFFF else 0
  | 4 => half2 (s.clearField e) (s.loopCode s.lead e)
  | 5 => half2 x.lockB (if 8704 ≤ e then 0 else x.lockX)
  | 6 => i32 x.metric
  | _ => x.dlCnt

/-- Page CONV (Tables CONV-12 to CONV-22). -/
def State.convView (s : State) (off : Nat) : Option Word :=
  let c := s.conv
  if off = 0x058 then
    let settle := countUpTo 608 fun t => (s.pair s.lead t).rounds
    some (w32 (at_ 25 16 settle + at_ 9 0 (countUpTo 608 fun t => (s.tile t).len == 0)))
  else if off = 0x070 then
    some (w32 (flag 31 c.failTile.isSome + at_ 25 16 (c.failTile.getD 0) + at_ 6 4 c.calB + at_ 2 0 c.calA))
  else if off = 0x074 then
    let left := match c.win with | some w => (w.endAt - s.elapsed) / us 1 | none => 0
    some (w32 (flag 31 c.win.isSome + flag 30 c.winDone + flag 29 c.winSat + at_ 19 0 left))
  else none

/-- The Tile Table (R153, Tables CONV-5 to CONV-11). -/
def State.tileWord (s : State) (t w : Nat) : Word :=
  let x := s.tile t
  let cal (pl : Plane) : Bool := s.calibrates pl
  let eff (pl : Plane) : Bool := s.inRounds pl t
  let served (pl : Plane) : Nat := if eff pl then (s.pair pl t).served.length else 0
  let corr (pl : Plane) (k : Nat) : Word :=
    let c := s.corrWord pl t (k / 4) (k % 4)
    half2 (enc 16 c.1) (enc 16 c.2)
  if w = 0 then w32 (flag 31 x.mode + at_ 20 16 x.len + at_ 9 0 t)
  else if w = 1 then
    let period := ((s.sequence t).2.map slotNs).foldl (· + ·) 0
    w32 (flag 31 (eff .a) + flag 30 (eff .b) + at_ 29 27 (served .a) + at_ 26 24 (served .b) + flag 23 (cal .a)
      + flag 22 (cal .b) + flag 21 x.cfailA + flag 20 x.cfailB + flag 19 x.ovl + at_ 15 0 period)
  else if w = 2 then x.dropA
  else if w = 3 then x.dropB
  else if w = 4 then half2 (enc 16 x.ringA) (enc 16 x.ringB)
  else if 16 ≤ w ∧ w < 32 then s.seqWord t (w - 16)
  else if 32 ≤ w ∧ w < 40 then corr .a (w - 32)
  else if 40 ≤ w ∧ w < 48 then corr .b (w - 40)
  else 0

/-- Column pages (R156, Tables CONV-23 to CONV-26). -/
def State.colView (s : State) (col off : Nat) : Option Word :=
  if off = 0x044 then some (bitmap fun k => s.inRounds s.lead (32 * col + k))
  else if off < 0x800 then none
  else if off < 0xA80 then
    let t := 32 * col + s.rf (Reg.COL_SEL col) 4 0
    let pl : Plane := if s.rb (Reg.COL_SEL col) 8 then .b else .a
    let k := accKey pl t ((off - 0x800) / 32)
    let a := tget accDefault s.accs k
    let h := tget haccDefault s.haccs k
    let n := off % 32 / 4
    some (if n = 0 then w32 a.sumP else if n = 1 then w32 a.sumM else if n = 2 then half2 a.cntP a.cntM
      else if n = 3 then w32 h.sum else if n = 4 then w32 (flag 31 h.sat + at_ 15 0 (h.sum / 2 ^ 32))
      else if n = 5 then w32 h.cnt
      else if n = 6 then half2 (enc 16 (h.min.getD 32767)) (enc 16 (h.max.getD (-32768)))
      else 0)
  else some 0

/-- Short-circuit flags of a tile's elements on a plane. -/
def State.scHalf (s : State) (pl : Plane) (t : Nat) : Nat :=
  (List.range 16).foldl (fun n k => if s.scFlag pl (elemAt t k) then n + 2 ^ k else n) 0

/-- The tile that DRV.SC_SEL selects; values above 607 read as tile 607 (Table DRV-12). -/
def State.scSel (s : State) : Nat := min (s.rf Reg.DRV_SC_SEL 9 0) 607

/-- Page DRV with its window (Tables DRV-5 to DRV-13). -/
def State.drvView (s : State) (off : Nat) : Option Word :=
  let d := s.drv
  let bits (k : Nat) (p : Nat → Bool) : Word := bitmap fun b => decide (32 * k + b < 608) && p (32 * k + b)
  if off = 0x054 then
    some (w32 (flag 31 d.nclrLow + flag 30 s.token.free + flag 29 d.clearing
      + at_ 25 16 d.relight.length + at_ 9 0 (s.scTiles s.lead)))
  else if off = 0x05C then some (half2 (s.scHalf .a s.scSel) (s.scHalf .b s.scSel))
  else if 0x800 ≤ off ∧ off < 0xCC0 then some (halves ((off - 0x800) / 4) s.fw)
  else if 0xCC0 ≤ off ∧ off < 0xD0C then some (bits ((off - 0xCC0) / 4) s.range2)
  else if 0xD40 ≤ off ∧ off < 0xD8C then some (bits ((off - 0xD40) / 4) fun t => s.scHalf .a t != 0)
  else if 0xDC0 ≤ off ∧ off < 0xE0C then some (bits ((off - 0xDC0) / 4) fun t => s.scHalf .b t != 0)
  else if 0x800 ≤ off then some 0
  else none

/-- Page TRACE with its window (Tables LOOP-17 to LOOP-31). -/
def State.traceView (s : State) (off : Nat) : Option Word :=
  if off = 0x04C then
    some (w32 ((List.range 16).foldl (fun n k => n + (s.traceCh k).st * 2 ^ (2 * k)) 0))
  else if 0x800 ≤ off ∧ off < 0x900 then
    let t := s.traceCh ((off - 0x800) / 16)
    if off % 16 = 8 then some (w32 (flag 31 t.wrap + at_ 27 16 t.trigIdx + at_ 11 0 t.wrIdx))
    else if off % 16 = 12 then some (w32 t.trigNs)
    else none
  else none

/-! ### Supervisory plane, tables, scheduling (chapters 10 to 12) -/

/-- Page OSC with its window (Tables OSC-5 and OSC-6). -/
def State.oscView (s : State) (off : Nat) : Option Word :=
  if off = 0x050 then
    some (w32 (flag 31 s.forwarding + flag 30 s.safe.active + at_ 25 16 (countUpTo 512 fun i => (s.lane i).link)
      + at_ 9 0 (countUpTo 512 s.laneEn)))
  else if off = 0x058 then
    some (w32 (at_ 28 16 ((s.hostOctets + 1023) / 1024) + at_ 8 0 s.osc.hostq.length))
  else none

/-- Is the transmitter of lane i dark? -/
def State.txIsDark (s : State) (i : Nat) : Bool := s.txDark i

/-- Lane group pages with their lane windows (Tables OSC-10 and OSC-11). -/
def State.oscgView (s : State) (g off : Nat) : Option Word :=
  if off = 0x040 then some (bitmap fun k => decide (k < 16) && (s.lane (16 * g + k)).link)
  else if off = 0x044 then some (bitmap fun k => decide (k < 16) && (s.lane (16 * g + k)).los)
  else if off = 0x048 then some (bitmap fun k => decide (k < 16) && s.txIsDark (16 * g + k))
  else if off = 0x04C then some (bitmap fun k => decide (k < 16) && s.laneEn (16 * g + k))
  else if 0x800 ≤ off then
    let i := 16 * g + (off - 0x800) / 128
    let l := s.lane i
    if off % 128 = 4 then
      some (w32 (flag 31 l.sync.isSome + flag 30 l.link + flag 29 l.los + flag 28 (s.txIsDark i) + at_ 15 0 l.power))
    else if 0x54 ≤ off % 128 then some 0
    else none
  else none

/-- Page LASER (Table OSC-13). -/
def State.laserView (s : State) (off : Nat) : Option Word :=
  if off = 0x050 then some (mapWord s.osc.failed 0)
  else if off = 0x054 then
    some (bitmap fun k => decide (k < 16) && s.osc.failed.contains (2 * k) && s.osc.failed.contains (2 * k + 1))
  else none

/-- Page OBJ (Table OBJ-7). -/
def State.objView (s : State) (off : Nat) : Option Word :=
  if off = 0x040 then
    some (w32 (flag 31 s.obj.ready + flag 30 s.safe.active + at_ 19 0 s.obj.objs.length))
  else if off = 0x044 then some (w32 s.nStatic)
  else if off = 0x048 then some (w32 s.obj.pairs.length)
  else if off = 0x04C then some (w32 s.nDyn)
  else none

/-- Page LEARN with its window (Table OBJ-9). -/
def State.learnView (s : State) (off : Nat) : Option Word :=
  let lane := s.rf Reg.LEARN_LANE_SEL 8 0
  if 0x048 ≤ off ∧ off < 0x054 then some (tget (fun _ => 0) s.obj.cnts (3 * lane + (off - 0x048) / 4))
  else if 0xC00 ≤ off then some (halves ((off - 0xC00) / 4) s.used)
  else none

/-- Pages AGE and MULE (Tables OBJ-10 and OBJ-11). -/
def State.ageView (s : State) (off : Nat) : Option Word :=
  if off = 0x044 then
    some (w32 (flag 31 s.obj.sweep.isSome + flag 30 s.safe.active + at_ 15 0 s.obj.sweeps))
  else none
def State.muleView (s : State) (off : Nat) : Option Word :=
  if off = 0x054 then
    some (w32 (flag 31 s.obj.flush.isSome + flag 30 s.obj.flush.isSome + s.rf Reg.MULE_STAT 9 0))
  else none

/-- One word of a bucket in the window of page SCHED: SHP, BURST, TOKENS in octets toward zero, DROP (Table SCHED-3). -/
def Bucket.word (b : Bucket) (k : Nat) : Word :=
  if k = 0 then b.shp else if k = 1 then b.burst else if k = 2 then i32 (tdiv b.tokens 1000000) else b.drop

/-- Page SCHED with its window (Tables SCHED-2 to SCHED-4). -/
def State.schedView (s : State) (off : Nat) : Option Word :=
  if off = 0x060 then
    let gated (i : Nat) : Bool := decide (0 < s.bankLen i (s.gate i).act)
    some (w32 (at_ 25 16 (countUpTo 512 gated) + at_ 9 0 (countUpTo 512 fun i => (s.gate i).pend.isSome)))
  else if off = 0x058 then some (s.bucket hostKey).shp
  else if off = 0x05C then some (s.bucket hostKey).burst
  else if 0x800 ≤ off ∧ off < 0x8B0 then
    some (((s.bucket (11 * s.rf Reg.SCHED_SEL 8 0 + (off - 0x800) / 16)).at_ s.elapsedNs).word (off % 16 / 4))
  else if 0x800 ≤ off then some 0
  else none

/-- Page TGATE (Table SCHED-5). -/
def State.tgateView (s : State) (off : Nat) : Option Word :=
  let i := s.rf Reg.TGATE_SEL 8 0
  let g := s.gate i
  if off = 0x058 then
    let n := s.gateNow i s.nowNs
    some (w32 (flag 31 g.pend.isSome + flag 30 g.act + at_ 13 8 n.1 + at_ 7 0 n.2))
  else if off = 0x05C then some (w32 (cycleTime (s.bankEntries i g.act)))
  else if 0x060 ≤ off ∧ off < 0x06C then some (timeWord (g.pend.getD g.at_) ((off - 0x060) / 4))
  else none

/-! ### Network time (chapter 13) -/

/-- The recorded jump as 80 bits of magnitude and sign (Table TIME-6). -/
def State.jumpView (s : State) (k : Nat) : Word := match s.time.servo.jump with
  | none => 0
  | some o => (jumpWords o).getD k 0

/-- Page TIME (Table TIME-6). -/
def State.timeView (s : State) (off : Nat) : Option Word :=
  let v := s.time.servo
  if off = 0x058 then
    some (w32 (at_ 31 29 v.state + at_ 28 26 v.hcause + flag 25 v.set + flag 24 v.jump.isSome + flag 23 v.slew.isSome
      + flag 22 s.time.trefOk + flag 21 s.time.f25))
  else if 0x05C ≤ off ∧ off < 0x068 then some (stampWord s.now ((off - 0x05C) / 4))
  else if off = 0x068 then some (w32 (s.elapsed / nsUnit))
  else if off = 0x06C then some (w32 (s.elapsed / nsUnit / 2 ^ 32))
  else if off = 0x084 then some (nsWord v.offset)
  else if off = 0x088 then some (i32 (satI 32 (tdiv s.clock.rate 256)))
  else if 0x08C ≤ off ∧ off < 0x098 then some (s.jumpView ((off - 0x08C) / 4))
  else if off = 0x098 then some (w32 (min (s.slewLeft.toNat / nsUnit) 0xFFFFFFFF))
  else if 0x0AC ≤ off ∧ off < 0x0B8 then some (stampWord s.time.lastStep ((off - 0x0AC) / 4))
  else none

/-- Page PTP (Table TIME-7); MPD and PATH_NEW are the low 32 bits (DEDUCED, log 146). -/
def State.ptpView (s : State) (off : Nat) : Option Word :=
  let t := s.time
  if off = 0x08C then some (w32 (serial s.fuse / 2 ^ 32))
  else if off = 0x090 then some (w32 (serial s.fuse))
  else if off = 0x098 then
    some (w32 (flag 31 t.slave.isSome + at_ 11 9 (match t.slave with | none => 0 | some _ => if t.cal then 3 else 2)
      + at_ 8 0 (t.slave.getD 0)))
  else if off = 0x09C then some (w32 (t.gm / 2 ^ 32))
  else if off = 0x0A0 then some (w32 t.gm)
  else if off = 0x0A4 then some (w32 t.gmQual)
  else if off = 0x0A8 then some (i32 t.path.d)
  else if off = 0x0B0 then some (i32 t.path.new)
  else if off = 0x0B4 then some (w32 t.resMax)
  else none

/-- Page PPS (Table TIME-8): the latest edge counts as present for 2 s. -/
def State.ppsView (s : State) (off : Nat) : Option Word :=
  let t := s.time
  if 0x050 ≤ off ∧ off < 0x05C then some (stampWord t.stamp ((off - 0x050) / 4))
  else if off = 0x05C then some (nsWord t.err)
  else if off = 0x060 then some (w32 (flag 31 (t.edge.any fun e => decide (s.elapsed < e + 2 * second))))
  else none

/-! ### What a read of a page register returns -/

/-- The view of a page at an offset, if the offset is one. -/
def State.blockView (s : State) (page off : Nat) : Option Word :=
  match page with
  | 0x00 => s.devView off
  | 0x01 => s.intrView off
  | 0x02 => s.pwrView off
  | 0x03 => s.thmView off
  | 0x04 => s.tokenView off
  | 0x05 => s.planeView .a off
  | 0x06 => s.planeView .b off
  | 0x07 => s.bistView off
  | 0x08 => s.fuseView off
  | 0x09 => s.jrnlView off
  | 0x0A => s.mtxView off
  | 0x0B => s.ehrView .e0 off
  | 0x0C => s.ehrView .e1 off
  | 0x0D => s.chainView off
  | 0x10 => s.fabView off
  | 0x11 => s.bellView off
  | 0x12 => s.sheepView off
  | 0x13 => s.epochView off
  | 0x14 => s.loopView off
  | 0x15 => s.convView off
  | 0x16 => s.drvView off
  | 0x17 => s.traceView off
  | 0x40 => s.oscView off
  | 0x61 => s.laserView off
  | 0x68 => s.objView off
  | 0x6A => s.learnView off
  | 0x6B => s.ageView off
  | 0x6C => s.muleView off
  | 0x70 => s.schedView off
  | 0x71 => s.tgateView off
  | 0x78 => s.timeView off
  | 0x79 => s.ptpView off
  | 0x7A => s.ppsView off
  | _ =>
    if 0x20 ≤ page ∧ page < 0x33 then s.colView (page - 0x20) off
    else if 0x41 ≤ page ∧ page < 0x61 then s.oscgView (page - 0x41) off
    else none

/-- The present value of a register or window word of an occupied page. INT_FORCE, CMD and other WS fields read zero, and so
does what R308 lets read zero. -/
def State.pageView (s : State) (a : Nat) (i : PageInfo) : Word :=
  let page := a / 0x1000
  let off := a % 0x1000
  if off < 0x040 then s.headerView page off i
  else if i.win = false ∧ 0x800 ≤ off then 0
  else (s.blockView page off).getD (s.reg a)

end Sys2Proof.Machine
end

