-- ==== Sys2Proof/Machine/Writes.lean ====
section
/-!
DEFINITION. What a write of one word does: header registers, counters, RW and WC fields as each block chapter stores them
(R313, R314), table windows, and the regions a host may write (R299, R307). Writing CMD is Commands.lean's.
-/

namespace Sys2Proof.Machine

/-! ### Storing fields (R313 and the rules of each chapter on zero and limits) -/

/-- v with the fields (hi, lo) of the list kept from `old` where v has zero in them. -/
def keepZero (old v : Word) : List (Nat × Nat) → Word
  | [] => v
  | (hi, lo) :: t => keepZero old (if fld v hi lo = 0 then setFld v hi lo (fld old hi lo) else v) t

/-- v with a field cut to a limit. -/
def cap (v : Word) (hi lo limit : Nat) : Word := if limit < fld v hi lo then setFld v hi lo limit else v

/-- The value a register with RW fields stores, where its chapter does more than mask it. -/
def storeRule (a : Nat) (old v : Word) : Word :=
  if a = Reg.SHEEP_SETTLE then
    let v := keepZero old v [(23, 16), (3, 0)]
    if fld v 23 16 = 1 then setFld v 23 16 2 else v
  else if a = Reg.SHEEP_SETTLE_BAND then keepZero old v [(15, 0)]
  else if a = Reg.SHEEP_SETTLE_TO then
    let v := keepZero old v [(15, 0)]
    if fld v 15 0 < 7 then setFld v 15 0 7 else v
  else if a = Reg.LOOP_CFG then keepZero old v [(7, 0)]
  else if a = Reg.LOOP_RAMP_RATE then keepZero old v [(15, 8), (7, 0)]
  else if a = Reg.CONV_HWIN then cap v 19 0 1000000
  else if a = Reg.TOKEN_CFG then keepZero old v [(31, 16), (15, 12), (7, 0)]
  else if a = Reg.BIST_CFG then keepZero old v [(31, 16)]
  else if a = Reg.BIST_BUDGET then cap (keepZero old v [(7, 0)]) 7 0 200
  else if a = Reg.JRNL_CFG then cap (keepZero old v [(9, 0)]) 9 0 1000
  else if a = Reg.PAIR_CFG then cap (keepZero old v [(2, 0)]) 2 0 4
  else if a = Reg.LEARN_CFG then cap (keepZero old v [(25, 16)]) 25 16 1000
  else if a = Reg.AGE_INTERVAL then cap (keepZero old v [(11, 0)]) 11 0 3600
  else if a = Reg.TIME_STEP_LIMIT then keepZero old v [(31, 0)]
  else if a = Reg.TIME_SLEW_MAX then cap (keepZero old v [(16, 0)]) 16 0 100000
  else if a = Reg.TIME_LOCK_NS then keepZero old v [(15, 0)]
  else if a = Reg.PTP_PATH_STEP_LIMIT then keepZero old v [(15, 0)]
  else if a = Reg.PPS_OUT_WIDTH then keepZero old v [(19, 0)]
  else v

/-- What a stored write of a register leads to at once: WARM_ALL (R27), a new time source (R263), a new rate of a
slew (R266), a new decision of the best master clock algorithm (R260). -/
def State.afterStore (s : State) (a : Nat) (v : Word) : State :=
  if a = Reg.FAB_CFG then
    if bit v 1 then s.each (List.range 4352) fun s c => s.writeWarm c true else s
  else if a = Reg.TIME_CFG then s.sourceWritten
  else if a = Reg.TIME_SLEW_MAX then s.slewMaxWritten
  else if a = Reg.PTP_CFG ∨ (Reg.PTP_MEMBER0 ≤ a ∧ a ≤ Reg.PTP_DS_QUAL) then s.bmca
  else s

/-- WARM_ALL: FAB.CFG is written with WARM_ALL set, PARK_LIT_EN staying as it is (R27, R37). -/
def State.warmAll (s : State) : State := s.afterStore Reg.FAB_CFG 2

/-- A write to a block register with fields of its own; a counter counts after its clear what happens at that device time
(R314). -/
def State.rowWrite (s : State) (a : Nat) (r : RegRow) (v : Word) : State :=
  if r.counter then (if bit v 31 then s.setReg a (s.cleared a) else s)
  else
    let old := s.reg a
    let new := storeRule a old v &&& w32 r.rw
    (s.setReg a (new ||| (old &&& ~~~(w32 r.rw) &&& ~~~(v &&& w32 r.wc)))).afterStore a v

/-- Registers whose write its chapter makes an operation of its own, with the completion code; none elsewhere. `mine` is the
transaction the write came in. -/
def State.hookWrite (s : State) (mine : Option (BitVec 12)) (a : Nat) (v : Word) : Option (State × Nat) :=
  if a = Reg.PWR_CFG then some (s.modeWrite v)
  else if a = Reg.THM_WARN then some (s.levelWrite .warn v)
  else if a = Reg.THM_THROTTLE then some (s.levelWrite .throttle v)
  else if a = Reg.THM_SHUTDOWN then some (s.levelWrite .shutdown v)
  else if a = Reg.THM_RATE_RISE then some (s.rateWrite v, cDONE)
  else if a = Reg.JRNL_AUTO_RESTORE then some (s.autoRestore v, cDONE)
  else if a = Reg.MTX_PARK then some (s.parkWrite v)
  else if a = Reg.EHR_CFG .e0 then some (s.ehrCfg .e0 mine v)
  else if a = Reg.EHR_CFG .e1 then some (s.ehrCfg .e1 mine v)
  else if a = Reg.DRV_SC_FLAGS then some (s.scFlagClear v, cDONE)
  else if a = Reg.SCHED_HOST_SHP then some (s.shaperWrite 0x058 v, cDONE)
  else if a = Reg.SCHED_HOST_BURST then some (s.shaperWrite 0x05C v, cDONE)
  else if Reg.LEARN_SEL_NOROOM ≤ a ∧ a ≤ Reg.LEARN_SEL_MOVE_IN then
    let k := 3 * s.rf Reg.LEARN_LANE_SEL 8 0 + (a - Reg.LEARN_SEL_NOROOM) / 4
    some (if bit v 31 then s.updObj fun o => { o with cnts := tset (fun _ => 0) o.cnts k (s.cleared (2 ^ 32 + k)) } else s, cDONE)
  else none

/-! ### Header registers (R311, R317, R319) -/

/-- INT_FORCE: the assigned bits written as 1 set (R311, R317). -/
def State.intForce (s : State) (page : Nat) (v : Word) : State :=
  match pageInfo page with
  | none => s
  | some i =>
    let a := Reg.base page + 0x010
    s.setReg a (s.reg a ||| (v &&& w32 i.cause))

/-- A write to a header register; what happens at the device time of a clearing write counts and sets after it (R314, R317).
An effective SRST of page DEV begins the DEV soft reset. -/
def State.headerWrite (s : State) (page off : Nat) (v : Word) : State × Nat :=
  let a := Reg.base page + off
  if off = 0x008 then
    let due := s.softDue page v
    let r := s.pageCtrl page v
    (if due then r.1.beginReset 3 else r.1, r.2)
  else if off = 0x010 then ((s.setReg a ((s.reg a &&& ~~~v) ||| w32 (s.nowAt a))).released page v, cDONE)
  else if off = 0x014 then (s.setReg a v, cDONE)
  else if off = 0x018 then (s.intForce page v, cDONE)
  else if off = 0x01C then (if bit v 31 then s.setReg a (s.cleared a) else s, cDONE)
  else if off = 0x024 then (s.setReg a (v &&& 0xFFFF), cDONE)
  else (s, cDONE)

/-! ### Windows -/

/-- A write to a channel's configuration in the window of page TRACE (R130). -/
def State.traceWrite (s : State) (off : Nat) (v : Word) : State × Nat :=
  let st := (s.traceCh ((off - 0x800) / 16)).st
  if 0x900 ≤ off ∨ 8 ≤ off % 16 then (s, cDONE)
  else if st = 1 ∨ st = 2 then (s, cLOCKED)
  else (s.setReg (0x17000 + off) (v &&& (if off % 16 = 0 then 0x0007EFFF else 0x3FFF)), cDONE)

/-- A write to a word of a lane window (Table OSC-11). -/
def State.laneWrite (s : State) (g off : Nat) (v : Word) : State :=
  let i := 16 * g + (off - 0x800) / 128
  let k := off % 128
  if k = 0 then s.laneCfg i v
  else if 0x20 ≤ k ∧ k ≤ 0x50 then (if bit v 31 then s.setReg (laneWord i k) (s.cleared (laneWord i k)) else s)
  else s

/-- A write to a word of the window of page OSC: the staged flood sets (R214). -/
def State.floodWrite (s : State) (off : Nat) (v : Word) : State :=
  if off < 0x980 ∧ off % 0x80 < 0x40 then s.setReg (0x40000 + off) v
  else if off < 0x980 ∧ off % 0x80 = 0x40 then s.setReg (0x40000 + off) (v &&& 1)
  else s

/-- A write to a word of a page's window: the state and the completion code. -/
def State.windowWrite (s : State) (page off : Nat) (v : Word) : State × Nat :=
  let a := Reg.base page + off
  if page = 0x11 then (if off < 0xD00 then s.setReg a v else s, cDONE)
  else if page = 0x13 then
    (if 0xA00 ≤ off ∧ off < 0xE00 ∧ off % 16 ≠ 12 then s.setReg a (if off % 16 = 0 then v &&& 0xFF else v) else s, cDONE)
  else if page = 0x16 then
    (if off < 0xCC0 then
        let t := (off - 0x800) / 2
        (s.fwWrite t (fld v 15 0)).fwWrite (t + 1) (fld v 31 16)
      else s, cDONE)
  else if page = 0x17 then s.traceWrite off v
  else if page = 0x40 then (s.floodWrite off v, cDONE)
  else if 0x41 ≤ page ∧ page < 0x61 then (s.laneWrite (page - 0x41) off v, cDONE)
  else if page = 0x6A then
    (if off < 0xC00 then s.setReg a (half2 (min (fld v 15 0) 4095) (min (fld v 31 16) 4095)) else s, cDONE)
  else if page = 0x70 then
    (match s.shaperAt off with
      | some (k, 3) => if bit v 31 then s.setBucket k { s.bucket k with drop := s.cleared (dropAt k) } else s
      | _ => s.shaperWrite off v, cDONE)
  else if page = 0x79 then (s.setReg a v, cDONE)
  else (s, cDONE)

/-! ### Regions (Table REG-1) -/

/-- CELL_TABLE_WRITE: WARM is stored, PARK_LIT cleared by 1 (R27, R35). -/
def State.cellWrite (s : State) (c word : Nat) (v : Word) : State :=
  match word with
  | 0 => s.writeWarm c (bit v 24)
  | 4 => s.updCell c fun r => { r with parkLit := r.parkLit && !(bit v 1) }
  | _ => s

/-- The bits of a word of a gate control list that are stored (Table SCHED-1). -/
def gateMask (off : Nat) : Word :=
  if off < 0x200 then (if off % 8 = 0 then 0xFF else 0xFFFFFFFF)
  else if off = 0x200 then 0x7F else if off = 0x204 ∨ off = 0x208 then 0xFFFFFFFF
  else if off = 0x20C then 0xFFFF else 0

/-- A write to the gate control lists: only a staging bank takes it (R248). -/
def State.gateWrite (s : State) (a : Nat) (v : Word) : State × Nat :=
  let i := (a - 0x22000000) / 0x800
  let k := decide (0x400 ≤ a % 0x800)
  if (s.gate i).act = k ∨ (s.gate i).pend.isSome then (s, cLOCKED)
  else ({ s with mem := Memory.writeWord s.mem a (v &&& gateMask (a % 0x400)) }, cDONE)

end Sys2Proof.Machine
end

