-- ==== Sys2Proof/Machine/Commands.lean ====
section
/-!
DEFINITION. Commands of the register pages (R283, R320): which opcode of which page is which command, and which commands a
device takes in which state of its start-up and life (R338, R365, R371, R381). The commands themselves are operations of
their blocks.
-/

namespace Sys2Proof.Machine

/-- The pages whose registers and commands a device takes before READY: DEV, INTR, CHAIN, EHR0 and EHR1 (R371). -/
def earlyPage (page : Nat) : Bool := page == 0x00 || page == 0x01 || page == 0x0B || page == 0x0C || page == 0x0D

/-- The commands that complete with LOCKED in DIAG (R381): those of page BELL and EPOCH with PRESTAGE, FLOOD_APPLY, RECORD,
INSERT_STATIC and DELETE. PREPARE, which then sends 0x1202, is among them but answered by epochCmd (R72). -/
def diagLocked (page op : Nat) : Bool :=
  page == 0x11 || (page == 0x13 && op != 3) || (page == 0x40 && op == 1) || (page == 0x09 && op == 2)
    || (page == 0x6C && (op == 4 || op == 5))

/-- What becomes of an order before its command looks at it. -/
inductive CmdGate
  | serve
  | locked
  | busy
  | silent
  deriving DecidableEq, Repr

/-- The gate of a command of a page (R338, R365, R371, R381). -/
def State.cmdGate (s : State) (page op : Nat) : CmdGate :=
  match s.dev.inReset with
  | some c => if c = 4 then .busy else .silent
  | none =>
    if s.dev.state = 1 then .serve
    else if s.dev.state = 3 then (if diagLocked page op then .locked else .serve)
    else if earlyPage page then .serve
    else .busy

/-- The transaction an order came as is answered with BUSY, and nothing changes (R338, R371). -/
def State.refuseBusy (s : State) (o : Order) : State :=
  match o.reply with
  | none => s
  | some r =>
    let s := s.retire o.port r.tid
    if r.due then s.respond o.port o.seq r.tid r.mac r.addr cBUSY [] else s

/-- A command of a page is issued: its operation `k` runs unless the device's state bars it. A write to JRNL.CMD spends the
page's key also then (R378). -/
def State.hostCommand (s : State) (page op : Nat) (o : Order) (k : State → State) : State :=
  match s.cmdGate page op with
  | .serve => k s
  | .locked => (if page = 0x09 then s.spendKey else s).complete page op cLOCKED o
  | .busy => s.refuseBusy o
  | .silent => s

/-- Page BELL: requests (R40) and solver commands (R46, R52, R56). -/
def State.bellCmd (s : State) (op : Nat) (o : Order) (a0 a1 : Word) : State :=
  if 1 ≤ op ∧ op ≤ 6 then s.request s.objPort op o a0 a1
  else if op = 8 then s.solveIncr o
  else if op = 9 then s.solveFull o
  else if op = 10 then s.directMap o
  else if op = 11 then s.clearStage o
  else s.complete 0x11 op cBADARG o

/-- Page EPOCH (Table EPOCH-2). -/
def State.epochPageCmd (s : State) (op : Nat) (o : Order) (a0 a1 a2 a3 : Word) : State :=
  if 1 ≤ op ∧ op ≤ 4 then s.epochCmd ⟨op, o, a0, a1, a2, a3⟩
  else if op = 5 then s.prestage s.objPort o a0
  else s.complete 0x13 op cBADARG o

/-- Pages LOOP, CONV, DRV and TRACE (Tables LOOP-25 and CONV-13, R132, R172). -/
def State.loopCmd (s : State) (op : Nat) (o : Order) (a0 a1 : Word) : State :=
  if op = 1 then s.hostHold true o a0 a1 else if op = 2 then s.hostHold false o a0 a1
  else if op = 3 then s.clearFault o a0 a1 else if op = 4 then s.setPer o a0 a1
  else s.complete 0x14 op cBADARG o
def State.convCmd (s : State) (op : Nat) (o : Order) (a0 a1 : Word) : State :=
  if op = 1 then s.selfCal o a0 else if op = 2 then s.haccStart o a0 a1
  else if op = 3 then s.haccStop o a0 a1 else if op = 4 then s.inject o a0 a1
  else s.complete 0x15 op cBADARG o
def State.drvCmd (s : State) (op : Nat) (o : Order) (a0 a1 : Word) : State :=
  if op = 1 then s.setRange o a0 a1 else if op = 2 then s.sync o a0 a1 else s.complete 0x16 op cBADARG o
def State.traceCmd (s : State) (op : Nat) (o : Order) (a0 : Word) : State :=
  if op = 1 then s.traceArm o a0 else if op = 2 then s.traceStop o a0
  else if op = 3 then s.traceTrigger o a0 else if op = 4 then s.traceClear o a0
  else s.complete 0x17 op cBADARG o

/-- Page TOKEN (R200). -/
def State.tokenCmd (s : State) (op : Nat) (o : Order) (a0 : Word) : State :=
  if op = 1 then s.safeEnter o else if op = 2 then s.safeExit o else if op = 3 then s.handover o
  else if op = 4 then s.planeRestart o a0 else if op = 5 then s.resyncCmd o
  else s.complete 0x04 op cBADARG o

/-- Page MULE (Table OBJ-5): the learn events of a command's time-stamp come before it (R224). -/
def State.muleCmd (s : State) (op : Nat) (o : Order) (a0 a1 a2 : Word) : State :=
  let s := s.settleArrived
  if op = 1 then s.search o a0 else if op = 2 then s.next o a0 a1 else if op = 3 then s.flushLane o a0
  else if op = 4 then s.insertStatic o a0 a1 a2 else if op = 5 then s.delete o a0
  else s.complete 0x6C op cBADARG o

/-- Pages TGATE and TIME (R254, R274). -/
def State.tgateCmd (s : State) (op : Nat) (o : Order) (a0 a1 : Word) : State :=
  if op = 1 then s.gateApply o a0 a1 else if op = 2 then s.gateCancel o a0 a1 else s.complete 0x71 op cBADARG o
def State.timeCmd (s : State) (op : Nat) (o : Order) (a0 a1 a2 : Word) : State :=
  if op = 1 then s.setTime o a0 a1 a2 else if op = 2 then s.acceptStep o else if op = 3 then s.acceptPath o
  else if op = 4 then s.servoReset o else s.complete 0x78 op cBADARG o

/-- Pages DEV and JRNL (R380, R378); every write to JRNL.CMD spends the page's key. -/
def State.devCmd (s : State) (op : Nat) (o : Order) (a0 a1 : Word) : State :=
  if op = 1 then s.returnArm o a0 a1 else if op = 2 then s.returnCommit o a0 a1 else s.devBadOp op o
def State.jrnlCmd (s : State) (op : Nat) (o : Order) : State :=
  if op = 1 then s.wipe o
  else if op = 2 then s.spendKey.recordCmd o
  else s.spendKey.complete 0x09 op cBADARG o

/-- A page's command, once taken: opcode, order and argument words. -/
def State.pageCommand (s : State) (page op : Nat) (o : Order) (a0 a1 a2 a3 : Word) : State :=
  match page with
  | 0x00 => s.devCmd op o a0 a1
  | 0x04 => s.tokenCmd op o a0
  | 0x07 => if op = 1 then s.runBist o a0 a1 else s.complete 0x07 op cBADARG o
  | 0x09 => s.jrnlCmd op o
  | 0x0A => if op = 1 then s.masterResetCmd o a0 s.burstAt else s.complete 0x0A op cBADARG o
  | 0x0D => if op = 1 then s.chainReset o a0 else s.complete 0x0D op cBADARG o
  | 0x11 => s.bellCmd op o a0 a1
  | 0x13 => s.epochPageCmd op o a0 a1 a2 a3
  | 0x14 => s.loopCmd op o a0 a1
  | 0x15 => s.convCmd op o a0 a1
  | 0x16 => s.drvCmd op o a0 a1
  | 0x17 => s.traceCmd op o a0
  | 0x40 => if op = 1 then s.floodApply o a0 else s.complete 0x40 op cBADARG o
  | 0x61 => if op = 1 then s.retryLaser o a0 else s.complete 0x61 op cBADARG o
  | 0x6C => s.muleCmd op o a0 a1 a2
  | 0x70 => if op = 1 then s.copy o a0 a1 else s.complete 0x70 op cBADARG o
  | 0x71 => s.tgateCmd op o a0 a1
  | 0x78 => s.timeCmd op o a0 a1 a2
  | _ => s

/-- The opcode of a CMD word is issued with its arguments, as far as the device's state lets it (R283, R320). -/
def State.issueCommand (s : State) (page : Nat) (w : Word) (o : Order) (args : List Word) : State :=
  let op := fld w 7 0
  s.hostCommand page op o fun s =>
    s.pageCommand page op o (args.getD 0 0) (args.getD 1 0) (args.getD 2 0) (args.getD 3 0)

end Sys2Proof.Machine
end

