-- ==== Sys2Proof/Machine/Request.lean ====
section
/-!
DEFINITION. Requests on the Ehreri link (R280 to R284, R308, R312, R315, R316): which region an address lies in, reading
and writing one word through a port, whole READ, WRITE, RMW and COMMAND transactions, and the order of STRICT (R290).
-/

namespace Sys2Proof.Machine

/-! ### Regions of the address map (Tables REG-1 and REG-2) -/

/-- What an address lies in. -/
inductive Target
  | page (n : Nat) (i : PageInfo)
  | cells
  | elems
  | tiles
  | circuits
  | objects
  | pairs
  | gates
  | trace
  | journal
  | fuse
  | frames
  | nowhere
  deriving DecidableEq, Repr

/-- The regions above the register pages: base, end (exclusive), target. -/
def regions : List (Nat × Nat × Target) := [
  (0x10000000, 0x10022000, .cells), (0x10100000, 0x1014C000, .elems), (0x10200000, 0x10226000, .tiles),
  (0x10400000, 0x10404000, .circuits), (0x20000000, 0x20800000, .objects), (0x21000000, 0x21100000, .pairs),
  (0x22000000, 0x22100000, .gates), (0x30000000, 0x30100000, .trace), (0x40000000, 0x40200000, .journal),
  (0x50000000, 0x50020000, .fuse), (0x60000000, 0x60080000, .frames)]

/-- The region of an address, with its end; an unoccupied page slot and an address outside every region are nowhere. -/
def locate (a : Nat) : Target × Nat :=
  if a < 0x80000 then
    match pageInfo (a / 0x1000) with
    | some i => (.page (a / 0x1000) i, (a / 0x1000 + 1) * 0x1000)
    | none => (.nowhere, a)
  else match regions.find? fun r => decide (r.1 ≤ a ∧ a < r.2.1) with
    | some r => (r.2.2, r.2.1)
    | none => (.nowhere, a)

/-! ### Reading one word -/

/-- The multi-word value a page offset belongs to: offset of word 0 and number of words (R315). -/
def pageGroup (page off : Nat) : Option (Nat × Nat) :=
  let grp (l : List (Nat × Nat)) : Option (Nat × Nat) := l.find? fun g => decide (g.1 ≤ off ∧ off < g.1 + 4 * g.2)
  if page = 0x00 then grp [(0x054, 2)]
  else if page = 0x09 then grp [(0x060, 2)]
  else if page = 0x0B ∨ page = 0x0C then grp [(0x08C, 2), (0x094, 2), (0x09C, 2)]
  else if page = 0x13 then grp [(0x06C, 3)]
  else if page = 0x71 then grp [(0x060, 3)]
  else if page = 0x78 then grp [(0x05C, 3), (0x068, 2), (0x08C, 3), (0x0AC, 3)]
  else if page = 0x7A then grp [(0x050, 3)]
  else if 0x20 ≤ page ∧ page < 0x33 ∧ 0x800 ≤ off ∧ off < 0xA80 then
    (if off % 32 < 12 then some (off - off % 32, 3)
      else if off % 32 < 28 then some (off - off % 32 + 12, 4) else none)
  else if 0x41 ≤ page ∧ page < 0x61 ∧ 0x800 ≤ off then
    (if 0x10 ≤ off % 128 ∧ off % 128 < 0x20 then some (off - off % 8, 2) else none)
  else none

/-- The multi-word value an address belongs to: address of word 0 and number of words. -/
def groupOf (a : Nat) : Target → Option (Nat × Nat)
  | .page n _ => (pageGroup n (a % 0x1000)).map fun g => (n * 0x1000 + g.1, g.2)
  | .objects => some (a - a % 8, 2)
  | .pairs => some (a - a % 16, 4)
  | .journal => some (a - a % 8, 2)
  | _ => none

/-- A word of the fuse shadow; the life-cycle bits stand at its end (R357, R379). -/
def State.fuseWord (s : State) (off : Nat) : Word :=
  if off = 0x1FFF8 then w32 s.dev.lifeBits else if 0x1FFF8 ≤ off then 0 else w32 (fuseLE s.fuse off 4)

/-- The present value of the word at an address. -/
def State.present (s : State) (a : Nat) : Target → Word
  | .page _ i => s.pageView a i
  | .cells => s.cellWord ((a - 0x10000000) / 32) (a % 32 / 4)
  | .elems => s.elemWord ((a - 0x10100000) / 32) (a % 32 / 4)
  | .tiles => s.tileWord ((a - 0x10200000) / 256) (a % 256 / 4)
  | .circuits => s.circuitWord ((a - 0x10400000) / 32) (a % 32 / 4)
  | .objects =>
    match s.objAt ((a - 0x20000000) / 8) with
    | some e => if a % 8 = 0 then e.word0 else e.word1
    | none => 0
  | .pairs =>
    match s.pairAt ((a - 0x21000000) / 16) with
    | some e => if a % 16 = 0 then e.word0 else if a % 16 = 4 then e.word1 else 0
    | none => 0
  | .gates => Memory.readWord s.mem a
  | .trace => Memory.readWord s.mem a
  | .journal => Memory.readWord s.mem a
  | .fuse => s.fuseWord (a - 0x50000000)
  | .frames => 0
  | .nowhere => 0

/-- Does a read find zero with BUSY: a region being wiped (R240, R325, R366), the shadow before its load (R371), or the trace
memory of an armed channel (R130)? -/
def State.unready (s : State) (a : Nat) : Target → Bool
  | .objects => !s.obj.ready
  | .pairs => !s.obj.ready
  | .gates => !s.dev.wiped
  | .trace =>
    let st := (s.traceCh ((a - 0x30000000) / 0x10000)).st
    !s.dev.wiped || st == 1 || st == 2
  | .fuse => s.dev.fuseOk.isNone
  | _ => false

/-- An upper word that no read of word 0 has latched since reset reads its reset value (R315); the journal has none, and the
serial number never changes. -/
def State.unlatched (s : State) (a : Nat) (t : Target) : Word :=
  match t with
  | .journal => s.present a t
  | .page n i =>
    if n = 0 then s.pageView a i
    else if 0x20 ≤ n ∧ n < 0x33 ∧ a % 32 = 24 then 0x80007FFF else 0
  | _ => 0

/-- A latched word replaces an older one of the same address. -/
def relatch (a : Nat) (v : Word) (l : List Latched) : List Latched := ⟨a, v⟩ :: l.filter fun x => x.addr != a

/-- The present upper words of a value enter the port's snapshot (R315). -/
def State.latchUppers (s : State) (p : Port) (t : Target) (base n : Nat) : State :=
  let up := (List.range (n - 1)).map fun k => base + 4 * (k + 1)
  s.updLink p fun l => { l with snap := up.foldl (fun m a => relatch a (s.present a t) m) l.snap }

/-- What reading a word does beside returning it: RES_MAX (Table TIME-7) and WAIT_MAX (Table EHR-8) are cleared, the fuse
shadow is checked (R356). -/
def State.readEffect (s : State) (a : Nat) : Target → State
  | .page _ _ =>
    if a = Reg.PTP_RES_MAX then s.updTime fun t => { t with resMax := 0 }
    else if Reg.MTX_WAIT_MAX_T0 ≤ a ∧ a ≤ Reg.MTX_WAIT_MAX_T7 then
      { s with waits := tset (fun _ => 0) s.waits ((a - Reg.MTX_WAIT_MAX_T0) / 4) 0 }
    else s
  | .fuse => s.fuseRead ((a - 0x50000000) / 8)
  | _ => s

/-- One word read through a port: the state, the word and the code DONE or BUSY. -/
def State.readWord (s : State) (p : Port) (a : Nat) (t : Target) : State × Word × Nat :=
  if s.unready a t then (s, 0, cBUSY)
  else match groupOf a t with
    | some (b, n) =>
      if a = b then (s.latchUppers p t b n, s.present a t, cDONE)
      else match (s.link p).snap.find? fun x => x.addr == a with
        | some x => (s, x.value, cDONE)
        | none => (s, s.unlatched a t, cDONE)
    | none => (s.readEffect a t, s.present a t, cDONE)

/-- Words read in ascending order, with BUSY if any of them is (R281). -/
def State.readWords (s : State) (p : Port) (t : Target) : Nat → Nat → State × List Word × Nat
  | 0, _ => (s, [], cDONE)
  | n + 1, a =>
    let r := s.readWord p a t
    let q := r.1.readWords p t n (a + 4)
    (q.1, r.2.1 :: q.2.1, if r.2.2 = cDONE then q.2.2 else r.2.2)

/-! ### Writing one word -/

/-- Who writes: the port, the source sequence, and the transaction if there is one. -/
structure Writer where
  port : Port
  seq : BitVec 16
  tid : Option (BitVec 12)
  deriving DecidableEq, Repr

/-- The upper word of EHRn.PEER is staged, and committed with word 0 (R316). -/
def State.peerWrite (s : State) (w : Writer) (p : Port) (hi : Bool) (v : Word) : State :=
  let up := Reg.EHR_PEER_HI p
  if hi then s.updLink w.port fun l => { l with staged := relatch up (v &&& 0xFFFF) l.staged }
  else
    let st := (s.link w.port).staged.find? fun x => x.addr == up
    let s := s.setReg (Reg.EHR_PEER_LO p) v
    let s := match st with | some x => s.setReg up x.value | none => s
    s.updLink w.port fun l => { l with staged := l.staged.filter fun x => x.addr != up }

/-- The argument registers of a page, next after its CMD register. -/
def State.argRegs (s : State) (page cmd : Nat) : List Word :=
  (List.range 4).map fun k => s.reg (Reg.base page + cmd + 4 * (k + 1))

/-- A block register is written. -/
def State.blockWrite (s : State) (w : Writer) (page off : Nat) (i : PageInfo) (v : Word) : State × Nat :=
  let a := Reg.base page + off
  if i.cmd ≠ 0 ∧ off = i.cmd then
    (s.issueCommand page v ⟨w.port, w.seq, none⟩ (s.argRegs page i.cmd), cDONE)
  else if page = 0x0B ∧ (off = 0x050 ∨ off = 0x054) then (s.peerWrite w .e0 (off == 0x054) v, cDONE)
  else if page = 0x0C ∧ (off = 0x050 ∨ off = 0x054) then (s.peerWrite w .e1 (off == 0x054) v, cDONE)
  else match s.hookWrite w.tid a v with
    | some r => r
    | none =>
      match (blockRows page).find? fun r => r.off == off with
      | some r => (s.rowWrite a r v, cDONE)
      | none => (s, cDONE)

/-- A word of an occupied page is written; outside its registers and window the write is ignored (R308). -/
def State.pageWrite (s : State) (w : Writer) (page off : Nat) (i : PageInfo) (v : Word) : State × Nat :=
  if off < 0x040 then s.headerWrite page off v
  else if off < 0x800 then s.blockWrite w page off i v
  else if i.win then s.windowWrite page off v
  else (s, cDONE)

/-- A word is written through a port; read-only regions ignore it (R299). -/
def State.writeWord (s : State) (w : Writer) (a : Nat) (v : Word) : Target → State × Nat
  | .page n i => s.pageWrite w n (a % 0x1000) i v
  | .cells => (s.cellWrite ((a - 0x10000000) / 32) (a % 32 / 4) v, cDONE)
  | .elems => (s.elementWrite ((a - 0x10100000) / 32) (a % 32 / 4) v, cDONE)
  | .tiles => s.tileWrite ((a - 0x10200000) / 256) (a % 256 / 4) v
  | .gates => if s.dev.wiped then s.gateWrite a v else (s, cBUSY)
  | .frames => (s, cBADARG)
  | .nowhere => (s, cBADARG)
  | _ => (s, cDONE)

/-- Words with their addresses, ascending, but word 0 of EHRn.PEER after its upper word (R281). -/
def ordered : Nat → List Word → List (Nat × Word)
  | _, [] => []
  | a, [v] => [(a, v)]
  | a, v :: u :: l =>
    if a = Reg.EHR_PEER_LO .e0 ∨ a = Reg.EHR_PEER_LO .e1 then (a + 4, u) :: (a, v) :: ordered (a + 8) l
    else (a, v) :: ordered (a + 4) (u :: l)

/-- Words are applied in order; the code is the first that is not DONE. -/
def State.applyWords (s : State) (w : Writer) (t : Target) : List (Nat × Word) → State × Nat
  | [] => (s, cDONE)
  | (a, v) :: l =>
    let r := s.writeWord w a v t
    let q := r.1.applyWords w t l
    (q.1, if r.2 = cDONE then q.2 else r.2)

/-- A host access to a page that completes with BADARG or LOCKED is counted once, one outside every region or to an
unoccupied page on page DEV (R308, R312). -/
def State.countError (s : State) (t : Target) (code : Nat) : State :=
  if code = cBADARG ∨ code = cLOCKED then
    match t with
    | .page n _ => s.count (Reg.base n + 0x01C)
    | .nowhere => s.count (Reg.base 0 + 0x01C)
    | _ => s
  else s

/-- Words are written from an address by a port: the state and the code, errors counted. -/
def State.hostWrite (s : State) (w : Writer) (a : Nat) (vs : List Word) : State × Nat :=
  let t := (locate a).1
  let r := s.applyWords w t (ordered a vs)
  (r.1.countError t r.2, r.2)

/-! ### Requests (R280 to R283) -/

/-- What becomes of a request before it is executed (R338, R371, R381). -/
def State.reqGate (s : State) (op : Nat) (t : Target) : CmdGate :=
  let page := match t with | .page n _ => some n | _ => none
  match s.dev.inReset with
  | some c =>
    if c ≠ 4 then .silent
    else if op = 0 ∧ (page = some 0x00 ∨ page = some 0x02 ∨ page = some 0x03) then .serve else .busy
  | none =>
    if s.dev.state = 1 ∨ op = 0 then .serve
    else if 1 ≤ op ∧ op ≤ 4 ∧ page.any earlyPage then .serve
    else if s.dev.state = 3 then (if op = 7 then .locked else .serve)
    else .busy

/-- Is a READ, WRITE, WRITE_POSTED, RMW or COMMAND malformed (R280)? -/
def malformed (op : Nat) (f : LinkFrame) (t : Target) (fin : Nat) : Bool :=
  let a := f.addr.toNat
  decide (a % 4 ≠ 0) || decide (352 < f.len.toNat) || (op != 0 && decide (f.payload.length < f.len.toNat))
    || t == .nowhere || (op != 4 && t == .frames) || (op == 3 && f.len != 2)
    || ((op == 0 || op == 1 || op == 2) && decide (fin < a + 4 * f.len.toNat))

/-- A request ends with an error of its own. -/
def State.rejectRequest (s : State) (p : Port) (op : BitVec 4) (f : LinkFrame) (t : Target) : State :=
  (s.countError t cBADARG).reply p op f cBADARG []

/-- READ (R281). -/
def State.doRead (s : State) (p : Port) (f : LinkFrame) (t : Target) : State :=
  let r := s.readWords p t f.len.toNat f.addr.toNat
  r.1.reply p 0 f r.2.2 r.2.1

/-- WRITE and WRITE_POSTED (R281). -/
def State.doWrite (s : State) (p : Port) (op : BitVec 4) (f : LinkFrame) : State :=
  let r := s.hostWrite ⟨p, f.seq, some f.tid⟩ f.addr.toNat (f.payload.take f.len.toNat)
  r.1.reply p op f r.2 []

/-- RMW (R282): the response carries the old value. -/
def State.doRmw (s : State) (p : Port) (f : LinkFrame) (t : Target) : State :=
  let a := f.addr.toNat
  let mask := f.payload.getD 0 0
  let old := s.readWord p a t
  if old.2.2 ≠ cDONE then old.1.reply p 3 f old.2.2 [old.2.1]
  else
    let new := (old.2.1 &&& ~~~mask) ||| (f.payload.getD 1 0 &&& mask)
    let r := old.1.hostWrite ⟨p, f.seq, some f.tid⟩ a [new]
    r.1.reply p 3 f r.2 [old.2.1]

/-- COMMAND (R283): the order answers when its command completes. -/
def State.doCommand (s : State) (p : Port) (f : LinkFrame) (t : Target) : State :=
  match t with
  | .page n i =>
    if i.cmd ≠ 0 ∧ f.addr.toNat % 0x1000 = i.cmd then
      let words := f.payload.take f.len.toNat
      s.issueCommand n (words.getD 0 0) ⟨p, f.seq, some ⟨f.tid, f.src, f.addr, answerDue 4 f⟩⟩ (words.drop 1)
    else s.rejectRequest p 4 f t
  | _ => s.rejectRequest p 4 f t

/-- A request with an address is executed. -/
def State.access (s : State) (p : Port) (op : BitVec 4) (f : LinkFrame) : State :=
  let w := locate f.addr.toNat
  if f.len = 0 ∧ op ≠ 3 then s.reply p op f cZERO []
  else if malformed op.toNat f w.1 w.2 then s.rejectRequest p op f w.1
  else if op = 0 then s.doRead p f w.1
  else if op = 3 then s.doRmw p f w.1
  else if op = 4 then s.doCommand p f w.1
  else s.doWrite p op f

/-- A request is issued (R289): PING and ENUM always; everything else as far as the device's state lets it; opcodes no host sends
complete with BADARG (R279). -/
def State.issue (s : State) (p : Port) (op : BitVec 4) (f : LinkFrame) : State :=
  if op = 9 then s.ping p f
  else if op = 8 then s.enumIssue p f
  else match s.reqGate op.toNat (locate f.addr.toNat).1 with
    | .silent => s
    | .busy => s.reply p op f cBUSY []
    | .locked => s.reply p op f cLOCKED []
    | .serve =>
      if op.toNat ≤ 4 then s.access p op f
      else if op = 7 then s.frameSegment p f
      else s.reply p op f cBADARG []

/-- A frame comes in on a port: it is received, taken and issued (R294, R289), ENUM under R296. -/
def State.incoming (s : State) (p : Port) (op : BitVec 4) (f : LinkFrame) : State :=
  if op = 8 then s.enum p f fun s => s.issue p op f
  else s.receive p op f fun s => s.take p op f fun s => s.issue p op f

/-- A frame that the loopback of a port returns is received there (Table EHR-6): the device's own RESPONSE and EVENT are for no
device, and neither they nor anything else is forwarded (R294). -/
def State.echo (s : State) (p : Port) (x : BitVec 4 × LinkFrame) : State :=
  if x.1 = 5 ∨ x.1 = 6 then s.relay p x.1 x.2 else s.incoming p x.1 x.2

/-- Everything that loopback returns on a port is received. -/
def State.echoPort (s : State) (p : Port) : State :=
  (s.link p).looped.foldl (fun s x => s.echo p x) (s.updLink p fun l => { l with looped := [] })

/-! ### Requests that wait under STRICT (R290) -/

/-- Is every outstanding request of a port still waiting for its turn: have all it issued been answered or applied? -/
def LinkPort.turn (l : LinkPort) : Bool := l.out.length == (l.waiting.filter fun x => x.code.isNone).length

/-- What waits first at a port has its turn: a request is issued, one that was turned away is answered. -/
def State.nextTurn (s : State) (p : Port) (x : Waiter) : State :=
  match x.code with
  | none => s.issue p x.op x.frame
  | some c => s.turnedAway p x.op x.frame c

/-- What waits at a port has its turn once no earlier request is outstanding; n bounds how many. -/
def State.drainPort (s : State) (p : Port) : Nat → State
  | 0 => s
  | n + 1 =>
    match (s.link p).waiting with
    | [] => s
    | x :: t =>
      if (s.link p).turn then ((s.updLink p fun l => { l with waiting := t }).nextTurn p x).drainPort p n else s

/-- Both ports take what loopback returns, and go on with what no longer has to wait. -/
def State.drain (s : State) : State :=
  let s := (s.echoPort .e0).echoPort .e1
  let s := s.drainPort .e0 (s.link .e0).waiting.length
  s.drainPort .e1 (s.link .e1).waiting.length

/-! ### Accesses that stand as commands of their own -/

/-- SNAPSHOT_READ (R315): a port reads an aligned address; the state after it. -/
def State.snapshotRead (s : State) (p : Port) (a : Nat) : State :=
  let t := (locate a).1
  if a % 4 ≠ 0 ∨ t = .nowhere ∨ t = .frames then s.countError t cBADARG
  else match s.reqGate 0 t with
    | .serve => (s.readWord p a t).1
    | _ => s

/-- Words are written to registers by a port, as far as the device's state lets it (R313, R316, R371); they may not cross
the end of the page (R280). -/
def State.registerWrite (s : State) (p : Port) (seq : BitVec 16) (a : Nat) (vs : List Word) : State :=
  let w := locate a
  match s.reqGate 1 w.1 with
  | .serve =>
    if w.2 < a + 4 * vs.length then s.countError w.1 cBADARG else (s.hostWrite ⟨p, seq, none⟩ a vs).1
  | _ => s

/-- One write of a register by its own row (R312, R371): `k` gives the state and the code, an error is counted on the
page. -/
def State.ownWrite (s : State) (page : Nat) (k : State → State × Nat) : State :=
  match pageInfo page with
  | none =>
    match s.reqGate 1 .nowhere with
    | .serve => s.countError .nowhere cBADARG
    | _ => s
  | some i =>
    match s.reqGate 1 (.page page i) with
    | .serve =>
      let r := k s
      r.1.countError (.page page i) r.2
    | _ => s

/-- One write of a table region by its own row. -/
def State.tableWrite (s : State) (t : Target) (k : State → State × Nat) : State :=
  match s.reqGate 1 t with
  | .serve => (k s).1
  | _ => s

end Sys2Proof.Machine
end

