-- ==== Sys2Proof/Machine/Run.lean ====
section
/-!
DEFINITION. What surrounds every command: time passes, the command acts, and whatever follows from the state it leaves
follows at the same instant (feeds, deglitch holds, health, safe-hold, deferral, self-test, loop lock, BIST_HOLD, waiting
requests, nINT).
-/

namespace Sys2Proof.Machine

/-- Each crossing of HEALTH_MIN by a plane is reported (R189). -/
def State.noteHealth (old s : State) (pl : Plane) : State :=
  if old.healthy pl = s.healthy pl then s
  else (s.cause 0x04 5).event 0x04 0x3006 (pay [planeIdx pl, (s.plane pl).score])

/-- Frames are discarded when safe-hold begins (R217). -/
def State.noteSafe (old s : State) : State := if old.safe.active = false ∧ s.safe.active then s.discardFrames else s

/-- Is nINT asserted (R317)? -/
def State.nintNow (s : State) : Bool :=
  s.dev.inReset.isNone && s.rb Reg.INTR_CFG 0 && (List.range 128).any fun n => (pageInfo n).isSome && s.pend n

/-- nINT follows its condition; its assertions are counted (R317, R318). -/
def State.noteInt (s : State) : State :=
  let n := s.nintNow
  let s := if n && !s.nint then s.count Reg.INTR_NINT_CNT else s
  { s with nint := n }

/-- What follows in a device that was in operation before the command and is after it. -/
def State.follow (old s : State) : State :=
  let s := State.noteHealth old (State.noteHealth old s .a) .b
  let s := State.noteSafe old s.safeFollow
  (s.noteDefer.followBist old).noteLock.holdCheck

/-- Deglitch holds begin where a command has changed what the token plane drives (R161), in a device in operation. -/
def State.noteDrives (old s : State) : State :=
  if s.dev.inReset.isNone && old.dev.inReset.isNone then State.noteHolds old s else s

/-- What follows from every command. -/
def State.finish (old s : State) : State :=
  let s := s.powerCheck
  let s := if s.dev.inReset.isNone && old.dev.inReset.isNone then State.follow old s else s
  (State.noteDrives old s.drain).noteInt

/-- What no command undoes or touches: the fuse array and the antifuse cells keep what is programmed (R379), and the queue
of waiting commands is not a command's. A marker that time has programmed stays so (R380). -/
def State.keepFuses (old s : State) : State :=
  { s with
    pending := old.pending
    fuse := old.fuse
    dev := { s.dev with
      lifeBits := old.dev.lifeBits
      marker := max (max old.dev.marker (if old.returnWiping then 8 else 0)) s.dev.marker } }

/-- The state a command leaves, from the state before it, the time that passed, and the state right after its own effect. -/
def State.seal (s : State) (dt : Nat) (u : State) : State := State.keepFuses s (State.finish (s.advance dt) u)

/-- A command with the effect `f`, dt after the one before it. In life-cycle states BLANK and TEST the manual specifies
nothing (R379). -/
def State.runAny (s : State) (dt : Nat) (f : State → State) : Host.Outcome State Fault Refusal :=
  if s.lifeState < 2 then .fault .lifecycleUnspecified else .next (s.seal dt (f (s.advance dt)))

/-- A command that only a device out of reset takes: in a reset time passes and nothing else happens (R364, R365). -/
def State.run (s : State) (dt : Nat) (f : State → State) : Host.Outcome State Fault Refusal :=
  s.runAny dt fun s => if s.dev.inReset.isSome then s else f s

/-- A host command of a page (R320), as far as the device's state lets it. -/
def State.runCmd (s : State) (dt page op : Nat) (o : Order) (f : State → State) : Host.Outcome State Fault Refusal :=
  s.runAny dt fun s => s.hostCommand page op o f

end Sys2Proof.Machine
end

