-- ==== Sys2Proof/Machine/RowsBist.lean ====
section
/-!
DEFINITION. Self-test: slices and RUN (chapter 17). One meaning per command over the operations of its block.
-/

namespace Sys2Proof.Machine

/-- SLICE_START (R346). -/
def execSliceStart (dt : Nat) (pl : Plane) (s : State) : Host.Outcome State Fault Refusal :=
  s.run dt fun s => s.sliceStart pl

/-- SLICE_END with the reading of each of the slice's checks and that of its repeat, which counts where it fails (R344,
R349). -/
def execSliceEnd (dt : Nat) (pl : Plane) (readings : List (CheckReading × CheckReading))
    (s : State) : Host.Outcome State Fault Refusal :=
  s.run dt fun s => s.sliceEnd pl (readings.map (·.1)) (readings.map (·.2))

/-- SLICE_BUDGET_END (R348). -/
def execSliceBudgetEnd (dt : Nat) (pl : Plane) (s : State) : Host.Outcome State Fault Refusal :=
  s.run dt fun s => s.sliceBudgetEnd pl

/-- RUN (R355). -/
def execRun (dt : Nat) (o : Order) (a0 a1 : Word) (s : State) : Host.Outcome State Fault Refusal :=
  s.runCmd dt 0x07 1 o fun s => s.runBist o a0 a1

/-- TEST_ACCESS_PORT (R396). -/
def execTestAccessPort (dt : Nat) (op : TapOp) (s : State) : Host.Outcome State Fault Refusal :=
  s.runAny dt fun s => s.tapOp op

end Sys2Proof.Machine
end

