-- ==== Sys2Proof/Machine/RowsConv.lean ====
section
/-!
DEFINITION. Monitor conversion: conversions, calibration, host windows and the Tile Table (chapter 07). One meaning
per command over the operations of its block.
-/

namespace Sys2Proof.Machine

/-- CONVERSION_SLOT (R137). -/
def execConversionSlot (dt : Nat) (pl : Plane) (t : Fin 608) (raw0 raw1 : BitVec 12)
    (s : State) : Host.Outcome State Fault Refusal :=
  s.run dt fun s => s.conversionSlot pl t raw0 raw1

/-- INJECTION_REQUEST (R148). -/
def execInjectionRequest (dt : Nat) (pl : Plane) (t : Fin 608) (who : InjWho) (chan : Fin 20) (acq gain : Fin 4) (acquiring : Bool)
    (s : State) : Host.Outcome State Fault Refusal :=
  s.run dt fun s => s.injectFor pl t who chan acq gain acquiring

/-- INJECTION_COMPLETE (R147). -/
def execInjectionComplete (dt : Nat) (pl : Plane) (t : Fin 608) (raw : BitVec 12)
    (s : State) : Host.Outcome State Fault Refusal :=
  s.run dt fun s => s.injectionComplete pl t raw

/-- INJECT (R150). -/
def execInject (dt : Nat) (o : Order) (a0 a1 : Word) (s : State) : Host.Outcome State Fault Refusal :=
  s.runCmd dt 0x15 4 o fun s => s.inject o a0 a1

/-- SELF_CAL (R151). -/
def execSelfCal (dt : Nat) (o : Order) (a0 : Word) (s : State) : Host.Outcome State Fault Refusal :=
  s.runCmd dt 0x15 1 o fun s => s.selfCal o a0

/-- CAL_DONE (R152). -/
def execCalDone (dt : Nat) (pl : Plane) (readings : List CalReading) (s : State) : Host.Outcome State Fault Refusal :=
  s.run dt fun s => s.calDone pl readings

/-- HACC_START (R146). -/
def execHaccStart (dt : Nat) (o : Order) (a0 a1 : Word) (s : State) : Host.Outcome State Fault Refusal :=
  s.runCmd dt 0x15 2 o fun s => s.haccStart o a0 a1

/-- HACC_STOP (R146). -/
def execHaccStop (dt : Nat) (o : Order) (a0 a1 : Word) (s : State) : Host.Outcome State Fault Refusal :=
  s.runCmd dt 0x15 3 o fun s => s.haccStop o a0 a1

/-- HACC_DONE (R146). -/
def execHaccDone (dt : Nat) (s : State) : Host.Outcome State Fault Refusal :=
  s.run dt fun s => s.haccDone

/-- RING_CALIBRATION (R136). -/
def execRingCalibration (dt : Nat) (pl : Plane) (residuals : List RingResidual)
    (s : State) : Host.Outcome State Fault Refusal :=
  s.run dt fun s => s.ringCalibration pl residuals

/-- TILE_TABLE_WRITE (R153). -/
def execTileTableWrite (dt : Nat) (t : Fin 608) (word : Fin 64) (v : Word)
    (s : State) : Host.Outcome State Fault Refusal :=
  s.run dt fun s => s.tableWrite .tiles fun s => s.tileWrite t word v

end Sys2Proof.Machine
end

