-- ==== Sys2Proof/Machine/RowsDrive.lean ====
section
/-!
DEFINITION. Element drive: range, sine generators, short circuits, nCLR and relighting (chapter 08). One meaning per
command over the operations of its block.
-/

namespace Sys2Proof.Machine

/-- SET_RANGE (R160). -/
def execSetRange (dt : Nat) (o : Order) (a0 a1 : Word) (s : State) : Host.Outcome State Fault Refusal :=
  s.runCmd dt 0x16 1 o fun s => s.setRange o a0 a1

/-- SYNC (R170). -/
def execSync (dt : Nat) (o : Order) (a0 a1 : Word) (s : State) : Host.Outcome State Fault Refusal :=
  s.runCmd dt 0x16 2 o fun s => s.sync o a0 a1

/-- FW_WRITE (R170). -/
def execFwWrite (dt : Nat) (t : Fin 608) (fw : BitVec 16) (s : State) : Host.Outcome State Fault Refusal :=
  s.run dt fun s => s.ownWrite 0x16 fun s => (s.fwWrite t fw.toNat, cDONE)

/-- DEGLITCH_HOLD_END (R161). -/
def execDeglitchHoldEnd (dt : Nat) (e : Fin 9728) (s : State) : Host.Outcome State Fault Refusal :=
  s.run dt fun s => s.holdEnd e

/-- DRV_SC (R162). -/
def execDrvSc (dt : Nat) (pl : Plane) (e : Fin 9728) (s : State) : Host.Outcome State Fault Refusal :=
  s.run dt fun s => (s.noteLimit pl e).drvSc pl e

/-- SC_FLAG_CLEAR (R163). -/
def execScFlagClear (dt : Nat) (v : Word) (s : State) : Host.Outcome State Fault Refusal :=
  s.run dt fun s => s.ownWrite 0x16 fun s => (s.scFlagClear v, cDONE)

/-- NCLR_FALL (R164). -/
def execNclrFall (dt : Nat) (s : State) : Host.Outcome State Fault Refusal :=
  s.runAny dt fun s => if s.dev.inReset.isSome then s.nclrInReset true else s.nclrFall

/-- NCLR_RISE (R166). -/
def execNclrRise (dt : Nat) (s : State) : Host.Outcome State Fault Refusal :=
  s.runAny dt fun s => if s.dev.inReset.isSome then s.nclrInReset false else s.nclrRise

/-- INPUT_VOA_RELEASE (R166). -/
def execInputVoaRelease (dt : Nat) (p : Fin 512) (s : State) : Host.Outcome State Fault Refusal :=
  s.run dt fun s => s.inputVoaRelease p

/-- RELIGHT_TIMEOUT (R166). -/
def execRelightTimeout (dt : Nat) (q : Fin 512) (s : State) : Host.Outcome State Fault Refusal :=
  s.run dt fun s => s.relightTimeout q

/-- DITHER_TICK (R168). -/
def execDitherTick (dt : Nat) (s : State) : Host.Outcome State Fault Refusal :=
  s.run dt fun s => s.ditherTick

end Sys2Proof.Machine
end

