-- ==== Sys2Proof/Machine/RowsEpoch.lean ====
section
/-!
DEFINITION. Epochs: commands of page EPOCH and what ends, holds or performs them (chapter 04). One meaning per command
over the operations of its block.
-/

namespace Sys2Proof.Machine

/-- PREPARE (R72). -/
def execPrepare (dt : Nat) (o : Order) (a0 a3 : Word) (s : State) : Host.Outcome State Fault Refusal :=
  s.runCmd dt 0x13 3 o fun s => s.epochCmd ⟨3, o, a0, 0, 0, a3⟩

/-- PREPARE_DONE (R72). -/
def execPrepareDone (dt : Nat) (s : State) : Host.Outcome State Fault Refusal :=
  s.run dt fun s => s.prepareDone

/-- COMMIT_NOW (R76). -/
def execCommitNow (dt : Nat) (o : Order) (a0 a3 : Word) (s : State) : Host.Outcome State Fault Refusal :=
  s.runCmd dt 0x13 1 o fun s => s.epochCmd ⟨1, o, a0, 0, 0, a3⟩

/-- COMMIT_AT (R77). -/
def execCommitAt (dt : Nat) (o : Order) (a0 a1 a2 a3 : Word) (s : State) : Host.Outcome State Fault Refusal :=
  s.runCmd dt 0x13 2 o fun s => s.epochCmd ⟨2, o, a0, a1, a2, a3⟩

/-- ABORT (R75). -/
def execAbort (dt : Nat) (o : Order) (a0 a3 : Word) (s : State) : Host.Outcome State Fault Refusal :=
  s.runCmd dt 0x13 4 o fun s => s.epochCmd ⟨4, o, a0, 0, 0, a3⟩

/-- PRESTAGE (R83). -/
def execPrestage (dt : Nat) (o : Order) (a0 : Word) (s : State) : Host.Outcome State Fault Refusal :=
  s.runCmd dt 0x13 5 o fun s => s.prestage s.objPort o a0

/-- LEASE_EXPIRY (R74). -/
def execLeaseExpiry (dt : Nat) (s : State) : Host.Outcome State Fault Refusal :=
  s.run dt fun s => s.expire

/-- SCHEDULED_TIME_REACHED (R80). -/
def execScheduledTimeReached (dt : Nat) (s : State) : Host.Outcome State Fault Refusal :=
  s.run dt fun s => s.reachT

/-- COMMIT (R63). -/
def execCommit (dt : Nat) (s : State) : Host.Outcome State Fault Refusal :=
  s.run dt fun s => s.commitWaiting

/-- RESTORE_COMMIT (R84). -/
def execRestoreCommit (dt : Nat) (s : State) : Host.Outcome State Fault Refusal :=
  s.run dt fun s => s.restoreCommit

end Sys2Proof.Machine
end

