-- ==== Sys2Proof/Machine/RowsLink.lean ====
section
/-!
DEFINITION. Ehreri link: link state, requests, enumeration, forwarding and events (chapter 14). One meaning per
command over the operations of its block.
-/

namespace Sys2Proof.Machine

/-- In a power-on reset and under nRESET the lines do not train (R365). -/
def State.lineHeld (s : State) : Bool := s.dev.inReset == some 1 || s.dev.inReset == some 2

/-- EHR_LINK_UP (R277). -/
def execEhrLinkUp (dt : Nat) (p : Port) (s : State) : Host.Outcome State Fault Refusal :=
  s.runAny dt fun s => s.ehrUp p

/-- EHR_LINK_DOWN (R277). -/
def execEhrLinkDown (dt : Nat) (p : Port) (s : State) : Host.Outcome State Fault Refusal :=
  s.runAny dt fun s => s.ehrDown p

/-- HI_BER (R277). -/
def execHiBer (dt : Nat) (p : Port) (s : State) : Host.Outcome State Fault Refusal :=
  s.runAny dt fun s => if s.lineHeld then s else s.hiBer p

/-- FEC_UNCORR (R277). -/
def execFecUncorr (dt : Nat) (p : Port) (s : State) : Host.Outcome State Fault Refusal :=
  s.runAny dt fun s => if s.lineHeld then s else s.fecUncorr p

/-- BLOCK_LOCK (R277). -/
def execBlockLock (dt : Nat) (p : Port) (s : State) : Host.Outcome State Fault Refusal :=
  s.runAny dt fun s => if s.lineHeld then s else s.blockLock p

/-- READ (R281). -/
def execRead (dt : Nat) (p : Port) (f : LinkFrame) (s : State) : Host.Outcome State Fault Refusal :=
  s.runAny dt fun s => s.incoming p 0x0 f

/-- WRITE (R281). -/
def execWrite (dt : Nat) (p : Port) (f : LinkFrame) (s : State) : Host.Outcome State Fault Refusal :=
  s.runAny dt fun s => s.incoming p 0x1 f

/-- WRITE_POSTED (R281). -/
def execWritePosted (dt : Nat) (p : Port) (f : LinkFrame) (s : State) : Host.Outcome State Fault Refusal :=
  s.runAny dt fun s => s.incoming p 0x2 f

/-- RMW (R282). -/
def execRmw (dt : Nat) (p : Port) (f : LinkFrame) (s : State) : Host.Outcome State Fault Refusal :=
  s.runAny dt fun s => s.incoming p 0x3 f

/-- COMMAND (R283). -/
def execCommand (dt : Nat) (p : Port) (f : LinkFrame) (s : State) : Host.Outcome State Fault Refusal :=
  s.runAny dt fun s => s.incoming p 0x4 f

/-- FRAME (R284). -/
def execFrame (dt : Nat) (p : Port) (f : LinkFrame) (s : State) : Host.Outcome State Fault Refusal :=
  s.runAny dt fun s => s.incoming p 0x7 f

/-- ENUM_ASSIGN (R296). -/
def execEnumAssign (dt : Nat) (p : Port) (f : LinkFrame) (s : State) : Host.Outcome State Fault Refusal :=
  s.runAny dt fun s => s.incoming p 0x8 f

/-- ENUM_FINAL (R296). -/
def execEnumFinal (dt : Nat) (p : Port) (f : LinkFrame) (s : State) : Host.Outcome State Fault Refusal :=
  s.runAny dt fun s => s.incoming p 0x8 f

/-- PING (R287). -/
def execPing (dt : Nat) (p : Port) (f : LinkFrame) (s : State) : Host.Outcome State Fault Refusal :=
  s.runAny dt fun s => s.incoming p 0x9 f

/-- INVALID_OPCODE (R279). -/
def execInvalidOpcode (dt : Nat) (p : Port) (op : BitVec 4) (f : LinkFrame)
    (s : State) : Host.Outcome State Fault Refusal :=
  s.runAny dt fun s => s.incoming p op f

/-- FORWARD (R294). -/
def execForward (dt : Nat) (p : Port) (op : BitVec 4) (f : LinkFrame) (s : State) : Host.Outcome State Fault Refusal :=
  s.runAny dt fun s => s.forward p op f

/-- EVENT_SEND (R286). -/
def execEventSend (dt n : Nat) (s : State) : Host.Outcome State Fault Refusal :=
  s.runAny dt fun s => s.eventSend n

end Sys2Proof.Machine
end

