-- ==== Sys2Proof/Machine/RowsLoop.lean ====
section
/-!
DEFINITION. Loops and tracing: loop updates, the Element Table, the Cell Table, and the commands of pages LOOP and
TRACE (chapters 02 and 06). One meaning per command over the operations of its block.
-/

namespace Sys2Proof.Machine

/-- LOOP_UPDATE (R119). -/
def execLoopUpdate (dt : Nat) (pl : Plane) (e : Fin 9728) (s : State) : Host.Outcome State Fault Refusal :=
  s.run dt fun s => s.loopUpdate pl e

/-- ELEMENT_TABLE_WRITE (R127). -/
def execElementTableWrite (dt : Nat) (e : Fin 9728) (word : Fin 8) (v : Word)
    (s : State) : Host.Outcome State Fault Refusal :=
  s.run dt fun s => s.tableWrite .elems fun s => (s.elementWrite e word v, cDONE)

/-- CELL_TABLE_WRITE (R35). -/
def execCellTableWrite (dt : Nat) (c : Fin 4352) (word : Fin 8) (v : Word)
    (s : State) : Host.Outcome State Fault Refusal :=
  s.run dt fun s => s.tableWrite .cells fun s => (s.cellWrite c word v, cDONE)

/-- WARM_ALL (R27). -/
def execWarmAll (dt : Nat) (s : State) : Host.Outcome State Fault Refusal :=
  s.run dt fun s => s.ownWrite 0x10 fun s => (s.warmAll, cDONE)

/-- HOLD (R131). -/
def execHold (dt : Nat) (o : Order) (a0 a1 : Word) (s : State) : Host.Outcome State Fault Refusal :=
  s.runCmd dt 0x14 1 o fun s => s.hostHold true o a0 a1

/-- RESUME (R131). -/
def execResume (dt : Nat) (o : Order) (a0 a1 : Word) (s : State) : Host.Outcome State Fault Refusal :=
  s.runCmd dt 0x14 2 o fun s => s.hostHold false o a0 a1

/-- CLEAR_FAULT (R126). -/
def execClearFault (dt : Nat) (o : Order) (a0 a1 : Word) (s : State) : Host.Outcome State Fault Refusal :=
  s.runCmd dt 0x14 3 o fun s => s.clearFault o a0 a1

/-- SET_PER (R131). -/
def execSetPer (dt : Nat) (o : Order) (a0 a1 : Word) (s : State) : Host.Outcome State Fault Refusal :=
  s.runCmd dt 0x14 4 o fun s => s.setPer o a0 a1

/-- ARM (R130). -/
def execArm (dt : Nat) (o : Order) (a0 : Word) (s : State) : Host.Outcome State Fault Refusal :=
  s.runCmd dt 0x17 1 o fun s => s.traceArm o a0

/-- STOP (R129). -/
def execStop (dt : Nat) (o : Order) (a0 : Word) (s : State) : Host.Outcome State Fault Refusal :=
  s.runCmd dt 0x17 2 o fun s => s.traceStop o a0

/-- TRIGGER (R129). -/
def execTrigger (dt : Nat) (o : Order) (a0 : Word) (s : State) : Host.Outcome State Fault Refusal :=
  s.runCmd dt 0x17 3 o fun s => s.traceTrigger o a0

/-- CLEAR (R132). -/
def execClear (dt : Nat) (o : Order) (a0 : Word) (s : State) : Host.Outcome State Fault Refusal :=
  s.runCmd dt 0x17 4 o fun s => s.traceClear o a0

end Sys2Proof.Machine
end

