-- ==== Sys2Proof/Machine/RowsObj.lean ====
section
/-!
DEFINITION. Object Table: ageing and the table engine (chapter 11). One meaning per command over the operations of its
block.
-/

namespace Sys2Proof.Machine

/-- SWEEP_VISIT (R233). -/
def execSweepVisit (dt : Nat) (n : Fin 1048576) (s : State) : Host.Outcome State Fault Refusal :=
  s.run dt fun s => s.settleArrived.sweepVisit n

/-- SEARCH (R235). -/
def execSearch (dt : Nat) (o : Order) (a0 : Word) (s : State) : Host.Outcome State Fault Refusal :=
  s.runCmd dt 0x6C 1 o fun s => s.settleArrived.search o a0

/-- NEXT (R235). -/
def execNext (dt : Nat) (o : Order) (a0 a1 : Word) (s : State) : Host.Outcome State Fault Refusal :=
  s.runCmd dt 0x6C 2 o fun s => s.settleArrived.next o a0 a1

/-- FLUSH_LANE (R236). -/
def execFlushLane (dt : Nat) (o : Order) (a0 : Word) (s : State) : Host.Outcome State Fault Refusal :=
  s.runCmd dt 0x6C 3 o fun s => s.settleArrived.flushLane o a0

/-- FLUSH_DONE (R236). -/
def execFlushDone (dt : Nat) (s : State) : Host.Outcome State Fault Refusal :=
  s.run dt fun s => s.flushDone

/-- INSERT_STATIC (R237). -/
def execInsertStatic (dt : Nat) (o : Order) (a0 a1 a2 : Word) (s : State) : Host.Outcome State Fault Refusal :=
  s.runCmd dt 0x6C 4 o fun s => s.settleArrived.insertStatic o a0 a1 a2

/-- DELETE (R237). -/
def execDelete (dt : Nat) (o : Order) (a0 : Word) (s : State) : Host.Outcome State Fault Refusal :=
  s.runCmd dt 0x6C 5 o fun s => s.settleArrived.delete o a0

end Sys2Proof.Machine
end

