-- ==== Sys2Proof/Machine/RowsOsc.lean ====
section
/-!
DEFINITION. Supervisory plane: lasers, lanes, frames and flood sets (chapter 10). One meaning per command over the
operations of its block.
-/

namespace Sys2Proof.Machine

/-- LASER_FAIL (R195). -/
def execLaserFail (dt : Nat) (n : Fin 32) (s : State) : Host.Outcome State Fault Refusal :=
  s.run dt fun s => s.laserFail n

/-- RETRY (R221). -/
def execRetry (dt : Nat) (o : Order) (a0 : Word) (s : State) : Host.Outcome State Fault Refusal :=
  s.runCmd dt 0x61 1 o fun s => s.retryLaser o a0

/-- RETRY_END (R221). -/
def execRetryEnd (dt : Nat) (ok : Bool) (s : State) : Host.Outcome State Fault Refusal :=
  s.run dt fun s => s.retryEnd ok

/-- LANE_LINK_UP (R205). -/
def execLaneLinkUp (dt : Nat) (i : Fin 512) (s : State) : Host.Outcome State Fault Refusal :=
  s.run dt fun s => s.laneUp i

/-- LANE_LINK_DOWN (R205). -/
def execLaneLinkDown (dt : Nat) (i : Fin 512) (s : State) : Host.Outcome State Fault Refusal :=
  s.run dt fun s => s.laneDown i

/-- FRAME_RECEIVE (R207). -/
def execFrameReceive (dt : Nat) (i : Fin 512) (f : LaneFrame) (s : State) : Host.Outcome State Fault Refusal :=
  s.run dt fun s => s.frameReceive i f

/-- QUEUE_ADMISSION (R241). -/
def execQueueAdmission (dt : Nat) (i : Fin 512) (s : State) : Host.Outcome State Fault Refusal :=
  s.run dt fun s => s.queueAdmission i

/-- TRANSMIT_START (R244). -/
def execTransmitStart (dt : Nat) (i : Fin 512) (s : State) : Host.Outcome State Fault Refusal :=
  s.run dt fun s => s.transmitStart i

/-- TRANSMIT_END (R242). -/
def execTransmitEnd (dt : Nat) (i : Fin 512) (s : State) : Host.Outcome State Fault Refusal :=
  s.run dt fun s => s.transmitEnd i

/-- HOST_FRAME_DELIVERY (R215). -/
def execHostFrameDelivery (dt : Nat) (s : State) : Host.Outcome State Fault Refusal :=
  s.run dt fun s => s.hostDeliver

/-- FLOOD_APPLY (R214). -/
def execFloodApply (dt : Nat) (o : Order) (a0 : Word) (s : State) : Host.Outcome State Fault Refusal :=
  s.runCmd dt 0x40 1 o fun s => s.floodApply o a0

/-- LANE_CFG_WRITE (R205). -/
def execLaneCfgWrite (dt : Nat) (i : Fin 512) (v : Word) (s : State) : Host.Outcome State Fault Refusal :=
  s.run dt fun s => s.ownWrite (0x41 + i / 16) fun s => (s.laneCfg i v, cDONE)

/-- PCS_SYNCHRONISED (R205). -/
def execPcsSynchronised (dt : Nat) (r : PcsReport) (s : State) : Host.Outcome State Fault Refusal :=
  s.run dt fun s => s.pcsSync r.lane r.conf

/-- LOSS_OF_SIGNAL (R206). -/
def execLossOfSignal (dt : Nat) (i : Fin 512) (los : Bool) (power : BitVec 16)
    (s : State) : Host.Outcome State Fault Refusal :=
  s.run dt fun s => s.lossOfSignal i los power

end Sys2Proof.Machine
end

