-- ==== Sys2Proof/Machine/RowsPage.lean ====
section
/-!
DEFINITION. Register pages: writes of registers by their own rows, snapshots, the matrix and the chain (chapters 14
and 15). One meaning per command over the operations of its block.
-/

namespace Sys2Proof.Machine

/-- CHAIN_RESET (R297). -/
def execChainReset (dt : Nat) (o : Order) (a0 : Word) (s : State) : Host.Outcome State Fault Refusal :=
  s.runCmd dt 0x0D 1 o fun s => s.chainReset o a0

/-- MASTER_RESET (R305) with the beats of the burst it cuts off, 0 for no burst (assumption log 45). -/
def execMasterReset (dt : Nat) (o : Order) (a0 : Word) (beats : BitVec 16)
    (s : State) : Host.Outcome State Fault Refusal :=
  s.runCmd dt 0x0A 1 o fun s => s.masterResetCmd o a0 fun _ => if beats = 0 then none else some beats.toNat

/-- MTX_PARK_WRITE (R305). -/
def execMtxParkWrite (dt : Nat) (v : Word) (s : State) : Host.Outcome State Fault Refusal :=
  s.run dt fun s => s.ownWrite 0x0A fun s => s.parkWrite v

/-- EHR_CFG_WRITE (R303). -/
def execEhrCfgWrite (dt : Nat) (p : Port) (v : Word) (s : State) : Host.Outcome State Fault Refusal :=
  s.run dt fun s => s.ownWrite (ehrPage p) fun s => s.ehrCfg p none v

/-- REGISTER_WRITE (R313). -/
def execRegisterWrite (dt : Nat) (p : Port) (seq : BitVec 16) (addr : Fin 131072) (v : Word)
    (s : State) : Host.Outcome State Fault Refusal :=
  s.run dt fun s => s.registerWrite p seq (4 * addr) [v]

/-- SNAPSHOT_READ (R315). -/
def execSnapshotRead (dt : Nat) (p : Port) (addr : Word) (s : State) : Host.Outcome State Fault Refusal :=
  s.run dt fun s => s.snapshotRead p addr.toNat

/-- MULTIWORD_WRITE (R316). -/
def execMultiwordWrite (dt : Nat) (p : Port) (addr : Fin 131072) (vs : List Word)
    (s : State) : Host.Outcome State Fault Refusal :=
  s.run dt fun s => s.registerWrite p 0 (4 * addr) vs

/-- INT_FORCE (R317). -/
def execIntForce (dt : Nat) (page : Fin 128) (v : Word) (s : State) : Host.Outcome State Fault Refusal :=
  s.run dt fun s => s.ownWrite page fun s => (s.intForce page v, cDONE)

/-- PAGE_SOFT_RESET (R319). -/
def execPageSoftReset (dt : Nat) (page : Fin 128) (s : State) : Host.Outcome State Fault Refusal :=
  s.run dt fun s => s.ownWrite page fun s => (s.pageSoftReset page, cDONE)

end Sys2Proof.Machine
end

