-- ==== Sys2Proof/Machine/RowsPlane.lean ====
section
/-!
DEFINITION. Drive planes, token and safe-hold: feeds, planes, the token cell and safe-hold (chapter 09). One meaning
per command over the operations of its block.
-/

namespace Sys2Proof.Machine

/-- A detected plane fault; during a reset only the loss of power is noted (R180, R364). -/
def State.faultNote (s : State) (pl : Plane) (cause : BitVec 3) (regs : BitVec 6) : State :=
  if s.dev.inReset.isSome then (if cause = 1 ∧ regs = 0 then s.feedLostInReset pl else s) else s.planeFault pl cause regs

/-- FEED_VALID (R175). -/
def execFeedValid (dt : Nat) (pl : Plane) (s : State) : Host.Outcome State Fault Refusal :=
  s.runAny dt fun s => s.feedValid pl

/-- FEED_INVALID (R175). -/
def execFeedInvalid (dt : Nat) (pl : Plane) (s : State) : Host.Outcome State Fault Refusal :=
  s.runAny dt fun s => s.feedInvalid pl

/-- PLANE_FAULT_DETECT (R180). -/
def execPlaneFaultDetect (dt : Nat) (pl : Plane) (cause : BitVec 3) (reg : BitVec 6)
    (s : State) : Host.Outcome State Fault Refusal :=
  s.runAny dt fun s => s.faultNote pl cause reg

/-- LEASE_RENEWAL (R178). -/
def execLeaseRenewal (dt : Nat) (s : State) : Host.Outcome State Fault Refusal :=
  s.run dt fun s => s.leaseRenewal

/-- ALIVE_MARK (R179). -/
def execAliveMark (dt : Nat) (pl : Plane) (s : State) : Host.Outcome State Fault Refusal :=
  s.run dt fun s => s.aliveMark pl

/-- LEASE_END (R178). -/
def execLeaseEnd (dt : Nat) (s : State) : Host.Outcome State Fault Refusal :=
  s.run dt fun s => s.leaseExpire

/-- HEARTBEAT (R179). -/
def execHeartbeat (dt : Nat) (pl : Plane) (s : State) : Host.Outcome State Fault Refusal :=
  s.run dt fun s => s.heartbeat pl

/-- HEARTBEAT_MISS (R179). -/
def execHeartbeatMiss (dt : Nat) (pl : Plane) (s : State) : Host.Outcome State Fault Refusal :=
  s.run dt fun s => s.heartbeatMiss pl

/-- TOKEN_GRANT (R181). -/
def execTokenGrant (dt : Nat) (pl : Plane) (gap : Nat) (s : State) : Host.Outcome State Fault Refusal :=
  s.run dt fun s => s.grant pl gap

/-- TOKEN_FREE (R177). -/
def execTokenFree (dt : Nat) (s : State) : Host.Outcome State Fault Refusal :=
  s.run dt fun s => s.tokenFree

/-- FENCED_CHECK_END (R176). -/
def execFencedCheckEnd (dt : Nat) (pl : Plane) (ok : Bool) (s : State) : Host.Outcome State Fault Refusal :=
  s.run dt fun s => s.fencedCheck pl ok

/-- PLANE_START_DONE (R191). -/
def execPlaneStartDone (dt : Nat) (pl : Plane) (ok : Bool) (s : State) : Host.Outcome State Fault Refusal :=
  s.run dt fun s => s.planeStartDone pl ok

/-- REGULATOR_WARN (R189). -/
def execRegulatorWarn (dt : Nat) (pl : Plane) (reg : Fin 6) (s : State) : Host.Outcome State Fault Refusal :=
  s.run dt fun s => s.regWarn pl reg

/-- REG_WARN_CLEAR (R189). -/
def execRegWarnClear (dt : Nat) (pl : Plane) (reg : Fin 6) (s : State) : Host.Outcome State Fault Refusal :=
  s.run dt fun s => s.regWarnClear pl reg

/-- AUTO_HANDOVER (R190). -/
def execAutoHandover (dt : Nat) (s : State) : Host.Outcome State Fault Refusal :=
  s.run dt fun s => s.autoHandover

/-- HANDOVER (R190). -/
def execHandover (dt : Nat) (o : Order) (s : State) : Host.Outcome State Fault Refusal :=
  s.runCmd dt 0x04 3 o fun s => s.handover o

/-- PLANE_RESTART (R192). -/
def execPlaneRestart (dt : Nat) (o : Order) (a0 : Word) (s : State) : Host.Outcome State Fault Refusal :=
  s.runCmd dt 0x04 4 o fun s => s.planeRestart o a0

/-- RESYNC (R192). -/
def execResync (dt : Nat) (o : Order) (s : State) : Host.Outcome State Fault Refusal :=
  s.runCmd dt 0x04 5 o fun s => s.resyncCmd o

/-- SAFE_ENTER (R199). -/
def execSafeEnter (dt : Nat) (o : Order) (s : State) : Host.Outcome State Fault Refusal :=
  s.runCmd dt 0x04 1 o fun s => s.safeEnter o

/-- SAFE_EXIT (R199). -/
def execSafeExit (dt : Nat) (o : Order) (s : State) : Host.Outcome State Fault Refusal :=
  s.runCmd dt 0x04 2 o fun s => s.safeExit o

/-- NSAFE_HOLD_FALL (R196). -/
def execNsafeHoldFall (dt : Nat) (s : State) : Host.Outcome State Fault Refusal :=
  s.runAny dt fun s => if s.dev.inReset.isSome then s.nsafeInReset true else s.nsafeFall

/-- NSAFE_HOLD_RISE (R196). -/
def execNsafeHoldRise (dt : Nat) (s : State) : Host.Outcome State Fault Refusal :=
  s.runAny dt fun s => if s.dev.inReset.isSome then s.nsafeInReset false else s.nsafeRise

end Sys2Proof.Machine
end

