-- ==== Sys2Proof/Machine/RowsRoute.lean ====
section
/-!
DEFINITION. Route solving: commands of page BELL and the end of a solve (chapter 03). One meaning per command over the
operations of its block.
-/

namespace Sys2Proof.Machine

/-- CONNECT (R40). -/
def execConnect (dt : Nat) (o : Order) (a0 a1 : Word) (s : State) : Host.Outcome State Fault Refusal :=
  s.runCmd dt 0x11 1 o fun s => s.request s.objPort 1 o a0 a1

/-- CONNECT_OBJ (R43). -/
def execConnectObj (dt : Nat) (o : Order) (a0 a1 : Word) (s : State) : Host.Outcome State Fault Refusal :=
  s.runCmd dt 0x11 2 o fun s => s.request s.objPort 2 o a0 a1

/-- RELEASE (R48). -/
def execRelease (dt : Nat) (o : Order) (a0 : Word) (s : State) : Host.Outcome State Fault Refusal :=
  s.runCmd dt 0x11 3 o fun s => s.request s.objPort 3 o a0 0

/-- DUPLEX (R39). -/
def execDuplex (dt : Nat) (o : Order) (a0 a1 : Word) (s : State) : Host.Outcome State Fault Refusal :=
  s.runCmd dt 0x11 4 o fun s => s.request s.objPort 4 o a0 a1

/-- PIN (R53). -/
def execPin (dt : Nat) (o : Order) (a0 : Word) (s : State) : Host.Outcome State Fault Refusal :=
  s.runCmd dt 0x11 5 o fun s => s.request s.objPort 5 o a0 0

/-- UNPIN (R53). -/
def execUnpin (dt : Nat) (o : Order) (a0 : Word) (s : State) : Host.Outcome State Fault Refusal :=
  s.runCmd dt 0x11 6 o fun s => s.request s.objPort 6 o a0 0

/-- SOLVE_INCR (R46). -/
def execSolveIncr (dt : Nat) (o : Order) (s : State) : Host.Outcome State Fault Refusal :=
  s.runCmd dt 0x11 8 o fun s => s.solveIncr o

/-- SOLVE_FULL (R52). -/
def execSolveFull (dt : Nat) (o : Order) (s : State) : Host.Outcome State Fault Refusal :=
  s.runCmd dt 0x11 9 o fun s => s.solveFull o

/-- DIRECT_MAP (R56). -/
def execDirectMap (dt : Nat) (o : Order) (s : State) : Host.Outcome State Fault Refusal :=
  s.runCmd dt 0x11 10 o fun s => s.directMap o

/-- CLEAR_STAGE (R57). -/
def execClearStage (dt : Nat) (o : Order) (s : State) : Host.Outcome State Fault Refusal :=
  s.runCmd dt 0x11 11 o fun s => s.clearStage o

/-- SOLVE_DONE (R55). -/
def execSolveDone (dt : Nat) (s : State) : Host.Outcome State Fault Refusal :=
  s.run dt fun s => s.solveEnd

end Sys2Proof.Machine
end

