-- ==== Sys2Proof/Machine/RowsSched.lean ====
section
/-!
DEFINITION. Egress scheduling: shapers and gates (chapter 12). One meaning per command over the operations of its
block.
-/

namespace Sys2Proof.Machine

/-- SHAPER_WRITE (R246). -/
def execShaperWrite (dt : Nat) (off : Fin 4096) (v : Word) (s : State) : Host.Outcome State Fault Refusal :=
  s.run dt fun s => s.ownWrite 0x70 fun s => (s.shaperWrite off v, cDONE)

/-- COPY (R254). -/
def execCopy (dt : Nat) (o : Order) (a0 a1 : Word) (s : State) : Host.Outcome State Fault Refusal :=
  s.runCmd dt 0x70 1 o fun s => s.copy o a0 a1

/-- GATE_APPLY (R250). -/
def execGateApply (dt : Nat) (o : Order) (a0 a1 : Word) (s : State) : Host.Outcome State Fault Refusal :=
  s.runCmd dt 0x71 1 o fun s => s.gateApply o a0 a1

/-- GATE_CANCEL (R250). -/
def execGateCancel (dt : Nat) (o : Order) (a0 a1 : Word) (s : State) : Host.Outcome State Fault Refusal :=
  s.runCmd dt 0x71 2 o fun s => s.gateCancel o a0 a1

/-- GATE_SWITCH (R250). -/
def execGateSwitch (dt : Nat) (i : Fin 512) (s : State) : Host.Outcome State Fault Refusal :=
  s.run dt fun s => s.gateSwitch i

/-- GATE_ENTRY_BOUNDARY (R249). -/
def execGateEntryBoundary (dt : Nat) (i : Fin 512) (s : State) : Host.Outcome State Fault Refusal :=
  s.run dt fun s => s.gateBoundary i

end Sys2Proof.Machine
end

