-- ==== Sys2Proof/Machine/RowsStart.lean ====
section
/-!
DEFINITION. Start-up, journal and life cycle: resets, the start sequence, the journal and RETURN (chapter 18). One
meaning per command over the operations of its block.
-/

namespace Sys2Proof.Machine

/-- WIPE (R378). -/
def execWipe (dt : Nat) (o : Order) (s : State) : Host.Outcome State Fault Refusal :=
  s.runCmd dt 0x09 1 o fun s => s.wipe o

/-- WIPE_DONE (R378). -/
def execWipeDone (dt : Nat) (s : State) : Host.Outcome State Fault Refusal :=
  s.run dt fun s => s.wipeDone

/-- RECORD (R378). -/
def execRecord (dt : Nat) (o : Order) (s : State) : Host.Outcome State Fault Refusal :=
  s.runCmd dt 0x09 2 o fun s => s.recordCmd o

/-- JOURNAL_RECORD_START (R374). -/
def execJournalRecordStart (dt : Nat) (s : State) : Host.Outcome State Fault Refusal :=
  s.run dt fun s => s.recordStart

/-- JOURNAL_RECORD_END (R373). -/
def execJournalRecordEnd (dt : Nat) (s : State) : Host.Outcome State Fault Refusal :=
  s.run dt fun s => s.recordEnd

/-- AUTO_RESTORE_WRITE (R377). -/
def execAutoRestoreWrite (dt : Nat) (v : Word) (s : State) : Host.Outcome State Fault Refusal :=
  s.run dt fun s => s.ownWrite 0x09 fun s => (s.autoRestore v, cDONE)

/-- NRESET_FALL (R364). -/
def execNresetFall (dt : Nat) (s : State) : Host.Outcome State Fault Refusal :=
  s.runAny dt fun s => s.nresetFall

/-- NRESET_RISE (R364). -/
def execNresetRise (dt : Nat) (s : State) : Host.Outcome State Fault Refusal :=
  s.runAny dt fun s => s.nresetRise

/-- RESET_END (R364). -/
def execResetEnd (dt : Nat) (s : State) : Host.Outcome State Fault Refusal :=
  s.runAny dt fun s => s.resetEnd

/-- FUSE_LOAD_DONE (R356). -/
def execFuseLoadDone (dt : Nat) (corr uncorr : List (BitVec 14)) (s : State) : Host.Outcome State Fault Refusal :=
  s.run dt fun s => s.fuseLoadDone corr uncorr

/-- TABLE_WIPE_END (R366). -/
def execTableWipeEnd (dt : Nat) (s : State) : Host.Outcome State Fault Refusal :=
  s.run dt fun s => s.tableWipeEnd

/-- LASER_WARMUP_END (R367). -/
def execLaserWarmupEnd (dt : Nat) (s : State) : Host.Outcome State Fault Refusal :=
  s.run dt fun s => s.laserWarmup

/-- LOCK_LATE (R369). -/
def execLockLate (dt : Nat) (s : State) : Host.Outcome State Fault Refusal :=
  s.run dt fun s => s.lockLate

/-- READY (R370). -/
def execReady (dt : Nat) (s : State) : Host.Outcome State Fault Refusal :=
  s.run dt fun s => s.becomeReady

/-- RETURN_ARM (R380). -/
def execReturnArm (dt : Nat) (o : Order) (a0 a1 : Word) (s : State) : Host.Outcome State Fault Refusal :=
  s.runCmd dt 0x00 1 o fun s => s.returnArm o a0 a1

/-- RETURN_COMMIT (R380). -/
def execReturnCommit (dt : Nat) (o : Order) (a0 a1 : Word) (s : State) : Host.Outcome State Fault Refusal :=
  s.runCmd dt 0x00 2 o fun s => s.returnCommit o a0 a1

/-- RETURN_ARM_EXPIRY (R380). -/
def execReturnArmExpiry (dt : Nat) (s : State) : Host.Outcome State Fault Refusal :=
  s.run dt fun s => s.armExpiry

/-- RETURN_MARKER_DONE (R380). -/
def execReturnMarkerDone (dt : Nat) (s : State) : Host.Outcome State Fault Refusal :=
  s.run dt fun s => s.markerDone

end Sys2Proof.Machine
end

