-- ==== Sys2Proof/Machine/RowsThermal.lean ====
section
/-!
DEFINITION. Temperature and power: samples, limits, releases and thermal registers (chapter 16). One meaning per
command over the operations of its block.
-/

namespace Sys2Proof.Machine

/-- TEMP_SAMPLE (R327) with the mean input power of each feed, which PWR.NOW reads together (R340). -/
def execTempSample (dt : Nat) (sample : Option Int) (feedA feedB : Nat)
    (s : State) : Host.Outcome State Fault Refusal :=
  s.runAny dt fun s => s.tempSample sample (feedA + feedB)

/-- PWR_LIMIT (R332). -/
def execPwrLimit (dt : Nat) (s : State) : Host.Outcome State Fault Refusal :=
  s.run dt fun s => s.powerStep

/-- BULK_EVALUATION (R335). -/
def execBulkEvaluation (dt power : Nat) (s : State) : Host.Outcome State Fault Refusal :=
  s.run dt fun s => s.bulkEvaluation power

/-- BULK_RELEASE (R336). -/
def execBulkRelease (dt : Nat) (s : State) : Host.Outcome State Fault Refusal :=
  s.run dt fun s => s.bulkRelease

/-- THM_LEVEL_WRITE (R328). -/
def execThmLevelWrite (dt : Nat) (lvl : ThmLevel) (v : Word) (s : State) : Host.Outcome State Fault Refusal :=
  s.run dt fun s => s.ownWrite 0x03 fun s => s.levelWrite lvl v

/-- PWR_MODE_WRITE (R340). -/
def execPwrModeWrite (dt : Nat) (v : Word) (s : State) : Host.Outcome State Fault Refusal :=
  s.run dt fun s => s.ownWrite 0x02 fun s => s.modeWrite v

end Sys2Proof.Machine
end

