-- ==== Sys2Proof/Machine/RowsTime.lean ====
section
/-!
DEFINITION. Network time: the servo, PTP, TREF and PPS (chapter 13). One meaning per command over the operations of
its block.
-/

namespace Sys2Proof.Machine

/-- SET_TIME (R266). -/
def execSetTime (dt : Nat) (o : Order) (a0 a1 a2 : Word) (s : State) : Host.Outcome State Fault Refusal :=
  s.runCmd dt 0x78 1 o fun s => s.setTime o a0 a1 a2

/-- ACCEPT_STEP (R266). -/
def execAcceptStep (dt : Nat) (o : Order) (s : State) : Host.Outcome State Fault Refusal :=
  s.runCmd dt 0x78 2 o fun s => s.acceptStep o

/-- ACCEPT_PATH (R269). -/
def execAcceptPath (dt : Nat) (o : Order) (s : State) : Host.Outcome State Fault Refusal :=
  s.runCmd dt 0x78 3 o fun s => s.acceptPath o

/-- SERVO_RESET (R274). -/
def execServoReset (dt : Nat) (o : Order) (s : State) : Host.Outcome State Fault Refusal :=
  s.runCmd dt 0x78 4 o fun s => s.servoReset o

/-- ANNOUNCE_TIMEOUT (R274). -/
def execAnnounceTimeout (dt : Nat) (i : Fin 512) (s : State) : Host.Outcome State Fault Refusal :=
  s.run dt fun s => s.announceTimeout i

/-- PTP_MESSAGE_SEND (R260). -/
def execPtpMessageSend (dt : Nat) (i : Fin 512) (kind : PtpKind) (s : State) : Host.Outcome State Fault Refusal :=
  s.run dt fun s => s.ptpSend i kind

/-- TREF_LOSS (R270). -/
def execTrefLoss (dt : Nat) (s : State) : Host.Outcome State Fault Refusal :=
  s.run dt fun s => s.trefLoss

/-- TREF_RESTORE (R270). -/
def execTrefRestore (dt : Nat) (f25 : Bool) (s : State) : Host.Outcome State Fault Refusal :=
  s.run dt fun s => s.trefRestore f25

/-- PPS_IN_EDGE (R273). -/
def execPpsInEdge (dt : Nat) (s : State) : Host.Outcome State Fault Refusal :=
  s.run dt fun s => s.ppsEdge

/-- PPS_IN_MISS (R273). -/
def execPpsInMiss (dt : Nat) (s : State) : Host.Outcome State Fault Refusal :=
  s.run dt fun s => s.ppsMiss

/-- NO_PPS (R264). -/
def execNoPps (dt : Nat) (s : State) : Host.Outcome State Fault Refusal :=
  s.run dt fun s => s.ppsLost

/-- PPS_OUT_PULSE (R272). -/
def execPpsOutPulse (dt : Nat) (s : State) : Host.Outcome State Fault Refusal :=
  s.run dt fun s => s.ppsPulse

/-- PPS_OUT_WIDTH_END (R272). -/
def execPpsOutWidthEnd (dt : Nat) (s : State) : Host.Outcome State Fault Refusal :=
  s.run dt fun s => s.ppsEnd

/-- TIME_BASE_PLL_LOCK (R270). -/
def execTimeBasePllLock (dt : Nat) (f25 : Bool) (s : State) : Host.Outcome State Fault Refusal :=
  s.run dt fun s => s.pllLock f25

/-- BACKWARD_SLEW_END (R266). -/
def execBackwardSlewEnd (dt : Nat) (s : State) : Host.Outcome State Fault Refusal :=
  s.run dt fun s => s.slewEnd

end Sys2Proof.Machine
end

