-- ==== Sys2Proof/Machine/RowsTrans.lean ====
section
/-!
DEFINITION. Transitions: the steps of a transition (chapter 05). One meaning per command over the operations of its
block.
-/

namespace Sys2Proof.Machine

/-- KICK_END (R94). -/
def execKickEnd (dt : Nat) (e : Fin 9728) (s : State) : Host.Outcome State Fault Refusal :=
  s.run dt fun s => s.kickEnd e

/-- SETTLE_TIMEOUT (R103). -/
def execSettleTimeout (dt : Nat) (q : Fin 512) (s : State) : Host.Outcome State Fault Refusal :=
  s.run dt fun s => s.settleTimeout q

/-- ARRIVAL_INJECTION (R104). -/
def execArrivalInjection (dt : Nat) (q : Fin 512) (s : State) : Host.Outcome State Fault Refusal :=
  s.run dt fun s => s.arrivalInjection q

end Sys2Proof.Machine
end

