-- ==== Sys2Proof/Machine/Dispatch.lean ====
section
/-!
DEFINITION. The meaning of every command: one arm per constructor of Instr.
-/

namespace Sys2Proof.Machine

/-- The effect of a command on everything but the queue. -/
def exec (i : Instr) (s : State) : Host.Outcome State Fault Refusal :=
  match i with
  | .connect dt o a0 a1 => Sys2Proof.Machine.execConnect dt o a0 a1 s
  | .connectObj dt o a0 a1 => Sys2Proof.Machine.execConnectObj dt o a0 a1 s
  | .release dt o a0 => Sys2Proof.Machine.execRelease dt o a0 s
  | .duplex dt o a0 a1 => Sys2Proof.Machine.execDuplex dt o a0 a1 s
  | .pin dt o a0 => Sys2Proof.Machine.execPin dt o a0 s
  | .unpin dt o a0 => Sys2Proof.Machine.execUnpin dt o a0 s
  | .solveIncr dt o => Sys2Proof.Machine.execSolveIncr dt o s
  | .solveFull dt o => Sys2Proof.Machine.execSolveFull dt o s
  | .directMap dt o => Sys2Proof.Machine.execDirectMap dt o s
  | .clearStage dt o => Sys2Proof.Machine.execClearStage dt o s
  | .solveDone dt => Sys2Proof.Machine.execSolveDone dt s
  | .prepare dt o a0 a3 => Sys2Proof.Machine.execPrepare dt o a0 a3 s
  | .prepareDone dt => Sys2Proof.Machine.execPrepareDone dt s
  | .commitNow dt o a0 a3 => Sys2Proof.Machine.execCommitNow dt o a0 a3 s
  | .commitAt dt o a0 a1 a2 a3 => Sys2Proof.Machine.execCommitAt dt o a0 a1 a2 a3 s
  | .abort dt o a0 a3 => Sys2Proof.Machine.execAbort dt o a0 a3 s
  | .prestage dt o a0 => Sys2Proof.Machine.execPrestage dt o a0 s
  | .leaseExpiry dt => Sys2Proof.Machine.execLeaseExpiry dt s
  | .scheduledTimeReached dt => Sys2Proof.Machine.execScheduledTimeReached dt s
  | .commit dt => Sys2Proof.Machine.execCommit dt s
  | .restoreCommit dt => Sys2Proof.Machine.execRestoreCommit dt s
  | .kickEnd dt e => Sys2Proof.Machine.execKickEnd dt e s
  | .settleTimeout dt q => Sys2Proof.Machine.execSettleTimeout dt q s
  | .arrivalInjection dt q => Sys2Proof.Machine.execArrivalInjection dt q s
  | .loopUpdate dt pl e => Sys2Proof.Machine.execLoopUpdate dt pl e s
  | .elementTableWrite dt e word v => Sys2Proof.Machine.execElementTableWrite dt e word v s
  | .cellTableWrite dt c word v => Sys2Proof.Machine.execCellTableWrite dt c word v s
  | .warmAll dt => Sys2Proof.Machine.execWarmAll dt s
  | .hold dt o a0 a1 => Sys2Proof.Machine.execHold dt o a0 a1 s
  | .resume dt o a0 a1 => Sys2Proof.Machine.execResume dt o a0 a1 s
  | .clearFault dt o a0 a1 => Sys2Proof.Machine.execClearFault dt o a0 a1 s
  | .setPer dt o a0 a1 => Sys2Proof.Machine.execSetPer dt o a0 a1 s
  | .arm dt o a0 => Sys2Proof.Machine.execArm dt o a0 s
  | .stop dt o a0 => Sys2Proof.Machine.execStop dt o a0 s
  | .trigger dt o a0 => Sys2Proof.Machine.execTrigger dt o a0 s
  | .clear dt o a0 => Sys2Proof.Machine.execClear dt o a0 s
  | .conversionSlot dt pl t raw0 raw1 => Sys2Proof.Machine.execConversionSlot dt pl t raw0 raw1 s
  | .injectionRequest dt pl t who chan acq gain acquiring => Sys2Proof.Machine.execInjectionRequest dt pl t who chan acq gain acquiring s
  | .injectionComplete dt pl t raw => Sys2Proof.Machine.execInjectionComplete dt pl t raw s
  | .inject dt o a0 a1 => Sys2Proof.Machine.execInject dt o a0 a1 s
  | .selfCal dt o a0 => Sys2Proof.Machine.execSelfCal dt o a0 s
  | .calDone dt pl readings => Sys2Proof.Machine.execCalDone dt pl readings s
  | .haccStart dt o a0 a1 => Sys2Proof.Machine.execHaccStart dt o a0 a1 s
  | .haccStop dt o a0 a1 => Sys2Proof.Machine.execHaccStop dt o a0 a1 s
  | .haccDone dt => Sys2Proof.Machine.execHaccDone dt s
  | .ringCalibration dt pl residuals => Sys2Proof.Machine.execRingCalibration dt pl residuals s
  | .tileTableWrite dt t word v => Sys2Proof.Machine.execTileTableWrite dt t word v s
  | .setRange dt o a0 a1 => Sys2Proof.Machine.execSetRange dt o a0 a1 s
  | .sync dt o a0 a1 => Sys2Proof.Machine.execSync dt o a0 a1 s
  | .fwWrite dt t fw => Sys2Proof.Machine.execFwWrite dt t fw s
  | .deglitchHoldEnd dt e => Sys2Proof.Machine.execDeglitchHoldEnd dt e s
  | .drvSc dt pl e => Sys2Proof.Machine.execDrvSc dt pl e s
  | .scFlagClear dt v => Sys2Proof.Machine.execScFlagClear dt v s
  | .nclrFall dt => Sys2Proof.Machine.execNclrFall dt s
  | .nclrRise dt => Sys2Proof.Machine.execNclrRise dt s
  | .inputVoaRelease dt p => Sys2Proof.Machine.execInputVoaRelease dt p s
  | .relightTimeout dt q => Sys2Proof.Machine.execRelightTimeout dt q s
  | .feedValid dt pl => Sys2Proof.Machine.execFeedValid dt pl s
  | .feedInvalid dt pl => Sys2Proof.Machine.execFeedInvalid dt pl s
  | .planeFaultDetect dt pl cause reg => Sys2Proof.Machine.execPlaneFaultDetect dt pl cause reg s
  | .leaseRenewal dt => Sys2Proof.Machine.execLeaseRenewal dt s
  | .aliveMark dt pl => Sys2Proof.Machine.execAliveMark dt pl s
  | .leaseEnd dt => Sys2Proof.Machine.execLeaseEnd dt s
  | .heartbeat dt pl => Sys2Proof.Machine.execHeartbeat dt pl s
  | .heartbeatMiss dt pl => Sys2Proof.Machine.execHeartbeatMiss dt pl s
  | .tokenGrant dt pl gap => Sys2Proof.Machine.execTokenGrant dt pl gap s
  | .tokenFree dt => Sys2Proof.Machine.execTokenFree dt s
  | .fencedCheckEnd dt pl ok => Sys2Proof.Machine.execFencedCheckEnd dt pl ok s
  | .planeStartDone dt pl ok => Sys2Proof.Machine.execPlaneStartDone dt pl ok s
  | .regulatorWarn dt pl reg => Sys2Proof.Machine.execRegulatorWarn dt pl reg s
  | .regWarnClear dt pl reg => Sys2Proof.Machine.execRegWarnClear dt pl reg s
  | .autoHandover dt => Sys2Proof.Machine.execAutoHandover dt s
  | .handover dt o => Sys2Proof.Machine.execHandover dt o s
  | .planeRestart dt o a0 => Sys2Proof.Machine.execPlaneRestart dt o a0 s
  | .resync dt o => Sys2Proof.Machine.execResync dt o s
  | .safeEnter dt o => Sys2Proof.Machine.execSafeEnter dt o s
  | .safeExit dt o => Sys2Proof.Machine.execSafeExit dt o s
  | .nsafeHoldFall dt => Sys2Proof.Machine.execNsafeHoldFall dt s
  | .nsafeHoldRise dt => Sys2Proof.Machine.execNsafeHoldRise dt s
  | .laserFail dt n => Sys2Proof.Machine.execLaserFail dt n s
  | .retry dt o a0 => Sys2Proof.Machine.execRetry dt o a0 s
  | .retryEnd dt ok => Sys2Proof.Machine.execRetryEnd dt ok s
  | .laneLinkUp dt l => Sys2Proof.Machine.execLaneLinkUp dt l s
  | .laneLinkDown dt l => Sys2Proof.Machine.execLaneLinkDown dt l s
  | .frameReceive dt l f => Sys2Proof.Machine.execFrameReceive dt l f s
  | .queueAdmission dt l => Sys2Proof.Machine.execQueueAdmission dt l s
  | .transmitStart dt l => Sys2Proof.Machine.execTransmitStart dt l s
  | .transmitEnd dt l => Sys2Proof.Machine.execTransmitEnd dt l s
  | .hostFrameDelivery dt => Sys2Proof.Machine.execHostFrameDelivery dt s
  | .floodApply dt o a0 => Sys2Proof.Machine.execFloodApply dt o a0 s
  | .laneCfgWrite dt l v => Sys2Proof.Machine.execLaneCfgWrite dt l v s
  | .sweepVisit dt n => Sys2Proof.Machine.execSweepVisit dt n s
  | .search dt o a0 => Sys2Proof.Machine.execSearch dt o a0 s
  | .next dt o a0 a1 => Sys2Proof.Machine.execNext dt o a0 a1 s
  | .flushLane dt o a0 => Sys2Proof.Machine.execFlushLane dt o a0 s
  | .flushDone dt => Sys2Proof.Machine.execFlushDone dt s
  | .insertStatic dt o a0 a1 a2 => Sys2Proof.Machine.execInsertStatic dt o a0 a1 a2 s
  | .delete dt o a0 => Sys2Proof.Machine.execDelete dt o a0 s
  | .shaperWrite dt off v => Sys2Proof.Machine.execShaperWrite dt off v s
  | .copy dt o a0 a1 => Sys2Proof.Machine.execCopy dt o a0 a1 s
  | .gateApply dt o a0 a1 => Sys2Proof.Machine.execGateApply dt o a0 a1 s
  | .gateCancel dt o a0 a1 => Sys2Proof.Machine.execGateCancel dt o a0 a1 s
  | .gateSwitch dt l => Sys2Proof.Machine.execGateSwitch dt l s
  | .gateEntryBoundary dt l => Sys2Proof.Machine.execGateEntryBoundary dt l s
  | .setTime dt o a0 a1 a2 => Sys2Proof.Machine.execSetTime dt o a0 a1 a2 s
  | .acceptStep dt o => Sys2Proof.Machine.execAcceptStep dt o s
  | .acceptPath dt o => Sys2Proof.Machine.execAcceptPath dt o s
  | .servoReset dt o => Sys2Proof.Machine.execServoReset dt o s
  | .announceTimeout dt l => Sys2Proof.Machine.execAnnounceTimeout dt l s
  | .ptpMessageSend dt l kind => Sys2Proof.Machine.execPtpMessageSend dt l kind s
  | .trefLoss dt => Sys2Proof.Machine.execTrefLoss dt s
  | .trefRestore dt f25 => Sys2Proof.Machine.execTrefRestore dt f25 s
  | .ppsInEdge dt => Sys2Proof.Machine.execPpsInEdge dt s
  | .ppsInMiss dt => Sys2Proof.Machine.execPpsInMiss dt s
  | .noPps dt => Sys2Proof.Machine.execNoPps dt s
  | .ppsOutPulse dt => Sys2Proof.Machine.execPpsOutPulse dt s
  | .ppsOutWidthEnd dt => Sys2Proof.Machine.execPpsOutWidthEnd dt s
  | .ehrLinkUp dt p => Sys2Proof.Machine.execEhrLinkUp dt p s
  | .ehrLinkDown dt p => Sys2Proof.Machine.execEhrLinkDown dt p s
  | .hiBer dt p => Sys2Proof.Machine.execHiBer dt p s
  | .fecUncorr dt p => Sys2Proof.Machine.execFecUncorr dt p s
  | .read dt p f => Sys2Proof.Machine.execRead dt p f s
  | .write dt p f => Sys2Proof.Machine.execWrite dt p f s
  | .writePosted dt p f => Sys2Proof.Machine.execWritePosted dt p f s
  | .rmw dt p f => Sys2Proof.Machine.execRmw dt p f s
  | .command dt p f => Sys2Proof.Machine.execCommand dt p f s
  | .frame dt p f => Sys2Proof.Machine.execFrame dt p f s
  | .enumAssign dt p f => Sys2Proof.Machine.execEnumAssign dt p f s
  | .enumFinal dt p f => Sys2Proof.Machine.execEnumFinal dt p f s
  | .ping dt p f => Sys2Proof.Machine.execPing dt p f s
  | .invalidOpcode dt p op f => Sys2Proof.Machine.execInvalidOpcode dt p op f s
  | .forward dt p op f => Sys2Proof.Machine.execForward dt p op f s
  | .eventSend dt n => Sys2Proof.Machine.execEventSend dt n s
  | .chainReset dt o a0 => Sys2Proof.Machine.execChainReset dt o a0 s
  | .masterReset dt o a0 beats => Sys2Proof.Machine.execMasterReset dt o a0 beats s
  | .mtxParkWrite dt v => Sys2Proof.Machine.execMtxParkWrite dt v s
  | .ehrCfgWrite dt p v => Sys2Proof.Machine.execEhrCfgWrite dt p v s
  | .registerWrite dt p seq addr v => Sys2Proof.Machine.execRegisterWrite dt p seq addr v s
  | .snapshotRead dt p addr => Sys2Proof.Machine.execSnapshotRead dt p addr s
  | .multiwordWrite dt p addr vs => Sys2Proof.Machine.execMultiwordWrite dt p addr vs s
  | .intForce dt page v => Sys2Proof.Machine.execIntForce dt page v s
  | .pageSoftReset dt page => Sys2Proof.Machine.execPageSoftReset dt page s
  | .tempSample dt sample feedA feedB => Sys2Proof.Machine.execTempSample dt sample feedA feedB s
  | .pwrLimit dt => Sys2Proof.Machine.execPwrLimit dt s
  | .bulkEvaluation dt power => Sys2Proof.Machine.execBulkEvaluation dt power s
  | .bulkRelease dt => Sys2Proof.Machine.execBulkRelease dt s
  | .thmLevelWrite dt lvl v => Sys2Proof.Machine.execThmLevelWrite dt lvl v s
  | .pwrModeWrite dt v => Sys2Proof.Machine.execPwrModeWrite dt v s
  | .sliceStart dt pl => Sys2Proof.Machine.execSliceStart dt pl s
  | .sliceEnd dt pl readings => Sys2Proof.Machine.execSliceEnd dt pl readings s
  | .sliceBudgetEnd dt pl => Sys2Proof.Machine.execSliceBudgetEnd dt pl s
  | .run dt o a0 a1 => Sys2Proof.Machine.execRun dt o a0 a1 s
  | .wipe dt o => Sys2Proof.Machine.execWipe dt o s
  | .wipeDone dt => Sys2Proof.Machine.execWipeDone dt s
  | .record dt o => Sys2Proof.Machine.execRecord dt o s
  | .journalRecordStart dt => Sys2Proof.Machine.execJournalRecordStart dt s
  | .journalRecordEnd dt => Sys2Proof.Machine.execJournalRecordEnd dt s
  | .autoRestoreWrite dt v => Sys2Proof.Machine.execAutoRestoreWrite dt v s
  | .nresetFall dt => Sys2Proof.Machine.execNresetFall dt s
  | .nresetRise dt => Sys2Proof.Machine.execNresetRise dt s
  | .resetEnd dt => Sys2Proof.Machine.execResetEnd dt s
  | .fuseLoadDone dt corr uncorr => Sys2Proof.Machine.execFuseLoadDone dt corr uncorr s
  | .tableWipeEnd dt => Sys2Proof.Machine.execTableWipeEnd dt s
  | .laserWarmupEnd dt => Sys2Proof.Machine.execLaserWarmupEnd dt s
  | .lockLate dt => Sys2Proof.Machine.execLockLate dt s
  | .ready dt => Sys2Proof.Machine.execReady dt s
  | .returnArm dt o a0 a1 => Sys2Proof.Machine.execReturnArm dt o a0 a1 s
  | .returnCommit dt o a0 a1 => Sys2Proof.Machine.execReturnCommit dt o a0 a1 s
  | .returnArmExpiry dt => Sys2Proof.Machine.execReturnArmExpiry dt s
  | .returnMarkerDone dt => Sys2Proof.Machine.execReturnMarkerDone dt s
  | .pcsSynchronised dt r => Sys2Proof.Machine.execPcsSynchronised dt r s
  | .blockLock dt p => Sys2Proof.Machine.execBlockLock dt p s
  | .lossOfSignal dt l los power => Sys2Proof.Machine.execLossOfSignal dt l los power s
  | .timeBasePllLock dt f25 => Sys2Proof.Machine.execTimeBasePllLock dt f25 s
  | .backwardSlewEnd dt => Sys2Proof.Machine.execBackwardSlewEnd dt s
  | .ditherTick dt => Sys2Proof.Machine.execDitherTick dt s
  | .testAccessPort dt op => Sys2Proof.Machine.execTestAccessPort dt op s

end Sys2Proof.Machine
end

