-- ==== Sys2Proof/Safety.lean ====
section
/-!
DEFINITION. What the statements speak of: when a device is in service, when it takes host commands, and what holds of every
state that a step leaves.
-/

namespace Sys2Proof.Machine

/-- The device is out of reset, in a life-cycle state whose behaviour the manual specifies (R379). -/
abbrev State.InService (s : State) : Prop := 2 ≤ s.lifeState ∧ s.dev.inReset = none

/-- The device is READY and takes every host command (R370, R371). -/
abbrev State.Ready (s : State) : Prop := s.InService ∧ s.dev.state = 1

/-- nINT is asserted exactly while it is enabled and an unmasked cause stands (R317). -/
abbrev State.IntFollows (s : State) : Prop := s.nint = s.nintNow

/-- The registers that what follows from a command may write, whatever the command: those of pages TOKEN, PLA, PLB, BIST,
SHEEP and EPOCH, every page's INT_CAUSE, ERR_COUNT and EVT_LAST, the counters of lost events, lost responses, nINT
assertions, deferrals and discarded frames, the records of a reset of master M7, and CMD_STATUS of page CONV. -/
def closingMayWrite (a : Nat) : Bool :=
  [0x04, 0x05, 0x06, 0x07, 0x12, 0x13].contains (a / 0x1000) || [0x010, 0x01C, 0x020].contains (a % 0x1000)
    || [Reg.CHAIN_EVT_DROP_CNT, Reg.INTR_NINT_CNT, Reg.EHR_RESP_DROP_CNT .e0, Reg.EHR_RESP_DROP_CNT .e1, Reg.THM_DEFER_CNT,
        Reg.OSC_HOSTQ_DROP_CNT, Reg.OSC_TX_REFUSE_CNT, Reg.MTX_RST_CNT_M7, Reg.MTX_LAST_RESET, cmdStatus 0x15].contains a
    || (decide (0x41000 ≤ a) && a % 0x80 == cSAFE_DROP)

/-- No request waits for its turn under STRICT (R290), and no frame is about to come back in loopback (R303). -/
abbrev State.NoneWaiting (s : State) : Prop :=
  s.e0.waiting = [] ∧ s.e1.waiting = [] ∧ s.e0.looped = [] ∧ s.e1.looped = []

/-- No plane has a self-test slice in progress. -/
abbrev State.NoSlice (s : State) : Prop := s.bist.a.slice = none ∧ s.bist.b.slice = none

/-- A state with its registers, the stamps of what was counted in them, event queue, port records and wires put back as
another state has them: what is left to compare beside registers, reported events and answers. -/
def State.bare (u s : State) : State :=
  { u with regs := s.regs, stamps := s.stamps, chain := s.chain, e0 := s.e0, e1 := s.e1, sent := s.sent }

/-- Every register outside a list reads in u as in s. -/
def State.RegsBut (s u : State) (l : List Nat) : Prop := ∀ a, a ∉ l → u.reg a = s.reg a

/-- The registers that reporting on a page may write: INT_CAUSE, EVT_LAST and the count of lost events (R317, R323, R286). -/
def reportRegs (page : Nat) : List Nat := [Reg.base page + 0x010, Reg.base page + 0x020, Reg.CHAIN_EVT_DROP_CNT]

/-- An event of a page stands in the queue of u, if s forms it and has room for it (R286, R323). -/
def State.Reported (s u : State) (page code src seq epoch : Nat) (payload : List Word) : Prop :=
  s.formed page code = true → s.chain.queue.length < 1024 → (⟨code, src, seq, epoch, s.now, payload, 0⟩ : Event) ∈ u.chain.queue

/-- An INT_CAUSE bit of a page is set in u, and the other bits are as in s (R317). -/
def State.Causes (s u : State) (page i : Nat) : Prop :=
  u.reg (Reg.base page + 0x010) = s.reg (Reg.base page + 0x010) ||| w32 (2 ^ i)

/-- A common counter has counted once between s and u (R314). -/
def State.Counted (s u : State) (a : Nat) : Prop := u.reg a = bumpWord (s.reg a)

/-- No request of an order's source and sequence is listed (R41). -/
abbrev State.Unlisted (s : State) (o : Order) : Prop := ∀ r ∈ s.bell.list, ¬ (r.src = portSrc o.port ∧ r.seq = o.seq.toNat)

/-- A DIRECT_MAP passes every check of R56 short of DONE and its loaded states define the map m. -/
structure State.Loads (s : State) (o : Order) (m : CMap) : Prop where
  alone : s.bell.list = []
  some_ : ∃ p, p < 512 ∧ s.loadedInput p = true
  codes : ∀ c, c < 4352 → s.loadedCell c ≠ 3
  traced : s.tracedMap (portSrc o.port) o.seq.toNat ((List.range 512).filter s.loadedInput) = some m
  used : ∀ c, c < 4352 → s.loadedCell c ≠ 0 → ∃ h, m.hopIn c = some h
  pins : ∀ k ∈ s.bell.stg, k.pinned = true → ∃ c ∈ m, c.out = k.out ∧ c.inp = k.inp ∧ c.mid = k.mid

/-- Cell x is the lowest whose state differs between the load that set the base and m (R68). -/
def State.Parts (s : State) (m : CMap) (x : Nat) : Prop :=
  x < 4352 ∧ s.bell.directLoad.cell x ≠ m.cell x ∧ ∀ y, y < x → s.bell.directLoad.cell y = m.cell y

/-- Between s and u a conflict of kind CELL has been recorded, with its winner, its loser and their sequences (R66). -/
def State.Clashes (s u : State) (win winSeq lose loseSeq x : Nat) : Prop :=
  s.Counted u Reg.EPOCH_CONFLICT_CNT ∧ u.causeSet 0x13 1 = true
    ∧ s.Reported u 0x13 0x1201 lose loseSeq s.nextEpoch (pay [win, winSeq, 1, x])
    ∧ (s.epoch.clog.length < 64 → u.epoch = { s.epoch with clog := s.epoch.clog
        ++ [(w32 (at_ 31 29 win + at_ 28 26 lose + at_ 25 24 1 + at_ 12 0 x), w32 (at_ 31 16 winSeq + at_ 15 0 loseSeq))] })
    ∧ (64 ≤ s.epoch.clog.length → u.epoch = { s.epoch with clogOvf := true })

/-- Requests may change the staging side: READY, no restore runs and no map is prepared (R73, R84). -/
abbrev State.Staging (s : State) : Prop := s.Ready ∧ s.epoch.restoring = false ∧ s.epoch.prep = none

/-- A request as it enters the list. -/
def Req.entered (o : Order) (op inp out cls : Nat) (src dst : Option Nat) : Req :=
  ⟨portSrc o.port, o.seq.toNat, op, inp, out, cls, src, dst, 0, false, false, false, 0, false, false⟩

/-- u is s with request r put into the list before the first one that its key precedes, the first of its source noted. -/
def State.Entered (s u : State) (r : Req) : Prop :=
  u = { s with bell := { s.bell with list := u.bell.list, first := u.bell.first } }
    ∧ (u.bell.first = s.bell.first ∨ s.bell.firstOf r.src = none ∧ u.bell.first = s.bell.first ++ [(r.src, r.seq)])
    ∧ (∃ n, u.bell.firstOf r.src = some n)
    ∧ ∃ l l', s.bell.list = l ++ l' ∧ u.bell.list = l ++ r :: l' ∧ (∀ q ∈ l, u.bell.before r q = false)
      ∧ ∀ q ∈ l'.head?, u.bell.before r q = true

/-- PREPARE answers READY: not in safe-hold, nothing prepared, the lease not zero, some output changes, and under STRICT no
request of the epoch stands refused or discarded (R72). -/
def State.Preparable (s : State) : Prop :=
  s.safe.active = false ∧ s.epoch.prep = none ∧ s.rf Reg.EPOCH_LEASE 23 0 ≠ 0
    ∧ (∃ q, q < 512 ∧ category s.epoch.active s.bell.stg q ≠ 0) ∧ (s.rb Reg.EPOCH_CFG 2 = false ∨ s.anyRefused = false)

/-- u is s with the staging map prepared under a tag, its lease running, and READY reported (R72, R74, R62). -/
def State.Prepares (s u : State) (tag : Nat) : Prop :=
  u.bare s = { s with
      bell := { s.bell with first := u.bell.first }
      epoch := { s.epoch with prep := some s.bell.stg, leaseEnd := s.elapsed + us (s.rf Reg.EPOCH_LEASE 23 0),
                              prepRes := 1, tag := tag, tagEnd := 1, job := none } }
    ∧ s.Causes u 0x13 5 ∧ s.RegsBut u (reportRegs 0x13)
    ∧ s.Reported u 0x13 0x1202 7 0 s.nextEpoch [w32 (at_ 27 16 tag)]

/-- u is s with map m committed as the next epoch for an order (R63, R82): the active map, the epoch number, the staging
side, each output's latest epoch and each cell's count of moves; beside these only the elements, their loops, the sequencer,
the drive record, traces and marked circuits may differ, and no register that `closingMayWrite` leaves out. -/
def State.Commits (s u : State) (m : CMap) : Prop :=
  u.epoch = { s.epoch with
      act := s.nextEpoch, committed := true, active := m, prep := none, held := none, tagEnd := 2, deferred := false,
      lastOut := 1, lastEpoch := s.nextEpoch, clog := [], clogOvf := false, changed := u.epoch.changed }
    ∧ u.bell = { s.bell with
      list := [], base := m, baseDirect := none, stg := m, delta := [], log := [], logOvf := false, cellLost := false, first := [],
      fulls := [] }
    ∧ (∀ q, q < 512 → tget (fun _ => 0) u.epoch.changed q
      = if category s.epoch.active m q = 0 then tget (fun _ => 0) s.epoch.changed q else s.nextEpoch)
    ∧ (∀ c, c < 4352 → (u.cell c).moves
      = if s.epoch.active.cell c = m.cell c then (s.cell c).moves else ((s.cell c).moves + 1) % 2 ^ 32)
    ∧ u.therm = { s.therm with marks := u.therm.marks }
    ∧ { u.bare s with epoch := s.epoch, bell := s.bell, cells := s.cells, therm := s.therm, elems := s.elems, lps := s.lps,
                      trans := s.trans, drv := s.drv, traces := s.traces } = s
    ∧ ∀ a, closingMayWrite a = false → u.reg a = s.reg a

/-- An epoch command acts on the map prepared for the next epoch, by number or by tag (R71). -/
abbrev State.Names (s : State) (a0 a3 : Word) : Prop :=
  (bit a3 31 = false ∧ a0.toNat = s.nextEpoch) ∨ (bit a3 31 = true ∧ fld a3 27 16 = s.epoch.tag)

/-- A port takes a request at once: the device is READY and named, the port has LINK, the frame is good and its header too,
the port is below its limit, the transaction ID is free, and nothing has to be waited for (R278, R289 to R291). -/
abbrev State.Takes (s : State) (p : Port) (op : BitVec 4) (f : LinkFrame) : Prop :=
  s.Ready ∧ (s.link p).link = true ∧ f.fcs = .good ∧ headed f = true ∧ s.named f = true ∧ toAll op f = false
    ∧ (s.link p).out.length < s.outMax p ∧ (∀ x ∈ (s.link p).out, x.tid ≠ f.tid)
    ∧ (s.strict p = true → (s.link p).out = [])

/-- A port has room for a request that comes in: it is below its limit, the transaction ID is free, and nothing has to be
waited for (R289 to R291). -/
abbrev State.Admits (s : State) (p : Port) (f : LinkFrame) : Prop :=
  (s.link p).out.length < s.outMax p ∧ (∀ x ∈ (s.link p).out, x.tid ≠ f.tid) ∧ (s.strict p = true → (s.link p).out = [])

/-- s with a request counted and outstanding on a port (R289, R303). -/
def State.taken (s : State) (p : Port) (op : BitVec 4) (f : LinkFrame) : State :=
  s.setLink p { s.link p with rxTrans := ((s.link p).rxTrans + 1) % 2 ^ 48, out := (s.link p).out ++ [⟨f.tid, op⟩] }

/-- The response to a request, with its SEQ, TID and ADDR (R278, R279). -/
def State.response (s : State) (p : Port) (f : LinkFrame) (code : Nat) (words : List Word) : LinkFrame :=
  { fcs := .good, etherType := 0x88B5, src := macOf s.fuse p, version := 1, bcast := false, evt := false, ackreq := false,
    dev := s.devAddr, seq := f.seq, tid := f.tid, len := BitVec.ofNat 16 words.length, addr := f.addr,
    code := BitVec.ofNat 8 code, hops := 0, payload := words }

/-- u is s with a request taken and answered at once on a port: one response sent, both counts moved, nothing outstanding
that was not before. -/
def State.Answers (s u : State) (p : Port) (f : LinkFrame) (code : Nat) (words : List Word) : Prop :=
  u.sent = s.sent ++ [.link p 5 f.src (s.response p f code words)]
    ∧ u.link p = { s.link p with rxTrans := ((s.link p).rxTrans + 1) % 2 ^ 48, txTrans := ((s.link p).txTrans + 1) % 2 ^ 48 }
    ∧ u.link (otherPort p) = s.link (otherPort p)

/-- An address reads as its present value and nothing else: a word of its own, in a region that is ready, whose reading
clears and checks nothing (R305, R315, R356). -/
def State.plainWord (s : State) (a : Nat) (t : Target) : Bool :=
  (groupOf a t).isNone && !(s.unready a t) && a != Reg.PTP_RES_MAX && t != .fuse
    && !(decide (Reg.MTX_WAIT_MAX_T0 ≤ a) && decide (a ≤ Reg.MTX_WAIT_MAX_T7))

/-- The servo after a holdover cause has cleared: ACQUIRE, if it was in HOLDOVER for no other cause (R264). -/
def Servo.released (v : Servo) : Nat :=
  if v.state = 3 ∧ v.jump = none ∧ v.path = false ∧ v.noMaster = false ∧ v.tref = false ∧ v.noPps = false then 1 else v.state

/-- u is s after a reset of a cause has ended: the registers, tables and planes at their reset values, the journal, the fuse
array and the marker kept (R364, R366). -/
def State.Restarted (s u : State) (cause : Nat) : Prop :=
  u.dev = { State.reset.dev with cause := cause, lifeBits := s.dev.lifeBits, marker := s.dev.marker }
    ∧ u.mem = s.mem.filter (fun c => decide (jrnlBase ≤ c.1 ∧ c.1 < jrnlEnd)) ∧ u.fuse = s.fuse ∧ u.sent = s.sent
    ∧ u.clock = State.reset.clock ∧ u.epoch = State.reset.epoch ∧ u.bell = State.reset.bell ∧ u.cells = State.reset.cells
    ∧ u.elems = State.reset.elems ∧ u.lps = State.reset.lps ∧ u.token = State.reset.token ∧ u.trans = State.reset.trans
    ∧ u.osc = State.reset.osc ∧ u.obj = State.reset.obj ∧ u.sched = State.reset.sched ∧ u.time = State.reset.time
    ∧ (∀ a, a ≠ Reg.JRNL_AUTO_RESTORE → a ≠ Reg.DEV_RESET_CNT → a ≠ Reg.THM_TRIP_CNT → u.reg a = regReset a)
    ∧ u.reg Reg.JRNL_AUTO_RESTORE = autoRestoreReset u.mem
    ∧ (∀ a, a = Reg.DEV_RESET_CNT ∨ a = Reg.THM_TRIP_CNT → u.reg a = if cause = 1 ∨ cause = 2 then regReset a else s.reg a)

/-- u is s after a reset of a cause that left the device in BIST_HOLD has ended: it stands in BIST_HOLD, out of reset, with
the maps, the tables and the elements at their reset values, the journal and the fuse array kept (R353, R366). -/
def State.RestartedHeld (s u : State) (cause : Nat) : Prop :=
  u.dev = { State.reset.dev with cause := cause, lifeBits := s.dev.lifeBits, marker := s.dev.marker, state := 2 }
    ∧ u.mem = s.mem.filter (fun c => decide (jrnlBase ≤ c.1 ∧ c.1 < jrnlEnd)) ∧ u.fuse = s.fuse ∧ u.sent = s.sent
    ∧ u.epoch = State.reset.epoch ∧ u.bell = State.reset.bell ∧ u.cells = State.reset.cells ∧ u.elems = State.reset.elems
    ∧ u.obj = State.reset.obj ∧ u.sched = State.reset.sched ∧ u.time = State.reset.time ∧ u.token.holder = none

/-! ### Loop updates -/

/-- An element's code moves by a step within lo to 65,535, and LIMIT is set and counted where the clamp changes it (R119,
R120). -/
def State.Moves (s u : State) (pl : Plane) (e lo : Nat) (step : Int) : Prop :=
  let want := (s.loopCode pl e : Int) + step
  (u.loopCode pl e : Int) = clampI lo 65535 want
    ∧ (u.elem e).limit = ((s.elem e).limit || decide (clampI lo 65535 want ≠ want))
    ∧ u.reg Reg.LOOP_LIMIT_CNT
      = if clampI lo 65535 want = want then s.reg Reg.LOOP_LIMIT_CNT else bumpWord (s.reg Reg.LOOP_LIMIT_CNT)

/-- What the SW metric and the TR gradient come to at an update (R116, R117). -/
def State.swMeas (s : State) (pl : Plane) (e : Nat) : Meas :=
  let w := s.win pl e
  swMetric (sx 16 (s.rf Reg.LOOP_SW_DARK 15 0)) (s.occOf (e / 2)) w.w0.mean w.w1.mean w.u
def State.trMeas (s : State) (pl : Plane) (e : Nat) : TrMeas :=
  let w := s.win pl e
  trMetric (sx 16 (s.rf Reg.LOOP_SW_DARK 15 0)) (s.occOf (e / 2)) w.w0 w.w1 w.u (swTarget (s.liveCell (e / 2)))

/-- A VOA's power at an update, an input VOA's behind its own attenuation (R118). -/
def State.voaPower (s : State) (pl : Plane) (e : Nat) : Nat :=
  let mean := (s.win pl e).w0.mean
  if e < 9216 then mean * transmission (s.attenuation e (s.loopCode pl e)) / 65536 else mean

/-- The metric from which a set-point of a SW element or VOA starts, if the update is neither dark nor balanced (R123). -/
def State.measured (s : State) (pl : Plane) (e : Nat) : Option Int :=
  if e < 8704 then
    (match s.swMeas pl e with
    | .val m => some m
    | _ => none)
  else if belowDbm (s.win pl e).w0.mean (-720) then none else some (dBm16 (s.voaPower pl e))

/-- The target of a SW element or VOA, and how far its set-point moves at an update (R116, R118, R123). -/
def State.aim (s : State) (e : Nat) : Int := if e < 8704 then swTarget (s.liveCell (e / 2)) else sx 16 (s.elem e).target
def State.rampRate (s : State) (e : Nat) : Int :=
  if e < 8704 then (s.rf Reg.LOOP_RAMP_RATE 7 0 * 256 : Nat) else s.rf Reg.LOOP_RAMP_RATE 15 8

/-- Is a VOA's target TRANSPARENT (R118)? -/
abbrev State.transparent (s : State) (e : Nat) : Prop := 8704 ≤ e ∧ (s.elem e).target = 0x7FFF

/-- The step of the law on an error against a band (R119). -/
def stepOf (err band : Int) (delta : Nat) : Int := if band < err then delta else if err < -band then -(delta : Int) else 0

/-- The step of R119 toward a set-point: none at a dark or balanced update, and the search of a SW element, which steps in its
direction once no judgement is pending. -/
def State.LawStep (s : State) (pl : Plane) (e : Nat) (sp step : Int) : Prop :=
  (elType e = 0 → ∀ m, s.swMeas pl e = .val m →
    step = if 0 < (s.lp pl e).pend ∨ |m - sp| ≤ s.elBand e then 0
      else if (s.lp pl e).down then -(s.elStep e : Int) else s.elStep e)
  ∧ (elType e = 1 → ∀ g mid, s.trMeas pl e = .val g mid → step = stepOf (-g) (s.elBand e) (s.elStep e))
  ∧ (elType e = 1 → s.trMeas pl e = .dark ∨ s.trMeas pl e = .balanced → step = 0)
  ∧ (2 ≤ elType e → belowDbm (s.win pl e).w0.mean (-720) = false →
    step = stepOf ((s.voaPower pl e : Int) - linear sp) (linear sp * s.elBand e / 1024 : Nat) (s.elStep e))
  ∧ (elType e ≠ 1 → s.measured pl e = none → step = 0)

/-- The search of a SW element after an update at distance d from its set-point (R119). -/
def State.Searched (s u : State) (pl : Plane) (e d : Nat) : Prop :=
  let l := s.lp pl e
  (u.lp pl e).pend = (if 0 < l.pend then l.pend - 1 else if s.elBand e < d then s.elJudge e else 0)
    ∧ (u.lp pl e).dStep = (if 0 < l.pend then l.dStep else if s.elBand e < d then d else l.dStep)
    ∧ (u.lp pl e).down = if l.pend = 1 ∧ l.dStep < d then !l.down else l.down

/-- Between s and u an element is updated toward a set-point by the law (R119). -/
def State.Regulates (s u : State) (pl : Plane) (e : Nat) (sp : Int) : Prop :=
  (∃ step, s.LawStep pl e sp step ∧ s.Moves u pl e (if e < 8704 then 0 else s.minAtt e) step)
    ∧ (elType e = 0 → ∀ m, s.swMeas pl e = .val m → s.Searched u pl e (|m - sp|).toNat)

/-- Element e has a complete update on the plane that holds the token: no short, no run of misses or of updates on a rail
about to end in a fault, no host hold or written value, and a code in its range (R121, R124). -/
structure State.Updates (s : State) (pl : Plane) (e : Nat) : Prop where
  inService : s.InService
  holder : s.token.holder = some pl
  alone : s.token.peerUp = false
  lit : s.drv.relight = []
  offsets : s.trans.comp = []
  free : (s.elem e).hh = false ∧ (s.elem e).wrote = false
  sound : s.scFlag pl e = false ∧ (s.lp pl e).rail < 63
  range : (if e < 8704 then 0 else s.minAtt e) ≤ s.loopCode pl e ∧ s.loopCode pl e ≤ 65535
  complete : (s.win pl e).complete = true
  short : (s.win pl e).long = false

/-! ### Conversion -/

/-- A loop accumulator with a sample of its first or second half added, modulo its widths (R144). -/
def Acc.plus (a : Acc) (v : Nat) (minus : Bool) : Acc :=
  if minus then { a with sumM := (a.sumM + v) % 2 ^ 32, cntM := (a.cntM + 1) % 2 ^ 16 }
  else { a with sumP := (a.sumP + v) % 2 ^ 32, cntP := (a.cntP + 1) % 2 ^ 16 }

/-- The instant at which the latest sample of a slot that completes now was taken (log 27). -/
def State.sampledAt (s : State) : Nat := s.elapsed - 13 * nsUnit

/-- The accumulators after both samples of a sequence entry (R137, R144): in NORMAL mode converter A0 takes the entry's channel
and A1 its partner at one instant, in INTERLEAVE both take the entry's channel, A0 half a slot before A1; an entry with SPLIT
adds each sample to the half of the sine cycle it falls in, an entry that does not feed the loops to none. -/
def State.FedLoops (s u : State) (pl : Plane) (t : Nat) (inter : Bool) (w : Word) (raw0 raw1 : BitVec 12) : Prop :=
  let ch := fld w 20 16
  let half (i : Nat) : Bool := bit w 2 && !(s.firstHalf t i)
  ∀ k, tget accDefault u.accs k
    = if bit w 0 = false ∨ 15 < ch then tget accDefault s.accs k
      else if k = accKey pl t ch then
        (let a := (tget accDefault s.accs k).plus (s.correct pl t 0 (fld w 9 8) ch raw0)
          (half (if inter then s.sampledAt - slotNs w * nsUnit / 2 else s.sampledAt))
         if inter then a.plus (s.correct pl t 1 (fld w 9 8) ch raw1) (half s.sampledAt) else a)
      else if k = accKey pl t (partner ch) ∧ inter = false then
        (tget accDefault s.accs k).plus (s.correct pl t 1 (fld w 9 8) (partner ch) raw1) (half s.sampledAt)
      else tget accDefault s.accs k

/-- A host accumulator of an open window takes a sample (R146). -/
def State.HostTook (s u : State) (pl : Plane) (t ch v : Nat) : Prop :=
  let a := tget haccDefault s.haccs (accKey pl t ch)
  let b := tget haccDefault u.haccs (accKey pl t ch)
  if a.sat ∨ 2 ^ 48 ≤ a.sum + v then b.sat = true ∧ b.sum = a.sum ∧ b.cnt = a.cnt
  else b.sat = false ∧ b.sum = a.sum + v ∧ b.cnt = a.cnt + 1

/-! ### Safe-hold -/

/-- No transition runs and nothing of an earlier one is left to do. -/
abbrev State.Still (s : State) : Prop :=
  s.trans.running = false ∧ s.trans.waiting = [] ∧ s.trans.unsettled = [] ∧ s.trans.waves = []

/-- Between s and u safe-hold is entered (R197): elements of lit cells without a SAFETY circuit that regulate or kick are held
at their present codes, the VOAs of every circuit but SAFETY keep their codes and are blanked, and no other element moves. -/
def State.Freezes (s u : State) : Prop :=
  (∀ e, e < 8704 →
    let st := (s.elem e).st
    if (e / 2 ∈ CMap.lit s.epoch.active ∧ e / 2 ∉ s.safeCells) ∧ (st = .lock ∨ st = .settle ∨ st = .ramp ∨ st = .kick)
    then (u.elem e).st = .hold 3 ∧ (u.elem e).held = .loop
      ∧ (e ∉ s.trans.comp → ∀ pl, u.loopCode pl e = s.loopCode pl e)
    else u.elem e = s.elem e ∧ ∀ pl, u.loopCode pl e = s.loopCode pl e)
  ∧ ∀ e, 8704 ≤ e →
    (∀ pl, u.loopCode pl e = s.loopCode pl e)
    ∧ if ∃ c ∈ s.epoch.active, c.cls ≠ 0 ∧ (e = ivoaOf c.inp ∨ e = ovoaOf c.out)
      then (u.elem e).st = .hold 3 ∧ (u.elem e).held = .blank
      else u.elem e = s.elem e

/-- Between s and u the elements held by safe-hold leave it (R199) under steps 1 to 5 of R166: those of lit cells regulate
again from the code they held, those of PARK cells and the VOAs of ports without a circuit are parked or blanked; a circuit's
VOA whose clear code is its held one regulates at once, its other input VOA waits 10 µs, and its other output VOA for its
path, counted from the instant its input is driven. -/
def State.Thaws (s u : State) : Prop :=
  (∀ e, e < 8704 → if (s.elem e).st = .hold 3
    then (if s.actCell (e / 2) = .park then (u.elem e).st = (if u.effWarm (e / 2) then .parked else .off)
      else (u.elem e).st = .ramp ∧ ∀ pl, u.loopCode pl e = s.loopCode pl e)
    else u.elem e = s.elem e)
  ∧ (∀ p, p < 512 → s.epoch.active.from_ p = none → (s.elem (ivoaOf p)).st = .hold 3 → (u.elem (ivoaOf p)).st = .off)
  ∧ (∀ q, q < 512 → s.epoch.active.at_ q = none → (s.elem (ovoaOf q)).st = .hold 3 → (u.elem (ovoaOf q)).st = .off)
  ∧ ∀ c ∈ s.epoch.active, (s.elem (ovoaOf c.out)).st = .hold 3 →
    let i := ivoaOf c.inp
    let o := ovoaOf c.out
    let now := s.clearCode i = s.loopCode s.lead i
    (u.elem i).st = (if now then .ramp else .hold 3) ∧ u.loopCode s.lead i = s.loopCode s.lead i
      ∧ (¬ now → (c.inp, s.elapsed) ∈ u.drv.inWait)
      ∧ (u.elem o).st = (if s.clearCode o = s.loopCode s.lead o then .ramp else .hold 3)
      ∧ u.loopCode s.lead o = s.loopCode s.lead o
      ∧ (s.clearCode o ≠ s.loopCode s.lead o →
        (⟨c.out, if now then some s.elapsed else none, false, []⟩ : Relight) ∈ u.drv.relight)

/-- Between s and u a slice has asked for a conversion of a channel: one of LOOPBACK is the check's in turn (R345, R347). -/
def State.TakesTurn (s u : State) (pl : Plane) (t chan : Nat) : Prop :=
  (chan ≠ 18 ∨ s.loopTurn pl t = none → u.bist = s.bist)
    ∧ ∀ k j, chan = 18 → s.loopTurn pl t = some (k, j) →
      u.bistOf pl = { s.bistOf pl with turn := some k, lim := (s.bistOf pl).lim && decide (0 < j) }
        ∧ u.bistOf (otherPlane pl) = s.bistOf (otherPlane pl) ∧ u.bist.job = s.bist.job

/-! ### Frames -/

/-- A frame comes in on a lane whose ingress takes it: enabled, with LINK, not looped back (R205, R222). -/
abbrev State.Listens (s : State) (i : Nat) : Prop :=
  s.laneEn i = true ∧ s.laneLpbk i = false ∧ (s.lane i).link = true

/-- The host queue takes a frame of n octets: it is enabled and has room (R215). -/
abbrev State.HostRoom (s : State) (n : Nat) : Prop :=
  s.rb Reg.OSC_HOSTQ_CFG 31 = true ∧ s.osc.hostq.length < 256 ∧ s.hostOctets + n ≤ 524288

/-- A lane's counters of received frames and octets (R207). -/
def rxRegs (i : Nat) : List Nat := [laneWord i 0x08, laneWord i 0x10, laneWord i 0x14]

/-- u is s with a frame of n octets counted as received on a lane, its other registers as in s (R207). -/
def State.Received (s u : State) (i : Nat) (others : List Nat) : Prop :=
  s.RegsBut u (rxRegs i ++ others) ∧ u.reg (laneWord i 0x08) = s.reg (laneWord i 0x08) + 1

/-- s with device time at a time-stamp, the state in which a frame of that ingress time-stamp acts (R212, R224). -/
def State.atStamp (s : State) (t : Nat) : State := { s with clock := { s.clock with fine := t * fineUnit } }

/-- Is a frame one of the objects', with a sound tag (R209)? -/
abbrev soundTag (f : List Byte) : Prop := isObject f = true ∧ tagVersion f = 1 ∧ tagClass f ≠ 3 ∧ tagSrc f ≠ 0xFFFFF

/-- Its source is offered for learning (R209, R225, R234). -/
abbrev State.Teaches (s : State) (f : List Byte) : Prop :=
  tagNoLearn f = false ∧ tagSrc f ≠ 0 ∧ s.safe.active = false ∧ s.rb Reg.LEARN_CFG 31 = true

/-- The policer of an object frame, and whether the frame conforms (R247). -/
def State.policer (s : State) (i : Nat) (f : List Byte) : Bucket := (s.bucket (policerKey i (tagClass f))).at_ s.elapsedNs
abbrev State.Conforms (s : State) (i : Nat) (f : List Byte) : Prop :=
  (s.policer i f).en = false ∨ (((frameLen f + 20) * 1000000 : Nat) : Int) ≤ (s.policer i f).tokens

/-- An object frame's copy on its way to a lane, HOP one less (R209, R211). -/
def State.copyOf (s : State) (i : Nat) (f : List Byte) : QFrame :=
  ⟨s.elapsed + (8 * frameLen f + 800) * nsUnit, s.now, i, s.frameQueue i f, keptInSafe f, none,
    setOctets f (bodyAt f + 6) (octBE 1 (tagHop f - 1)), .none⟩

/-- Copies of c go to the lanes that p names and to no other. -/
def State.Copied (s u : State) (c : QFrame) (p : Nat → Bool) : Prop :=
  ∀ j, u.egress j = if p j then { s.egress j with waiting := insertCopy c (s.egress j).waiting } else s.egress j

/-- The lanes of the flood set of a class that a frame of a lane goes to (R210, R214). -/
def State.floodLanes (s : State) (c i j : Nat) : Bool :=
  decide (j < 512) && decide (c < 3) && s.flooded c j && j != i && (s.lane j).link

/-- A learn event of object x, class c, on lane i between s and u has the outcome that Table OBJ-3 gives it (R225 to R229). -/
def State.Learns (s u : State) (x c i : Nat) : Prop :=
  (s.objAt x = none →
    (s.used i < s.quota i →
      u.objAt x = some ⟨false, true, false, none, false, i, c, s.tMs⟩ ∧ s.Counted u Reg.LEARN_NEW_CNT)
    ∧ (s.quota i ≤ s.used i → u.objAt x = none ∧ s.Counted u Reg.LEARN_NOROOM_CNT))
  ∧ ∀ e, s.objAt x = some e →
    let known := e.lane = i ∨ (s.pairOf x).map (·.lane1) = some i
    (known → u.objAt x = some { e with hit := true, age := false, lastT := s.tMs })
    ∧ (¬ known → e.static_ = true → e.dualOk = true → e.dual = none →
      (s.quota i ≤ s.used i → u.objAt x = some e ∧ s.Counted u Reg.LEARN_NOROOM_CNT)
      ∧ (s.used i < s.quota i → s.Counted u Reg.LEARN_NOROOM_CNT ∨ ∃ k,
        u.objAt x = some { e with hit := true, age := false, lastT := s.tMs, dual := some k }
          ∧ u.pairAt k = some ⟨false, 0, x, i, e.lane⟩))
    ∧ (¬ known → (e.static_ = true ∧ e.dualOk = false ∨ e.dual.isSome = true ∨ s.holdElapsed e = false ∧ e.static_ = false) →
      u.objAt x = some e ∧ s.Counted u Reg.LEARN_CONFLICT_CNT)
    ∧ (¬ known → e.static_ = false → e.dual = none → s.holdElapsed e = true →
      (s.used i < s.quota i →
        u.objAt x = some { e with lane := i, cls := c, hit := true, age := false, lastT := s.tMs }
          ∧ s.Counted u Reg.LEARN_MOVE_CNT)
      ∧ (s.quota i ≤ s.used i → u.objAt x = some e ∧ s.Counted u Reg.LEARN_NOROOM_CNT))

end Sys2Proof.Machine
end

