-- ==== Sys2Proof/Certificates/Slice0/Obligations.lean ====
section
/-!
DEFINITION. The statements about the device, family by family. A statement about one command names the state `s'` that the
command finds, dt after the one before it, and the state `u` right after the command's own effect; `s.seal dt u` is the state
the step leaves once what follows from it has followed at the same instant. ClosingLeavesAlone says what of `s` stands unchanged in `s'`, and what of `u` in the state the step leaves.
-/

open Sys2Proof Sys2Proof.Machine

/-! ### The queue, the life cycle, and what surrounds every command -/

/-- A step takes the command at the front of the queue and carries it out with the rest of the queue. -/
def Obligations.StepRunsFront : Prop :=
  ∀ (c : Instr) (rest : List Instr) (s : State), step { s with pending := c :: rest } = exec c { s with pending := rest }

/-- Every command ends in a next state while the life cycle is in a state whose behaviour the manual gives, and in BLANK and
TEST every command faults (R379). With no command waiting the device idles (the model's choice, assumption log 1). -/
def Obligations.EveryCommandRuns : Prop :=
  ∀ (c : Instr) (s : State),
    (2 ≤ s.lifeState → ∃ t, exec c s = .next t) ∧ (s.lifeState < 2 → exec c s = .fault .lifecycleUnspecified)
      ∧ (s.pending = [] → step s = .next s)

/-- No command touches the queue, the fuse array or the life-cycle bits, no command unwrites a marker cell, and so the life
cycle never moves back (R379). -/
def Obligations.LifeCycleNeverMovesBack : Prop :=
  ∀ (c : Instr) (s t : State), exec c s = .next t →
    t.pending = s.pending ∧ t.fuse = s.fuse ∧ t.dev.lifeBits = s.dev.lifeBits ∧ s.dev.marker ≤ t.dev.marker
      ∧ s.lifeState ≤ t.lifeState

/-- nINT is asserted exactly while it is enabled and an unmasked cause stands, after every step (R317). -/
def Obligations.IntFollowsEveryStep : Prop := ∀ s t : State, s.IntFollows → step s = .next t → t.IntFollows

/-- The device right after reset: nINT follows its condition, epoch 0 with no circuit, nothing prepared or requested, no
plane holds the token, every element is OFF, no transition runs, no lane and no port has LINK, the event queue is empty
(R38, R60, R86, R109, R202, R222, R306), and no command waits. -/
def Obligations.ResetState : Prop :=
  State.reset.IntFollows ∧ State.reset.epoch.act = 0 ∧ State.reset.epoch.active = [] ∧ State.reset.epoch.prep = none
    ∧ State.reset.bell.list = [] ∧ State.reset.bell.stg = [] ∧ State.reset.token.holder = none
    ∧ (∀ e, (State.reset.elem e).st = .off) ∧ State.reset.trans.running = false
    ∧ (∀ i, (State.reset.lane i).link = false) ∧ (∀ p, (State.reset.link p).link = false)
    ∧ State.reset.chain.queue = [] ∧ State.reset.pending = []

/-- What surrounds a command's own effect. The time before it leaves everything alone but the clocks, the elements, their
loops, the drive and the sequencer where a wave begins or a fresh window is taken, the Object Table and the registers where
the sweep runs, the supervisory plane's tables and queues where frames have come or are about to come back in loopback, the
converter pairs where a wave hands a tile to the sequencer, grant waits, corrected codewords and what the device reads of the
fuse shadow; with none of these due, s' is s with its clocks advanced and what time leaves open. What follows from it, in a fed
device with no request waiting under STRICT and no frame about to come back on a port, leaves alone the memories, the
fuse array, time, the Cell Table, the route solver, traces, tiles, accumulators, temperature, the Object Table, network time,
the journal, the test access port, every register outside `closingMayWrite`, and, while no self-test slice is in progress,
the converters. -/
def Obligations.ClosingLeavesAlone : Prop :=
  (∀ (s s' : State) (dt : Nat), s' = s.advance dt →
    s'.elapsed = s.elapsed + dt ∧ s'.mem = s.mem ∧ s'.fuse = s.fuse ∧ s'.pending = s.pending ∧ s'.cells = s.cells
      ∧ s'.bell = s.bell ∧ s'.epoch = s.epoch ∧ s'.pla = s.pla ∧ s'.plb = s.plb ∧ s'.token = s.token ∧ s'.safe = s.safe
      ∧ s'.therm = s.therm ∧ s'.dev = s.dev ∧ s'.jrnl = s.jrnl
      ∧ s'.bist = { s.bist with uncorrRun := s'.bist.uncorrRun }
      ∧ s'.time = s.time ∧ s'.conv = s.conv ∧ s'.accs = s.accs ∧ s'.haccs = s.haccs
      ∧ (s.trans.waveAt = none → s'.pairs = s.pairs)
      ∧ s'.tiles = s.tiles ∧ s'.traces = s.traces ∧ s'.tap = s.tap ∧ s'.sent = s.sent ∧ s'.nint = s.nint
      ∧ (∀ p, s'.link p = { s.link p with fecCorr := (s'.link p).fecCorr })
      ∧ (s.osc.arrived = [] → s.osc.loops = [] →
        s'.osc = s.osc ∧ s'.sched = s.sched
          ∧ (s.trans.waveAt = none → s.drv.freshAt = [] → s.obj.sweep = none →
            s' = if dt = 0 then s else (s.elapse dt).meanwhile)))
  ∧ ∀ (s u t : State) (dt : Nat), (u.pla.valid = true ∨ u.plb.valid = true) → u.NoneWaiting →
    t = s.seal dt u →
    t.mem = u.mem ∧ t.fuse = s.fuse ∧ t.clock = u.clock ∧ t.cells = u.cells ∧ t.bell = u.bell ∧ t.traces = u.traces
      ∧ t.tiles = u.tiles ∧ t.accs = u.accs ∧ t.haccs = u.haccs ∧ t.therm = u.therm ∧ t.obj = u.obj ∧ t.time = u.time
      ∧ t.jrnl = u.jrnl ∧ t.tap = u.tap ∧ (∀ a, closingMayWrite a = false → t.reg a = u.reg a)
      ∧ (u.NoSlice → t.conv = u.conv ∧ (u.trans.waves = [] → u.trans.kicking = [] → t.pairs = u.pairs))

/-- Completing a host command writes its opcode and code to the page's CMD_STATUS, counts the codes BADARG, LOCKED and BUSY
in the page's ERR_COUNT (R312), answers the COMMAND transaction the order came as, if one waits for it and its port has LINK
(R283, R278), and leaves everything else as it was. -/
def Obligations.CompletionReports : Prop :=
  ∀ (s : State) (page op code : Nat) (o : Order), page < 128 → code ≤ 10 →
    (s.complete page op code o).reg (cmdStatus page) = w32 (op * 2 ^ 24 + code)
      ∧ (s.complete page op code o).reg (Reg.base page + 0x01C)
        = (if code = cBADARG ∨ code = cLOCKED ∨ code = cBUSY then bumpWord (s.reg (Reg.base page + 0x01C))
          else s.reg (Reg.base page + 0x01C))
      ∧ s.RegsBut (s.complete page op code o) [cmdStatus page, Reg.base page + 0x01C, Reg.EHR_RESP_DROP_CNT o.port]
      ∧ (s.complete page op code o).bare s = s
      ∧ (s.complete page op code o).chain = s.chain
      ∧ (o.reply = none → (s.complete page op code o).sent = s.sent)
      ∧ (∀ r, o.reply = some r →
        ((s.complete page op code o).link o.port).out = (s.link o.port).out.filter (fun x => x.tid != r.tid)
          ∧ (r.due = true → (s.link o.port).link = true → ∃ f : LinkFrame,
            (s.complete page op code o).sent = s.sent ++ [.link o.port 5 r.mac f]
              ∧ f.seq = o.seq ∧ f.tid = r.tid ∧ f.addr = r.addr ∧ f.code = BitVec.ofNat 8 code
              ∧ f.payload = if carriesPayload code then [w32 (op * 2 ^ 24 + code)] else []))

/-! ### Paths and the route solver -/

/-- A circuit's path enters the fabric on its input line, reaches S8 on a line whose low byte is the route code, and leaves
on its output line; at every stage its cell is in BAR where the line keeps its number and in CROSS where bit d(s) changes
(R22, R23, R47). -/
def Obligations.PathReachesItsOutput : Prop :=
  ∀ i o mid : Nat, i < 512 → o < 512 → mid < 256 →
    lineAt i o mid 0 = i ∧ lineAt i o mid 8 % 256 = mid ∧ lineAt i o mid 17 = o
      ∧ ∀ s, s < 17 → (hopAt i o mid s).cell = cellOf (lineAt i o mid s) s
        ∧ lineAt i o mid (s + 1)
          = (if (hopAt i o mid s).state = .bar then lineAt i o mid s else Nat.xor (lineAt i o mid s) (2 ^ stageBit s))

/-- Removing a circuit from a map whose circuits use no line in common returns to PARK every cell on its path that carries
no other circuit; cells that still carry another keep their state, and no other circuit changes (R48). -/
def Obligations.RemovalReturnsCellsToPark : Prop :=
  ∀ (m : CMap) (q : Nat), (∀ c ∈ m, c.inp < 512 ∧ c.out < 512 ∧ c.mid < 256) →
    (∀ c ∈ m, ∀ d ∈ m, c.out ≠ d.out → shareLine c.inp c.out c.mid d.inp d.out d.mid = false) →
    (∀ q', q' ≠ q → (m.without q).at_ q' = m.at_ q') ∧ (m.without q).at_ q = none
      ∧ ∀ x, x < 4352 →
        ((∃ c ∈ m, c.out ≠ q ∧ ∃ h ∈ c.path, h.cell = x) → (m.without q).cell x = m.cell x)
        ∧ ((∀ c ∈ m, c.out ≠ q → ∀ h ∈ c.path, h.cell ≠ x) → (m.without q).cell x = .park)

/-- Step A of R49: the route code found uses no occupied line and lights the fewest PARK cells, ties to the lowest code, and
none is found only if every code meets an occupied line. -/
def Obligations.FreePathIsBest : Prop :=
  ∀ (m : CMap) (i o : Nat),
    (∀ mid, freePath m i o = some mid →
      mid < 256 ∧ (∀ c ∈ m, c.meets i o mid = false)
        ∧ ∀ k, k < 256 → (∀ c ∈ m, c.meets i o k = false) →
          parkCells m i o mid < parkCells m i o k ∨ (parkCells m i o mid = parkCells m i o k ∧ mid ≤ k))
    ∧ (freePath m i o = none → ∀ k, k < 256 → ∃ c ∈ m, c.meets i o k = true)

/-- Requests that pass the checks of R40 are entered into the request list in key order and complete with DONE; nothing else
changes: CONNECT with a class, DUPLEX of two ports, CONNECT_OBJ of two objects that resolve to lanes, RELEASE, and PIN and
UNPIN of an output that does not carry a SAFETY circuit. -/
def Obligations.RequestsAreListed : Prop :=
  ∀ (dt : Nat) (o : Order) (a0 a1 : Word) (s s' : State), s' = s.advance dt →
    s'.Staging → s'.Unlisted o → s'.bell.list.length < 1024 →
    (fld a1 1 0 ≠ 3 → ∃ u : State, exec (.connect dt o a0 a1) s = .next (s.seal dt (u.complete 0x11 1 cDONE o))
      ∧ s'.Entered u (.entered o 1 (fld a0 24 16) (fld a0 8 0) (fld a1 1 0) none none))
    ∧ (fld a1 1 0 ≠ 3 → fld a0 24 16 ≠ fld a0 8 0 →
      ∃ u : State, exec (.duplex dt o a0 a1) s = .next (s.seal dt (u.complete 0x11 4 cDONE o))
        ∧ s'.Entered u (.entered o 4 (fld a0 24 16) (fld a0 8 0) (fld a1 1 0) none none))
    ∧ (∀ i q, fld a1 29 28 ≠ 3 → fld a0 19 0 ≠ fld a1 19 0 → fld a0 19 0 ≠ 0 → fld a0 19 0 ≠ 0xFFFFF → fld a1 19 0 ≠ 0 →
      fld a1 19 0 ≠ 0xFFFFF → s'.objPort (fld a0 19 0) = some i → s'.objPort (fld a1 19 0) = some q → i < 512 → q < 512 →
      ∃ u : State, exec (.connectObj dt o a0 a1) s = .next (s.seal dt (u.complete 0x11 2 cDONE o))
        ∧ s'.Entered u (.entered o 2 i q (fld a1 29 28) (some (fld a0 19 0)) (some (fld a1 19 0))))
    ∧ (∃ u : State, exec (.release dt o a0) s = .next (s.seal dt (u.complete 0x11 3 cDONE o))
      ∧ s'.Entered u (.entered o 3 0 (fld a0 8 0) 0 none none))
    ∧ ((s'.bell.stg.at_ (fld a0 8 0)).map (·.cls) ≠ some 0 →
      (∃ u : State, exec (.pin dt o a0) s = .next (s.seal dt (u.complete 0x11 5 cDONE o))
        ∧ s'.Entered u (.entered o 5 0 (fld a0 8 0) 0 none none))
      ∧ ∃ u : State, exec (.unpin dt o a0) s = .next (s.seal dt (u.complete 0x11 6 cDONE o))
        ∧ s'.Entered u (.entered o 6 0 (fld a0 8 0) 0 none none))

/-- A request with class code 3 changes nothing and completes with BADARG (R12), under premises that leave out the cases whose
order against R12 the manual does not state: a repeat, a running restore and a prepared map (assumption log 120). -/
def Obligations.ClassThreeIsBad : Prop :=
  ∀ (dt : Nat) (o : Order) (a0 a1 : Word) (s s' : State), s' = s.advance dt → s'.Staging → s'.Unlisted o →
    (fld a1 1 0 = 3 →
      exec (.connect dt o a0 a1) s = .next (s.seal dt (s'.complete 0x11 1 cBADARG o))
      ∧ exec (.duplex dt o a0 a1) s = .next (s.seal dt (s'.complete 0x11 4 cBADARG o)))
    ∧ (fld a1 29 28 = 3 → exec (.connectObj dt o a0 a1) s = .next (s.seal dt (s'.complete 0x11 2 cBADARG o)))

/-- A request that repeats the source and sequence of one in the list changes nothing and completes with the code of the
first, which is DONE: only a request that completes with DONE is listed (R41, R40). That the repeat is answered first also
while a map is prepared or a restore runs, where R73 has LOCKED and R84 BUSY, and before the checks of its arguments, is the
model's choice (assumption log 120). -/
def Obligations.RepeatsChangeNothing : Prop :=
  ∀ (dt : Nat) (o : Order) (a0 a1 : Word) (s s' : State), s' = s.advance dt → s'.Ready → ¬ s'.Unlisted o →
    exec (.connect dt o a0 a1) s = .next (s.seal dt (s'.complete 0x11 1 cDONE o))
    ∧ exec (.connectObj dt o a0 a1) s = .next (s.seal dt (s'.complete 0x11 2 cDONE o))
    ∧ exec (.release dt o a0) s = .next (s.seal dt (s'.complete 0x11 3 cDONE o))
    ∧ exec (.duplex dt o a0 a1) s = .next (s.seal dt (s'.complete 0x11 4 cDONE o))
    ∧ exec (.pin dt o a0) s = .next (s.seal dt (s'.complete 0x11 5 cDONE o))
    ∧ exec (.unpin dt o a0) s = .next (s.seal dt (s'.complete 0x11 6 cDONE o))

/-- While a map is prepared, requests of opcodes 0x01 to 0x06 (that repeat none, R41), SOLVE_INCR, SOLVE_FULL, DIRECT_MAP,
CLEAR_STAGE and PRESTAGE change nothing and complete with LOCKED; the request list, the refusal log and the conflict log
keep their contents (R73). -/
def Obligations.PreparedMapLocks : Prop :=
  ∀ (dt : Nat) (o : Order) (a0 a1 : Word) (s s' : State), s' = s.advance dt →
    s'.Ready → s'.epoch.restoring = false → s'.epoch.prep ≠ none →
    (s'.Unlisted o →
      exec (.connect dt o a0 a1) s = .next (s.seal dt (s'.complete 0x11 1 cLOCKED o))
      ∧ exec (.connectObj dt o a0 a1) s = .next (s.seal dt (s'.complete 0x11 2 cLOCKED o))
      ∧ exec (.release dt o a0) s = .next (s.seal dt (s'.complete 0x11 3 cLOCKED o))
      ∧ exec (.duplex dt o a0 a1) s = .next (s.seal dt (s'.complete 0x11 4 cLOCKED o))
      ∧ exec (.pin dt o a0) s = .next (s.seal dt (s'.complete 0x11 5 cLOCKED o))
      ∧ exec (.unpin dt o a0) s = .next (s.seal dt (s'.complete 0x11 6 cLOCKED o)))
    ∧ exec (.solveIncr dt o) s = .next (s.seal dt (s'.complete 0x11 8 cLOCKED o))
    ∧ exec (.solveFull dt o) s = .next (s.seal dt (s'.complete 0x11 9 cLOCKED o))
    ∧ exec (.directMap dt o) s = .next (s.seal dt (s'.complete 0x11 10 cLOCKED o))
    ∧ exec (.clearStage dt o) s = .next (s.seal dt (s'.complete 0x11 11 cLOCKED o))
    ∧ exec (.prestage dt o a0) s = .next (s.seal dt (s'.complete 0x13 5 cLOCKED o))
    ∧ (s'.complete 0x11 1 cLOCKED o).bell = s'.bell
    ∧ (s'.complete 0x11 1 cLOCKED o).epoch = s'.epoch

/-- SOLVE_INCR with an uncovered request, and SOLVE_FULL, start a solve that covers every listed request (R46, R52): the
requests that R65 discards are marked first, and no map changes until the solve ends, but for a base that holds a request
discarded now (R66). SOLVE_INCR with nothing uncovered completes with ZERO. Outside the route solver only registers, events
and the conflict log may change. -/
def Obligations.SolvesStart : Prop :=
  ∀ (dt : Nat) (o : Order) (s s' : State), s' = s.advance dt → s'.Staging → s'.bell.job = none →
    ((∀ r ∈ s'.bell.list, r.covered = true) →
      exec (.solveIncr dt o) s = .next (s.seal dt (s'.complete 0x11 8 cZERO o)))
    ∧ ((∃ r ∈ s'.bell.list, r.covered = false) → ∃ u : State, exec (.solveIncr dt o) s = .next (s.seal dt u)
      ∧ (∃ j, u.bell.job = some j ∧ j.kind = 1 ∧ j.ord = some o ∧ j.start = s'.now ∧ j.startMap = s'.bell.stg)
      ∧ (∀ r ∈ u.bell.list, r.covered = true)
      ∧ u.bell.list = s'.settle.bell.list.map (fun r => { r with covered := true })
      ∧ u.bell.list.map (fun r => (r.src, r.seq)) = s'.bell.list.map (fun r => (r.src, r.seq))
      ∧ u.bell.stg = s'.bell.stg ∧ ((∀ r ∈ s'.bell.list, r.based = false) → u.bell.base = s'.bell.base)
      ∧ u.bare s' = { s' with
        bell := u.bell, epoch := { s'.epoch with clog := u.epoch.clog, clogOvf := u.epoch.clogOvf } })
    ∧ ∃ u : State, exec (.solveFull dt o) s = .next (s.seal dt u)
      ∧ (∃ j, u.bell.job = some j ∧ j.kind = 2 ∧ j.ord = some o ∧ j.start = s'.now ∧ j.startMap = s'.bell.stg)
      ∧ (∀ r ∈ u.bell.list, r.covered = true)
      ∧ u.bell.list = s'.settle.bell.list.map (fun r => { r with covered := true })
      ∧ u.bell.list.map (fun r => (r.src, r.seq)) = s'.bell.list.map (fun r => (r.src, r.seq))
      ∧ u.bell.stg = s'.bell.stg ∧ ((∀ r ∈ s'.bell.list, r.based = false) → u.bell.base = s'.bell.base)
      ∧ u.bare s' = { s' with
        bell := u.bell, epoch := { s'.epoch with clog := u.epoch.clog, clogOvf := u.epoch.clogOvf } }

/-- When an incremental solve ends, the staging map is what R44 and R49 make of the base and the surviving covered requests;
when a full solve succeeds, staging map and base are what R51 and R52 make of them and of the map at its issue; a full solve
that fails leaves the staging map as it was. The active map never changes by a solve, and INT_CAUSE bit 0 of page BELL is set
after every one (R55, R59); that a full solve that fails sets it too is the model's choice (assumption log 121). -/
def Obligations.SolvesEnd : Prop :=
  ∀ (dt : Nat) (s s' : State) (j : SolveJob), s' = s.advance dt → s'.InService → s'.bell.job = some j → s'.epoch.job = none →
    ∃ u : State, exec (.solveDone dt) s = .next (s.seal dt u) ∧ u.bell.job = none ∧ u.epoch = s'.epoch ∧ u.mem = s'.mem
      ∧ u.bell.list.map (fun r => (r.src, r.seq)) = s'.bell.list.map (fun r => (r.src, r.seq))
      ∧ (j.kind = 1 → u.bell.base = s'.bell.base
        ∧ u.bell.stg = (solveIncrMap s'.epoch.active s'.bell.base s'.bell.applied).1 ∧ u.causeSet 0x11 0 = true)
      ∧ (j.kind = 2 → ∀ m outs, solveFullMap j.startMap s'.epoch.active s'.bell.base s'.bell.applied = .ok (m, outs) →
        u.bell.stg = m ∧ u.bell.base = m ∧ u.causeSet 0x11 0 = true)
      ∧ (j.kind = 2 → ∀ q, solveFullMap j.startMap s'.epoch.active s'.bell.base s'.bell.applied = .error q →
        u.bell.stg = s'.bell.stg ∧ u.bell.base = s'.bell.base ∧ u.causeSet 0x11 0 = true)

/-- Following an input through the loaded cell states (R23, R56) finds exactly the path R47 gives for the route code and
output found: every cell on it is loaded with the state the path needs. -/
def Obligations.TracesAreRoutes : Prop :=
  ∀ (s : State) (p mid o : Nat), p < 512 → s.trace 17 0 p 0 = some (mid, o) →
    mid < 256 ∧ o < 512 ∧ ∀ h ∈ path p o mid, s.loadedCell h.cell = h.state.code

/-- DIRECT_MAP that passes every check of R56 is settled by R68: a map identical to the base changes nothing; where no other
DIRECT_MAP has set the base, or one that it outranks or repeats, it makes the map its loaded states define the staging map and
the base, and completes with DONE; where a source of higher rank has set the base it changes nothing and completes with
CONFLICT. The load that loses is recorded (R66) under the lowest cell whose state differs between the two loads. CLEAR_STAGE
empties the request list and the logs, makes the active map staging map and base, and completes with ZERO where there was
nothing to clear, else DONE (R57). The epoch goes on: that a log overflowed stays, and so does s0 of R44, which CLEAR_STAGE
notes too where it answers ZERO (the model's choice, assumption log 148); that CLEAR_STAGE forgets what was discarded or refused
before it is the model's choice as well (assumption log 169). -/
def Obligations.StagingIsReplacedWhole : Prop :=
  ∀ (dt : Nat) (o : Order) (s s' : State), s' = s.advance dt → s'.Staging → s'.bell.job = none →
    (∀ m, s'.Loads o m →
      let src := portSrc o.port
      let seq := o.seq.toNat
      let bellRegs := Reg.BELL_SOLVE_RES :: Reg.BELL_DIST_A :: Reg.BELL_DIST_B :: Reg.BELL_SOLVE_NS :: reportRegs 0x11
      (m.sameAs s'.bell.base = true →
        exec (.directMap dt o) s = .next (s.seal dt ((s'.noteFirst src seq).complete 0x11 10 cDONE o)))
      ∧ (m.sameAs s'.bell.base = false → (∀ bs bq, s'.bell.baseDirect = some (bs, bq) → src ≤ bs) →
        ∃ u : State, exec (.directMap dt o) s = .next (s.seal dt (u.complete 0x11 10 cDONE o))
          ∧ u.bell = { s'.bell with
            stg := m, base := m, baseDirect := some (src, seq), fulls := [], delta := u.bell.delta, directLoad := m
            first := (s'.noteFirst src seq).bell.first, cellLost := s'.bell.cellLost || s'.bell.baseDirect.isSome }
          ∧ u.bare s' = { s' with bell := u.bell, epoch := u.epoch }
          ∧ (∀ q, q < 512 → tget (fun _ => 0) u.bell.delta q = category s'.epoch.active m q) ∧ u.causeSet 0x11 0 = true
          ∧ (s'.bell.baseDirect = none → u.epoch = s'.epoch ∧ s'.RegsBut u bellRegs)
          ∧ (∀ bs bq x, s'.bell.baseDirect = some (bs, bq) → s'.Parts m x → s'.Clashes u src seq bs bq x)
          ∧ s'.RegsBut u (Reg.EPOCH_CONFLICT_CNT :: bellRegs ++ reportRegs 0x13))
      ∧ (∀ bs bq, m.sameAs s'.bell.base = false → s'.bell.baseDirect = some (bs, bq) → bs < src →
        ∃ u : State, exec (.directMap dt o) s = .next (s.seal dt (u.complete 0x11 10 cCONFLICT o))
          ∧ u.bare s' = { s' with bell := { s'.bell with cellLost := true }, epoch := u.epoch }
          ∧ (∀ x, s'.Parts m x → s'.Clashes u bs bq src seq x)
          ∧ s'.RegsBut u (Reg.EPOCH_CONFLICT_CNT :: reportRegs 0x13)))
    ∧ ∃ u : State, exec (.clearStage dt o) s
        = .next (s.seal dt (u.complete 0x11 11
          (if s'.bell.list = [] ∧ s'.bell.stg.sameAs s'.epoch.active = true then cZERO else cDONE) o))
      ∧ u = { s' with
        bell := { s'.bell with list := [], log := [], delta := [], cellLost := false, fulls := [], baseDirect := none
                               stg := s'.epoch.active, base := s'.epoch.active
                               first := (s'.noteFirst (portSrc o.port) o.seq.toNat).bell.first }
        epoch := { s'.epoch with clog := [] } }

/-! ### Epochs -/

/-- A PREPARE with nothing to solve, and the end of a PREPARE that has solved, prepare the staging map under the command's
tag for the lease, set INT_CAUSE bit 5, send event 0x1202 and complete with DONE where the checks of R72 find nothing; the
map prepared is identical to the staging map at that moment (R62, R71, R74). -/
def Obligations.PrepareTakesStagingMap : Prop :=
  ∀ (dt : Nat) (o : Order) (a0 a3 : Word) (s s' : State), s' = s.advance dt → s'.Preparable →
    (s'.Ready → s'.epoch.restoring = false → s'.epoch.job = none → s'.mustSolve = false →
      (bit a3 31 = true ∨ a0.toNat = s'.nextEpoch) →
      ∃ u : State, exec (.prepare dt o a0 a3) s = .next (s.seal dt (u.complete 0x13 3 cDONE o))
        ∧ s'.Prepares u (if bit a3 31 then fld a3 27 16 else 0))
    ∧ (∀ tag c, s'.InService → s'.epoch.job = some ⟨tag, some c, none, 0, []⟩ →
      ∃ u : State, exec (.prepareDone dt) s = .next (s.seal dt (u.complete 0x13 c.op cDONE c.ord))
        ∧ s'.Prepares u tag)

/-- On a prepared map whose lease has not ended, in a device ready under R79, COMMIT_NOW commits at once (R76), a waiting
COMMIT_NOW commits when COMMIT comes (R63), and a scheduled COMMIT_AT when device time reaches T, from 20 ns before T on
(R80; that its commit lies within 20 ns of T to either side is the model's reading, assumption log 122); each order completes
with DONE. -/
def Obligations.CommitsReplaceTheActiveMap : Prop :=
  ∀ (dt : Nat) (s s' : State) (m : CMap), s' = s.advance dt → s'.InService → s'.epoch.prep = some m → s'.canCommit = true →
    s'.elapsed < s'.epoch.leaseEnd →
    (∀ o a0 a3, s'.Ready → s'.epoch.restoring = false → s'.epoch.job = none → s'.epoch.held = none → s'.Names a0 a3 →
      ∃ u : State, exec (.commitNow dt o a0 a3) s = .next (s.seal dt (u.complete 0x13 1 cDONE o))
        ∧ s'.Commits u m)
    ∧ (∀ h, s'.epoch.held = some h → h.cmd.op = 1 → h.late = false → h.waiters = [] →
      ∃ u : State, exec (.commit dt) s = .next (s.seal dt (u.complete 0x13 1 cDONE h.cmd.ord)) ∧ s'.Commits u m)
    ∧ (∀ h, s'.epoch.held = some h → h.cmd.op = 2 → h.late = false → h.waiters = [] → h.at_ ≤ s'.nowNs + 20 →
      ∃ u : State, exec (.scheduledTimeReached dt) s = .next (s.seal dt (u.complete 0x13 2 cDONE h.cmd.ord))
        ∧ s'.Commits u m)

/-- COMMIT_AT for a time still to come and before the end of the lease is held with its T and completes later (R77); ABORT
discards the prepared map with cause HOST and completes with DONE (R75); the end of the lease discards it too, and a held
order completes with TIMEOUT (R74). Staging map, request list and logs stay. -/
def Obligations.PreparedMapsAreHeldAndDiscarded : Prop :=
  ∀ (dt : Nat) (s s' : State) (m : CMap), s' = s.advance dt → s'.InService → s'.epoch.prep = some m →
    (∀ o a0 a1 a2 a3, s'.Ready → s'.epoch.restoring = false → s'.epoch.job = none → s'.epoch.held = none → s'.Names a0 a3 →
      s'.safe.active = false → a1.toNat < 1000000000 →
      s'.nowNs ≤ EpochCmd.time ⟨2, o, a0, a1, a2, a3⟩ →
      EpochCmd.time ⟨2, o, a0, a1, a2, a3⟩ * nsUnit < s'.nowNs * nsUnit + (s'.epoch.leaseEnd - s'.elapsed) →
      ∃ u : State, exec (.commitAt dt o a0 a1 a2 a3) s = .next (s.seal dt u)
        ∧ u = { s' with
          bell := { s'.bell with first := u.bell.first }
          epoch := { s'.epoch with held := some ⟨⟨2, o, a0, a1, a2, a3⟩, EpochCmd.time ⟨2, o, a0, a1, a2, a3⟩, false, []⟩ } })
    ∧ (∀ o a0 a3, s'.Ready → s'.epoch.restoring = false → s'.epoch.job = none → s'.epoch.held = none → s'.Names a0 a3 →
      ∃ u : State, exec (.abort dt o a0 a3) s = .next (s.seal dt (u.complete 0x13 4 cDONE o))
        ∧ u.bare s' = { s' with
          bell := { s'.bell with first := u.bell.first }
          epoch := { s'.epoch with prep := none, held := none, tagEnd := 4, deferred := false, lastOut := 3, lastEpoch := s'.nextEpoch } }
        ∧ s'.Counted u Reg.EPOCH_ABORT_CNT ∧ s'.Causes u 0x13 3
        ∧ s'.RegsBut u (Reg.EPOCH_ABORT_CNT :: reportRegs 0x13)
        ∧ s'.Reported u 0x13 0x1204 7 0 s'.nextEpoch (pay [1]))
    ∧ (s'.epoch.leaseEnd ≤ s'.elapsed →
      ∃ u : State,
        exec (.leaseExpiry dt) s = .next (s.seal dt (match s'.epoch.held with
          | none => u
          | some h => u.endHeld h cTIMEOUT))
        ∧ u.bare s' = { s' with
          epoch := { s'.epoch with prep := none, held := none, tagEnd := 3, deferred := false, lastOut := 4, lastEpoch := s'.nextEpoch } }
        ∧ s'.Counted u Reg.EPOCH_EXPIRE_CNT ∧ s'.Causes u 0x13 4
        ∧ s'.RegsBut u (Reg.EPOCH_EXPIRE_CNT :: reportRegs 0x13)
        ∧ s'.Reported u 0x13 0x1205 7 0 s'.nextEpoch [])

/-- PRESTAGE enters the first n entries of the pre-staged set as requests of source 3 with sequences 0 to n − 1 and
completes with DONE, where none of them would complete with BADARG, the list has room and holds no pre-staged request
(R83). RESTORE_COMMIT in a start whose earlier steps are done and whose device is ready commits the circuits of the selected
classes from the newest valid slot, or none where there are none, and ends the restore step (R84, R368); where the device is not
ready, or the rate of rise defers the commit (R79, R334), it waits, a deferral counting once by the model's reading (assumption
log 167). -/
def Obligations.StoredRequestsAreTaken : Prop :=
  (∀ (dt : Nat) (o : Order) (a0 : Word) (s s' : State) (l : List Req), s' = s.advance dt → s'.Staging →
      0 < fld a0 6 0 → fld a0 6 0 ≤ 64 → s'.prestaged s'.objPort (fld a0 6 0) = some l →
      s'.bell.list.length + fld a0 6 0 ≤ 1024 → (∀ r ∈ s'.bell.list, r.src ≠ 3) →
      ∃ u : State, exec (.prestage dt o a0) s = .next (s.seal dt (u.complete 0x13 5 cDONE o))
        ∧ u = { s' with bell := { s'.bell with list := u.bell.list, first := u.bell.first } }
        ∧ u.bell.list.Perm (s'.bell.list ++ l) ∧ l.length = fld a0 6 0
        ∧ ∀ i r, l[i]? = some r → r.src = 3 ∧ r.seq = i ∧ r.op = s'.rf (0x13A00 + 16 * i) 7 0)
  ∧ (∀ (dt : Nat) (s s' : State), s' = s.advance dt →
    s'.InService → s'.dev.state = 0 → s'.dev.restoreDone = false → s'.dev.wiped = true →
      s'.dev.fuseOk = some true → s'.token.granted = true → s'.dev.marker < 5 → s'.rf Reg.JRNL_AUTO_RESTORE 2 0 ≠ 0 →
      s'.mayRestore = true →
      ∃ u : State, exec (.restoreCommit dt) s = .next (s.seal dt u)
        ∧ u.epoch.restoring = false ∧ u.dev.restoreDone = true ∧ u.jrnl.restored = s'.restorable.length
        ∧ u.dev.restored = s'.restorable.map (·.out) ∧ u.mem = s'.mem
        ∧ (s'.restorable = [] → u.epoch.act = s'.epoch.act ∧ u.epoch.active = s'.epoch.active ∧ u.dev.lockDone = true)
        ∧ (s'.restorable ≠ [] → u.epoch.act = s'.nextEpoch ∧ u.epoch.active = s'.restorable
          ∧ u.dev.lockAt = some s'.elapsed))
  ∧ (∀ (dt : Nat) (s s' : State), s' = s.advance dt →
    s'.InService → s'.dev.state = 0 → s'.dev.restoreDone = false → s'.dev.wiped = true →
      s'.dev.fuseOk = some true → s'.token.granted = true → s'.dev.marker < 5 → s'.rf Reg.JRNL_AUTO_RESTORE 2 0 ≠ 0 →
      s'.mayRestore = false →
      ∃ u : State, exec (.restoreCommit dt) s = .next (s.seal dt u)
        ∧ u.bare s' = { s' with
          dev := { s'.dev with restoreWait := true }
          epoch := { s'.epoch with restoring := true, deferred := s'.epoch.deferred || s'.restoreDefers } }
        ∧ (s'.restoreDefers = true → s'.epoch.deferred = false → s'.Counted u Reg.THM_DEFER_CNT)
        ∧ (s'.restoreDefers = false ∨ s'.epoch.deferred = true → u.regs = s'.regs)
        ∧ s'.RegsBut u [Reg.THM_DEFER_CNT])

/-! ### Transitions -/

/-- At the end of its kick a SW or TR element is handed over to its loop: it enters SETTLE at its target code on both planes
(R94, R91); a circuit that has waited the settle timeout is counted, reported and waits on as UNSETTLED (R103); an arrival
injection that is due is requested with 100 ns acquisition (R104, R147); its gain 0 and its plane, the lead plane, are the
model's choice (assumption log 180). -/
def Obligations.TransitionsMoveOn : Prop :=
  ∀ (dt : Nat) (s s' : State), s' = s.advance dt → s'.InService →
    (∀ e : Fin 9728, e.val < 8704 → (s'.elem e).st = .kick → (s'.elem e).kickEnd ≤ s'.elapsed →
      (s'.trans.waves = [] ∨ ∃ k ∈ s'.trans.kicking, k ≠ e.val) → s'.trans.comp = [] →
      ∃ u : State, exec (.kickEnd dt e) s = .next (s.seal dt u)
        ∧ (u.elem e).st = .settle ∧ u.loopCode .a e = (s'.elem e).kickTo
        ∧ ((∀ c ∈ s'.epoch.active, c.inp < 512 ∧ c.out < 512) → u.loopCode .b e = (s'.elem e).kickTo)
        ∧ e.val ∉ u.trans.kicking ∧ u.epoch = s'.epoch ∧ u.bell = s'.bell ∧ u.mem = s'.mem)
    ∧ (∀ (q : Fin 512) (l : List Nat), s'.trans.waiting.find? (fun x => x.1 == q.val) = some (q.val, l) →
      s'.trans.start + us s'.trans.to_ ≤ s'.elapsed → (s'.trans.abandon < 2 ∨ s'.trans.recovered = true) →
      ∃ u : State, exec (.settleTimeout dt q) s = .next (s.seal dt u)
        ∧ u.trans.unsettled = s'.trans.unsettled ++ [(q.val, l)]
        ∧ u.trans.waiting = s'.trans.waiting.filter (fun x => x.1 != q.val)
        ∧ s'.Counted u Reg.SHEEP_TIMEOUT_CNT ∧ u.causeSet 0x12 1 = true
        ∧ s'.Reported u 0x12 0x1301 7 0 (tget (fun _ => 0) s'.trans.epochs q) (pay [q.val])
        ∧ u.elems = s'.elems ∧ u.epoch = s'.epoch ∧ u.mem = s'.mem)
    ∧ (∀ q : Fin 512, s'.arrivalIsDue q = true → s'.calibrates s'.lead = false →
      (s'.pair s'.lead (tileOf (ovoaOf q))).queue = [] →
      (∀ i, (s'.pair s'.lead (tileOf (ovoaOf q))).cur = some i → i.who ≠ 1 ∧ i.at_ ≠ s'.elapsed) →
      ∃ u : State, exec (.arrivalInjection dt q) s = .next (s.seal dt u)
        ∧ u = { s' with pairs := u.pairs, trans := { s'.trans with arrivalDue := u.trans.arrivalDue } }
        ∧ u.arrivalIsDue q = false
        ∧ u.pair s'.lead (tileOf (ovoaOf q))
          = (let i : Inj := ⟨1, slotOf (ovoaOf q), 3, 0, q, s'.elapsed⟩
             let p := s'.pair s'.lead (tileOf (ovoaOf q))
             if p.cur = none ∧ s'.acquiring s'.lead (tileOf (ovoaOf q)) = true then { p with cur := some i }
             else { p with queue := [i] }))

/-! ### Element loops and the tables -/

/-- What a loop update does. On the plane that holds the token, an update with an incomplete window keeps the code, sets
DEADLINE and counts the miss (R122); a complete one renews the windows (R115), and in LOCK moves the code by the law of R119
within its clamp (R120) and records it (R125); in RAMP it moves the set-point and the code toward it, and enters LOCK where
the target is reached, a VOA with target TRANSPARENT moving to its minimum-attenuation code, in dark updates too (R123;
assumption log 153), and a TR element at once; in SETTLE it counts the run that ends in LOCK (R98, R124); in KICK, HOLD,
FAULT and PARKED no code moves, HH and a written TARGET take an element out of LOCK, and OFF has no update (R27, R124). That an
old TARGET of 0x7FFF leaves the set-point empty is the model's choice (assumption log 155), and so is the code standing still at
the tick where HH is cleared or TARGET written (assumption log 156), the run of a TR element in SETTLE restarting at a miss
(assumption log 174), and the M and band of the latest commit judging an element left in SETTLE by an earlier one (assumption
log 173). An element that is driven warm while nCLR is low stands in
HOLD (R164). The
standby's update moves its shadow code by its own windows and nothing else (R187). Codes apart for TOKEN.CFG.N updates are a
mismatch, which both planes' health decides (R187, R188). The accumulators are read, never written (R144). -/
def Obligations.LoopUpdatesKeepTheirWindows : Prop :=
  ∀ (dt : Nat) (pl : Plane) (e : Fin 9728) (s s' : State), s' = s.advance dt →
    (s'.InService → s'.token.holder = some pl → s'.token.peerUp = false → s'.drv.relight = [] →
      (s'.elem e).hh = false → (s'.elem e).wrote = false → (s'.elem e).st.regulates = true →
      (s'.win pl e).complete = false → (s'.win pl e).long = false →
      ∃ u : State, exec (.loopUpdate dt pl e) s = .next (s.seal dt u)
        ∧ u.loopCode pl e = s'.loopCode pl e ∧ (u.elem e).deadline = true
        ∧ (u.elem e).dlCnt = bumpWord (s'.elem e).dlCnt ∧ s'.Counted u Reg.LOOP_DEADLINE_CNT
        ∧ (u.lp pl e).sp = (s'.lp pl e).sp ∧ (u.lp pl e).miss = (s'.lp pl e).miss + 1
        ∧ ((s'.elem e).st = .settle → (u.lp pl e).run = 0)
        ∧ u.accs = s'.accs ∧ u.epoch = s'.epoch ∧ u.bell = s'.bell)
    ∧ (s'.Updates pl e → ∃ u : State, exec (.loopUpdate dt pl e) s = .next (s.seal dt u)
      ∧ u.accs = s'.accs ∧ u.epoch = s'.epoch ∧ u.bell = s'.bell
      ∧ ((s'.elem e).st ≠ .off → (s'.elem e).st ≠ .hold 1 → ((s'.elem e).st = .parked → s'.effWarm (e.val / 2) = true) →
        (u.lp pl e).w0 = (s'.accOf pl (tapOf e)).copy ∧ (u.lp pl e).miss = 0
          ∧ (e.val < 8704 → (u.lp pl e).w1 = (s'.accOf pl (tapOf e + 1)).copy))
      ∧ ((s'.elem e).st = .lock → (u.elem e).st = .lock
        ∧ (if e.val < 8704 ∧ s'.liveCell (e.val / 2) = .cross then (u.elem e).lkxV = true ∧ (u.elem e).lockX = u.loopCode pl e
          else (u.elem e).lkbV = true ∧ (u.elem e).lockB = u.loopCode pl e)
        ∧ (¬ s'.transparent e → s'.Regulates u pl e (s'.aim e)) ∧ (s'.transparent e → u.loopCode pl e = s'.minAtt e))
      ∧ ((s'.elem e).st = .ramp → elType e = 1 → (u.elem e).st = .lock ∧ s'.Regulates u pl e 0)
      ∧ ((s'.elem e).st = .ramp → elType e ≠ 1 → ¬ s'.transparent e → s'.trans.needs e = false →
        (∀ m, s'.measured pl e = some m → (u.lp pl e).sp = some (match (s'.lp pl e).sp with
          | none => m
          | some v => toward v (s'.aim e) (s'.rampRate e)))
        ∧ ∀ sp, (u.lp pl e).sp = some sp →
          s'.Regulates u pl e sp ∧ (u.elem e).st = if sp = s'.aim e then .lock else .ramp)
      ∧ ((s'.elem e).st = .ramp → s'.transparent e →
        (u.loopCode pl e : Int) = toward (s'.loopCode pl e) (s'.minAtt e) (s'.elStep e)
          ∧ (u.elem e).st = if u.loopCode pl e = s'.minAtt e then .lock else .ramp)
      ∧ ((s'.elem e).st = .settle → elType e = 0 → s'.trans.needs e = false → ∀ m, s'.swMeas pl e = .val m →
        let n := if |m - s'.aim e| ≤ (s'.trans.band * 256 : Nat) then (s'.lp pl e).run + 1 else 0
        s'.Regulates u pl e (s'.aim e) ∧ (u.lp pl e).run = n ∧ (u.elem e).st = if s'.trans.m ≤ n then .lock else .settle)
      ∧ ((s'.elem e).st = .settle → elType e = 1 → ∀ g mid, s'.trMeas pl e = .val g mid →
        let n := if |g| ≤ s'.elBand e ∨ s'.elStep e = 0 then (s'.lp pl e).run + 1 else 0
        s'.Regulates u pl e 0 ∧ (u.lp pl e).run = n ∧ (u.elem e).st = if s'.trans.m ≤ n then .lock else .settle)
      ∧ ((∃ c, (s'.elem e).st = .fault c ∨ (s'.elem e).st = .hold c ∧ c ≠ 1)
          ∨ (s'.elem e).st = .kick ∨ (s'.elem e).st = .parked ∧ s'.effWarm (e.val / 2) = true →
        u.loopCode pl e = s'.loopCode pl e ∧ (u.elem e).st = (s'.elem e).st)
      ∧ ((s'.elem e).st = .parked → s'.effWarm (e.val / 2) = false → (u.elem e).st = .off)
      ∧ ((s'.elem e).st = .hold 1 → (u.elem e).st = .ramp ∧ u.loopCode pl e = s'.loopCode pl e ∧ (u.lp pl e).sp = none)
      ∧ ((s'.elem e).st = .off → (u.elem e).st
          = if e.val < 8704 ∧ s'.liveCell (e.val / 2) = .park ∧ s'.effWarm (e.val / 2) = true then
              (if s'.drv.clearing then .hold 2 else .parked) else .off))
    ∧ (s'.InService → s'.token.holder = some pl →
      ∃ u : State, exec (.loopUpdate dt pl e) s = .next (s.seal dt u)
        ∧ ((s'.elem e).hh = true → (s'.elem e).st = .lock ∨ (s'.elem e).st = .ramp → (s'.win pl e).complete = true →
          (s'.win pl e).long = false → s'.token.peerUp = false → s'.drv.relight = [] →
          (u.elem e).st = .hold 1 ∧ u.loopCode pl e = s'.loopCode pl e)
        ∧ ((s'.elem e).hh = false → (s'.elem e).wrote = true → (s'.elem e).st = .lock →
          (u.elem e).st = .ramp ∧ (u.lp pl e).tgt = (s'.elem e).target ∧ u.loopCode pl e = s'.loopCode pl e
            ∧ (u.lp pl e).sp = if (s'.lp pl e).tgt = 0x7FFF then none else some (sx 16 (s'.lp pl e).tgt)))
    ∧ (s'.InService → s'.token.holder ≠ some pl → (s'.plane pl).st = .standby → s'.token.free = false →
      ∃ u : State, exec (.loopUpdate dt pl e) s = .next (s.seal dt u) ∧ u = { s' with lps := u.lps }
        ∧ (∀ p x, x < 9728 → p ≠ pl ∨ x ≠ e.val → u.lp p x = s'.lp p x)
        ∧ ((s'.win pl e).complete = false → u.loopCode pl e = s'.loopCode pl e)
        ∧ ((s'.elem e).st = .lock → ¬ s'.transparent e → (s'.elem e).target = (s'.lp pl e).tgt →
          (s'.win pl e).complete = true → (s'.win pl e).long = false →
          (if e.val < 8704 then 0 else s'.minAtt e) ≤ s'.loopCode pl e → s'.loopCode pl e ≤ 65535 →
          ∃ step, s'.LawStep pl e (s'.aim e) step ∧ (u.loopCode pl e : Int)
            = clampI (if e.val < 8704 then 0 else s'.minAtt e : Nat) 65535 ((s'.loopCode pl e : Int) + step)))
    ∧ (s'.InService → s'.token.holder = some pl → s'.token.peerUp = true → (s'.plane (otherPlane pl)).st = .standby →
      s'.drv.relight = [] → (s'.elem e).st = .lock → (s'.elem e).hh = false → (s'.elem e).wrote = false →
      s'.scFlag pl e = false → (s'.lp pl e).rail < 64 → (s'.lp pl e).miss < 63 →
      (s'.win pl e).complete = false → (s'.win pl e).long = false →
      ∃ u : State, exec (.loopUpdate dt pl e) s = .next (s.seal dt u)
        ∧ (let x := s'.loopCode pl e
           let y := s'.loopCode (otherPlane pl) e
           let far := s'.rf Reg.TOKEN_CFG 31 16 < (x - y) + (y - x)
           let n := (s'.lp .a e).div + 1
           let healthy := s'.rf Reg.TOKEN_CFG 7 0
           (¬ far → (u.lp .a e).div = 0 ∧ u.loopCode (otherPlane pl) e = y)
           ∧ (far → n < s'.rf Reg.TOKEN_CFG 15 12 → (u.lp .a e).div = n ∧ u.loopCode (otherPlane pl) e = y)
           ∧ (far → s'.rf Reg.TOKEN_CFG 15 12 ≤ n →
             ((s'.plane pl).score < healthy ∨ (s'.plane (otherPlane pl)).score < healthy →
               u.causeSet 0x04 2 = true
                 ∧ (s'.chain.queue.length < 1000 → s'.Reported u 0x04 0x3002 7 0 s'.epoch.act (pay [e]))
                 ∧ ((s'.plane pl).score < (s'.plane (otherPlane pl)).score → s'.Counted u (Reg.PL_MISMATCH_CNT pl)))
             ∧ ((healthy ≤ (s'.plane pl).score ∧ healthy ≤ (s'.plane (otherPlane pl)).score) →
               u.causeSet 0x04 3 = true
                 ∧ (s'.chain.queue.length < 1000 → s'.Reported u 0x04 0x3003 7 0 s'.epoch.act (pay [e]))
                 ∧ s'.Counted u (Reg.PL_DISAGREE_CNT pl) ∧ s'.Counted u (Reg.PL_DISAGREE_CNT (otherPlane pl)))
             ∧ ((s'.plane (otherPlane pl)).score ≤ (s'.plane pl).score ∨ healthy ≤ (s'.plane pl).score
                 ∧ healthy ≤ (s'.plane (otherPlane pl)).score →
               u.token.holder = some pl ∧ u.loopCode (otherPlane pl) e = x ∧ (u.lp .a e).div = 0)
             ∧ ((s'.plane (otherPlane pl)).score < (s'.plane pl).score → (s'.plane (otherPlane pl)).score < healthy →
               s'.Counted u (Reg.PL_MISMATCH_CNT (otherPlane pl))
                 ∧ (u.plane (otherPlane pl)).mismatchLost = true))))

/-- Writes of a word of the Element Table, of the Cell Table and of the Tile Table, and WARM_ALL: the RW and WC fields of that
word take what is written, as their tables say, and nothing else changes (R127, R35, R27, R153). A counter that is cleared
counts what happens at the instant of the clear (R314). The value of WARM latched for a PARK cell that does not move is
renewed at once, and in any other cell waits; what its elements do at their next loop update is not said here
(R27, assumption log 150). A Tile Table word 0 whose LEN exceeds 16, a sequence entry whose CHAN exceeds 19, and a word with
no RW or WC field store nothing. -/
def Obligations.TableWritesStoreTheirFields : Prop :=
  ∀ (dt : Nat) (v : Word) (s s' : State), s' = s.advance dt → s'.Ready →
    (∀ (e : Fin 9728) (w : Fin 8), ∃ u : State, exec (.elementTableWrite dt e w v) s = .next (s.seal dt u)
      ∧ u = { s' with elems := u.elems } ∧ (∀ e', e' ≠ e.val → u.elem e' = s'.elem e')
      ∧ (w = 0 → u.elem e = { s'.elem e with
        hh := bit v 26, deadline := (s'.elem e).deadline && !(bit v 20), limit := (s'.elem e).limit && !(bit v 19) })
      ∧ (w = 1 → u.elem e = { s'.elem e with
        step := if fld v 31 16 = 0 then (s'.elem e).step else some (fld v 31 16)
        width := if fld v 15 0 = 0 then (s'.elem e).width else some (fld v 15 0) })
      ∧ (w = 2 → u.elem e = { s'.elem e with
        per := if fld v 26 16 = 0 then (s'.elem e).per else some (max 2 (min 1024 (fld v 26 16)))
        amp := some (fld v 15 8)
        judge := if fld v 3 0 = 0 then (s'.elem e).judge else some (fld v 3 0) })
      ∧ (w = 7 → u.elem e = { s'.elem e with dlCnt := if bit v 31 then s'.cleared (elAddr e 7) else (s'.elem e).dlCnt })
      ∧ (w = 3 → u.elem e = if 8704 ≤ e.val
        then { s'.elem e with target := fld v 15 0, wrote := (s'.elem e).wrote || (s'.elem e).st == .lock }
        else s'.elem e)
      ∧ (w = 4 → u.elem e = { s'.elem e with clear := some (fld v 15 0) })
      ∧ (w = 5 ∨ w = 6 → u.elem e = s'.elem e))
    ∧ (∀ (c : Fin 4352) (w : Fin 8), ∃ u : State, exec (.cellTableWrite dt c w v) s = .next (s.seal dt u)
      ∧ u = { s' with cells := u.cells } ∧ (∀ c', c' ≠ c.val → u.cell c' = s'.cell c')
      ∧ (w = 0 → u.cell c = { s'.cell c with
        warm := bit v 24
        inForce := if s'.actCell c = .park ∧ s'.moves c = false then bit v 24 else (s'.cell c).inForce })
      ∧ (w = 4 → u.cell c = { s'.cell c with parkLit := (s'.cell c).parkLit && !(bit v 1) })
      ∧ (w ≠ 0 → w ≠ 4 → u.cell c = s'.cell c))
    ∧ (∃ u : State, exec (.warmAll dt) s = .next (s.seal dt u) ∧ u = { s' with cells := u.cells }
      ∧ ∀ c, c < 4352 → u.cell c = { s'.cell c with
        warm := true, inForce := if s'.actCell c = .park ∧ s'.moves c = false then true else (s'.cell c).inForce })
    ∧ (∀ t : Fin 608,
      (16 < fld v 20 16 → exec (.tileTableWrite dt t 0 v) s = .next (s.seal dt s'))
      ∧ (fld v 20 16 ≤ 16 → ∃ u : State, exec (.tileTableWrite dt t 0 v) s = .next (s.seal dt u)
        ∧ u = { s' with tiles := u.tiles, pairs := u.pairs }
        ∧ u.tile t = { s'.tile t with mode := bit v 31, len := fld v 20 16 } ∧ (∀ t', t' ≠ t.val → u.tile t' = s'.tile t'))
      ∧ (∀ i : Fin 16, fld v 20 16 ≤ 19 → ∃ u : State,
        exec (.tileTableWrite dt t ⟨16 + i.val, by omega⟩ v) s = .next (s.seal dt u)
          ∧ u = { s' with tiles := u.tiles } ∧ u.seqWord t i = v &&& 0x001F3307#32
          ∧ (∀ j, j ≠ i.val → u.seqWord t j = s'.seqWord t j) ∧ (∀ t', t' ≠ t.val → u.tile t' = s'.tile t'))
      ∧ (∀ i : Fin 16, 19 < fld v 20 16 →
        exec (.tileTableWrite dt t ⟨16 + i.val, by omega⟩ v) s = .next (s.seal dt s'))
      ∧ (∀ w : Fin 64, w = 1 ∨ w = 2 ∨ w = 3 → ∃ u : State, exec (.tileTableWrite dt t w v) s = .next (s.seal dt u)
        ∧ u = { s' with tiles := u.tiles } ∧ (∀ t', t' ≠ t.val → u.tile t' = s'.tile t')
        ∧ u.tile t = (if w = 1 then { s'.tile t with ovl := (s'.tile t).ovl && !(bit v 19) }
          else if w = 2 then { s'.tile t with dropA := if bit v 31 then s'.cleared (tileAddr t 2) else (s'.tile t).dropA }
          else { s'.tile t with dropB := if bit v 31 then s'.cleared (tileAddr t 3) else (s'.tile t).dropB }))
      ∧ ∀ w : Fin 64, 4 ≤ w.val → w.val < 16 ∨ 32 ≤ w.val → exec (.tileTableWrite dt t w v) s = .next (s.seal dt s'))

/-- HOLD and RESUME set and clear HH of a range, CLEAR_FAULT brings the elements of a range that are in FAULT to RAMP, to be
judged for a short at their next update, and SET_PER sets PER of every element of a type, each with DONE (R131, R126). That
CLEAR_FAULT does so also where the cell or port carries no circuit, and where the DAC still reports a short, is the model's
choice (assumption logs 105 and 178). -/
def Obligations.LoopCommandsActOnTheirRange : Prop :=
  ∀ (dt : Nat) (o : Order) (a0 a1 : Word) (s s' : State), s' = s.advance dt → s'.Ready →
    (fld a1 13 0 ≠ 0 → fld a0 13 0 + fld a1 13 0 ≤ 9728 →
      (∃ u : State, exec (.hold dt o a0 a1) s = .next (s.seal dt (u.complete 0x14 1 cDONE o))
        ∧ u = { s' with elems := u.elems }
        ∧ ∀ e, u.elem e = if fld a0 13 0 ≤ e ∧ e < fld a0 13 0 + fld a1 13 0 then { s'.elem e with hh := true } else s'.elem e)
      ∧ (∃ u : State, exec (.resume dt o a0 a1) s = .next (s.seal dt (u.complete 0x14 2 cDONE o))
        ∧ u = { s' with elems := u.elems }
        ∧ ∀ e, u.elem e = if fld a0 13 0 ≤ e ∧ e < fld a0 13 0 + fld a1 13 0 then { s'.elem e with hh := false } else s'.elem e)
      ∧ ∃ u : State, exec (.clearFault dt o a0 a1) s = .next (s.seal dt (u.complete 0x14 3 cDONE o))
        ∧ u.bare s' = { s' with elems := u.elems, lps := u.lps } ∧ s'.RegsBut u (reportRegs 0x14)
        ∧ ∀ e, u.elem e = if fld a0 13 0 ≤ e ∧ e < fld a0 13 0 + fld a1 13 0 ∧ (s'.elem e).st.code = 7
          then { s'.elem e with st := .ramp, wrote := false, recheck := true } else s'.elem e)
    ∧ (fld a0 1 0 ≠ 3 → fld a1 10 0 ≠ 0 →
      ∃ u : State, exec (.setPer dt o a0 a1) s = .next (s.seal dt (u.complete 0x14 4 cDONE o))
        ∧ u = { s' with elems := u.elems }
        ∧ ∀ e, u.elem e = if e < 9728 ∧ min (elType e) 2 = fld a0 1 0
          then { s'.elem e with per := some (max 2 (min 1024 (fld a1 10 0))) } else s'.elem e)

/-- The commands of page TRACE on the channels they name (R129, R130, R132): ARM arms the idle and finished ones from the
start of their buffers, STOP returns them to IDLE, TRIGGER fires those that are armed for HOST, CLEAR returns them to IDLE
and zeroes their trace memory, and no byte outside it; all complete with DONE. STOP and CLEAR reset master M8, which may
count a burst (R302). -/
def Obligations.TraceCommandsActOnTheirChannels : Prop :=
  ∀ (dt : Nat) (o : Order) (a0 : Word) (s s' : State), s' = s.advance dt → s'.Ready → (∃ k, k < 16 ∧ bit a0 k = true) →
    ((∀ k, k < 16 → bit a0 k = true → s'.rf (chCfg k) 18 16 ≤ 5 ∧ s'.rf (chCfg k) 15 13 ≤ 4 ∧ s'.rf (chElem k) 13 0 ≤ 9727
        ∧ s'.rf (chCfg k) 11 0 ≠ 0 ∧ (s'.traceCh k).st ≠ 1 ∧ (s'.traceCh k).st ≠ 2) →
      ∃ u : State, exec (.arm dt o a0) s = .next (s.seal dt (u.complete 0x17 1 cDONE o))
        ∧ u = { s' with traces := u.traces }
        ∧ ∀ k, u.traceCh k = if k < 16 ∧ bit a0 k = true then ⟨1, false, 0, 0, 0, 0, 0, false⟩ else s'.traceCh k)
    ∧ (∃ u : State, exec (.stop dt o a0) s = .next (s.seal dt (u.complete 0x17 2 cDONE o))
      ∧ u.bare s' = { s' with traces := u.traces }
      ∧ s'.RegsBut u (Reg.MTX_RST_CNT_M8 :: Reg.MTX_LAST_RESET :: reportRegs 0x0A)
      ∧ ∀ k, u.traceCh k = if k < 16 ∧ bit a0 k = true then { s'.traceCh k with st := 0, fire := false } else s'.traceCh k)
    ∧ (∃ u : State, exec (.trigger dt o a0) s = .next (s.seal dt (u.complete 0x17 3 cDONE o))
      ∧ u = { s' with traces := u.traces }
      ∧ ∀ k, u.traceCh k = if k < 16 ∧ bit a0 k = true ∧ (s'.traceCh k).st = 1 ∧ s'.rf (chCfg k) 15 13 = 0
        then { s'.traceCh k with fire := true } else s'.traceCh k)
    ∧ ∃ u : State, exec (.clear dt o a0) s = .next (s.seal dt (u.complete 0x17 4 cDONE o))
      ∧ u.bare s' = { s' with traces := u.traces, mem := u.mem }
      ∧ s'.RegsBut u (Reg.MTX_RST_CNT_M8 :: Reg.MTX_LAST_RESET :: reportRegs 0x0A)
      ∧ (∀ k, u.traceCh k = if k < 16 ∧ bit a0 k = true then ⟨0, false, 0, 0, 0, 0, 0, false⟩ else s'.traceCh k)
      ∧ ∀ a, ((∃ k, k < 16 ∧ bit a0 k = true ∧ traceBase k ≤ a ∧ a < traceBase (k + 1)) → Memory.readByte u.mem a = 0)
        ∧ ((∀ k, k < 16 → bit a0 k = true → ¬ (traceBase k ≤ a ∧ a < traceBase (k + 1))) →
          Memory.readByte u.mem a = Memory.readByte s'.mem a)

/-! ### Conversion -/

/-- A slot of a pair with no injection. A sequence slot adds its samples to the loop accumulators of its channels, in NORMAL
mode and in INTERLEAVE, with SPLIT by the half of the sine cycle, and to the host's where the entry feeds them, an entry for
the host alone to no loop (R137, R144, R146); the next entry, or the next pass, is in turn, a pass that begins in a tile that
the sequencer holds in INTERLEAVE (R99, R138). In such a tile, where a cell settles, settle rounds follow the slot, serving up
to four cells that settle; a round converts each served cell's two taps with both
converters and no host accumulator, then one sequence entry in the record's mode; once nothing settles there or the hold has
ended a pass from entry 0 follows (R140). That rounds begin at the slot boundary after a sequence slot is the model's reading
(assumption log 113), and the instants of the samples are its choice (assumption log 27). -/
def Obligations.SlotsFeedTheAccumulators : Prop :=
  ∀ (dt : Nat) (pl : Plane) (t : Fin 608) (raw0 raw1 : BitVec 12) (s s' : State) (p : Pair), s' = s.advance dt →
    s'.InService → s'.pair pl t = p → s'.converts pl t = true → p.cur = none → p.queue = [] →
    (∀ w, p.rounds = false → (p.inForce t).2[p.ptr]? = some w →
      ∃ u : State, exec (.conversionSlot dt pl t raw0 raw1) s = .next (s.seal dt u)
        ∧ s'.FedLoops u pl t (p.inForce t).1 w raw0 raw1
        ∧ (bit w 1 = false → u.haccs = s'.haccs)
        ∧ (bit w 1 = true → (p.inForce t).1 = false → s'.winOpen t s'.sampledAt = true →
          s'.HostTook u pl t (fld w 20 16) (s'.correct pl t 0 (fld w 9 8) (fld w 20 16) raw0)
            ∧ s'.HostTook u pl t (partner (fld w 20 16)) (s'.correct pl t 1 (fld w 9 8) (partner (fld w 20 16)) raw1))
        ∧ (let q : Pair := if p.ptr + 1 < (p.inForce t).2.length
             then { p with ptr := p.ptr + 1, slotAt := s'.elapsed }
             else { p with
               pass := some (s'.tileHeld t || (s'.tile t).mode, (s'.sequence t).2), ptr := 0, bistPass := false
               heldMode := if s'.tileHeld t then p.heldMode else none, slotAt := s'.elapsed }
           (s'.tileHeld t = false ∨ s'.settling t = [] → u.pair pl t = q)
           ∧ (s'.tileHeld t = true → s'.settling t ≠ [] →
             u.pair pl t = { q with rounds := true, pos := 0, served := (u.pair pl t).served }
               ∧ ∀ c, c ∈ (u.pair pl t).served ↔ c ∈ (s'.settling t).take 4))
        ∧ u.elems = s'.elems ∧ u.epoch = s'.epoch ∧ u.mem = s'.mem)
    ∧ (∀ g, p.rounds = true → p.pos < 2 * p.served.length →
      g = (match (p.inForce t).2.find? fun w => fld w 20 16 == slotOf (servedTap p.served p.pos) with
        | some w => fld w 9 8
        | none => 0) →
      ∃ u : State, exec (.conversionSlot dt pl t raw0 raw1) s = .next (s.seal dt u)
        ∧ (let ch := slotOf (servedTap p.served p.pos)
           ∀ k, tget accDefault u.accs k = if k = accKey pl t ch then
              ((tget accDefault s'.accs k).plus (s'.correct pl t 0 g ch raw0)
                (!(s'.firstHalf t (s'.sampledAt - 25 * nsUnit / 2)))).plus
                (s'.correct pl t 1 g ch raw1) (!(s'.firstHalf t s'.sampledAt))
            else tget accDefault s'.accs k)
        ∧ u.haccs = s'.haccs
        ∧ (p.pos + 1 < 2 * p.served.length ∨ (p.inForce t).2 ≠ [] →
          u.pair pl t = { p with pos := p.pos + 1, slotAt := s'.elapsed })
        ∧ u.elems = s'.elems ∧ u.epoch = s'.epoch ∧ u.mem = s'.mem)
    ∧ (∀ w, p.rounds = true → 2 * p.served.length ≤ p.pos → (p.inForce t).2[p.ptr]? = some w →
      ∃ u : State, exec (.conversionSlot dt pl t raw0 raw1) s = .next (s.seal dt u)
        ∧ s'.FedLoops u pl t (p.heldMode.getD (s'.tile t).mode) w raw0 raw1
        ∧ (s'.settling t = [] ∨ s'.tileHeld t = false →
          (u.pair pl t).rounds = false ∧ (u.pair pl t).ptr = 0
            ∧ (u.pair pl t).pass = some (s'.tileHeld t || (s'.tile t).mode, (s'.sequence t).2))
        ∧ (s'.settling t ≠ [] → s'.tileHeld t = true → (u.pair pl t).rounds = true ∧ (u.pair pl t).pos = 0
          ∧ (u.pair pl t).ptr = (if p.ptr + 1 < (p.inForce t).2.length then p.ptr + 1 else 0)
          ∧ ∀ c ∈ (u.pair pl t).served, c ∈ s'.settling t)
        ∧ u.elems = s'.elems ∧ u.epoch = s'.epoch ∧ u.mem = s'.mem)

/-- Injected conversions (R104, R147, R148, R150, R345), of requests that stand alone at their instant: one to a free pair
that acquires starts at once, one to a busy pair waits in its queue of two, and one that finds the queue full is dropped and
counted; the sequencer asks for what is due, a slice for one at a time on its tile. A completed one delivers its corrected
value to its requester only, a slice's LOOPBACK value to the check in turn with what limited its DAC (R344, R347; how a limit
too short to be reported shows is left open, assumption log 165), and the pair converts on, with settle rounds where it had
nothing else to convert (assumption log 113); INJECT with an open window on its tile issues its first request. -/
def Obligations.InjectionsQueueAndComplete : Prop :=
  ∀ (dt : Nat) (pl : Plane) (t : Fin 608) (s s' : State), s' = s.advance dt → s'.InService → s'.calibrates pl = false →
    (∀ (chan : Fin 20) (acq gain : Fin 4),
      ((s'.pair pl t).cur = none → (s'.pair pl t).queue = [] →
        (∃ u : State, exec (.injectionRequest dt pl t .host chan acq gain true) s = .next (s.seal dt u)
          ∧ u = { s' with pairs := u.pairs }
          ∧ u.pair pl t = { s'.pair pl t with cur := some ⟨3, chan, acq, gain, 0, s'.elapsed⟩ })
        ∧ (s'.sliceMayInject pl t = true →
          ∃ u : State, exec (.injectionRequest dt pl t .bist chan acq gain true) s = .next (s.seal dt u)
            ∧ u = { s' with pairs := u.pairs, bist := u.bist } ∧ s'.TakesTurn u pl t chan
            ∧ u.pair pl t = { s'.pair pl t with cur := some ⟨2, chan, acq, gain, 0, s'.elapsed⟩, bistPass := true })
        ∧ (chan.val < 16 → 9216 ≤ elemAt t chan → pl = s'.lead → s'.arrivalIsDue (elemAt t chan - 9216) = true →
          ∃ u : State, exec (.injectionRequest dt pl t .sheep chan 3 gain true) s = .next (s.seal dt u)
            ∧ u = { s' with pairs := u.pairs, trans := { s'.trans with arrivalDue := u.trans.arrivalDue } }
            ∧ u.arrivalIsDue (elemAt t chan - 9216) = false
            ∧ u.pair pl t = { s'.pair pl t with cur := some ⟨1, chan, 3, gain, elemAt t chan - 9216, s'.elapsed⟩ }))
      ∧ (∀ acquiring, (s'.pair pl t).queue.length < 2 →
        (∀ x ∈ (s'.pair pl t).cur.toList ++ (s'.pair pl t).queue, x.at_ ≠ s'.elapsed) →
        (acquiring = false ∨ (s'.pair pl t).cur ≠ none ∨ (s'.pair pl t).queue ≠ []) →
        (∃ u : State, exec (.injectionRequest dt pl t .host chan acq gain acquiring) s = .next (s.seal dt u)
          ∧ u = { s' with pairs := u.pairs }
          ∧ u.pair pl t
            = { s'.pair pl t with queue := (s'.pair pl t).queue ++ [⟨3, chan, acq, gain, 0, s'.elapsed⟩] })
        ∧ (s'.sliceMayInject pl t = true →
          ∃ u : State, exec (.injectionRequest dt pl t .bist chan acq gain acquiring) s = .next (s.seal dt u)
            ∧ u = { s' with pairs := u.pairs, bist := u.bist } ∧ s'.TakesTurn u pl t chan
            ∧ u.pair pl t = { s'.pair pl t with
              queue := (s'.pair pl t).queue ++ [⟨2, chan, acq, gain, 0, s'.elapsed⟩], bistPass := true }))
      ∧ ∀ acquiring, s'.conv.inject = none → (s'.pair pl t).queue.length = 2 →
        (∀ x ∈ (s'.pair pl t).cur.toList ++ (s'.pair pl t).queue, x.at_ ≠ s'.elapsed) →
        ∃ u : State, exec (.injectionRequest dt pl t .host chan acq gain acquiring) s = .next (s.seal dt u)
          ∧ u.bare s' = { s' with tiles := u.tiles, pairs := u.pairs } ∧ (∀ p' t', u.pair p' t' = s'.pair p' t')
          ∧ s'.Counted u Reg.CONV_INJ_DROP_CNT
          ∧ s'.RegsBut u (Reg.CONV_INJ_DROP_CNT :: Reg.CONV_LAST_DROP :: reportRegs 0x15))
    ∧ (∀ raw i, (s'.pair pl t).cur = some i → (s'.pair pl t).queue = [] →
      ∃ u : State, exec (.injectionComplete dt pl t raw) s = .next (s.seal dt u)
        ∧ (let p := s'.pair pl t
           let idle := p.rounds = false ∧ (p.inForce t).2[p.ptr]? = none ∧ s'.tileHeld t = true ∧ s'.settling t ≠ []
           (¬ idle → u.pair pl t = { p with cur := none, slotAt := s'.elapsed })
           ∧ (idle → u.pair pl t
             = { p with cur := none, slotAt := s'.elapsed, rounds := true, pos := 0, served := s'.serve t [] }))
        ∧ (i.who = 1 → u = { s' with pairs := u.pairs, trans := { s'.trans with arrival := u.trans.arrival } }
          ∧ ∀ q, tget (fun _ => 0x8000) u.trans.arrival q
            = if q = i.out then enc 16 (dBm16 (s'.correct pl t 0 i.gain i.chan raw))
              else tget (fun _ => 0x8000) s'.trans.arrival q)
        ∧ (i.who = 2 → ∀ a b c, (s'.bistOf pl).slice = some (a, t.val, b, c) →
          u = { s' with pairs := u.pairs, bist := u.bist }
            ∧ (i.chan ≠ 18 → u.bistOf pl = { s'.bistOf pl with
              got := (s'.bistOf pl).got ++ [(i.chan, i.gain, s'.convValue pl t 0 i.gain raw)] })
            ∧ (i.chan = 18 → ∀ k, (s'.bistOf pl).turn = some k → ∃ lim, ((s'.bistOf pl).lim = true → lim = true)
              ∧ u.bistOf pl = { s'.bistOf pl with
                loops := (s'.bistOf pl).loops ++ [⟨k, i.gain, s'.convValue pl t 0 i.gain raw, lim⟩] })
            ∧ u.bistOf (otherPlane pl) = s'.bistOf (otherPlane pl))
        ∧ (i.who = 3 → s'.conv.inject = none →
          u = ({ s' with pairs := u.pairs }).addHost pl t i.chan (s'.correct pl t 0 i.gain i.chan raw)
            (s'.elapsed - ns 13)))
    ∧ (∀ o a0 a1, s'.Ready → fld a1 7 0 ≠ 0 → fld a0 9 0 = t.val → fld a0 20 16 ≤ 19 → bit a0 12 = (pl == .b) →
      s'.winOpen t s'.elapsed = true → s'.conv.inject = none → (s'.pair pl t).cur = none →
      (s'.pair pl t).queue = [] →
      ∃ u : State, exec (.inject dt o a0 a1) s = .next (s.seal dt u)
        ∧ u = { s' with pairs := u.pairs, conv := u.conv }
        ∧ (let i : Inj := ⟨3, fld a0 20 16, fld a0 25 24, fld a0 29 28, 0, s'.elapsed⟩
           u.pair pl t = (if s'.acquiring pl t = true then { s'.pair pl t with cur := some i }
               else { s'.pair pl t with queue := [i] })
             ∧ u.conv = { s'.conv with inject := some ⟨o, t, pl, i, fld a1 7 0 - 1, 0, false⟩ }))

/-- SELF_CAL of a plane that does not hold the token begins a calibration (R151); CAL_DONE without a reading out of range
ends it with DONE for the host that asked, stores the factors of R151, and every pair of the plane restarts at entry 0
(R152); RING_CALIBRATION stores each tile's residual on its plane, marks the plane where one is beyond ±1 %, and starts
conversion (R136, R154, R189). -/
def Obligations.CalibrationsStoreTheirResults : Prop :=
  ∀ (dt : Nat) (pl : Plane) (s s' : State), s' = s.advance dt → s'.InService →
    (∀ o a0, s'.Ready → bit a0 0 = (pl == .b) → s'.token.holder ≠ some pl → (∀ p, s'.calibrates p = false) →
      ∃ u : State, exec (.selfCal dt o a0) s = .next (s.seal dt u)
        ∧ u = { s' with conv := { s'.conv with
          cal := some (pl, o)
          calA := (if pl = .a then 1 else s'.conv.calA), atA := (if pl = .a then s'.elapsed else s'.conv.atA)
          calB := (if pl = .b then 1 else s'.conv.calB), atB := (if pl = .b then s'.elapsed else s'.conv.atB) } })
    ∧ (∀ o l, s'.conv.cal = some (pl, o) → (∀ r ∈ l, (factors r.high r.low).isSome = true) →
      ∃ u : State, exec (.calDone dt pl l) s = .next (s.seal dt (u.complete 0x15 1 cDONE o))
        ∧ u.conv = { s'.conv with
          cal := none, calA := (if pl = .a then 2 else s'.conv.calA), calB := (if pl = .b then 2 else s'.conv.calB)
          failTile := none }
        ∧ (u.plane pl).calFail = false
        ∧ ((l.map fun r => (r.tile, r.conv, r.gain)).Nodup →
          ∀ r ∈ l, some (u.corrWord pl r.tile r.conv r.gain) = factors r.high r.low)
        ∧ (∀ t, t < 608 → (u.pair pl t).ptr = 0
          ∧ (u.pair pl t).pass = some (s'.tileHeld t || (s'.tile t).mode, (s'.sequence t).2))
        ∧ u.causeSet 0x15 0 = true ∧ u.accs = s'.accs ∧ u.epoch = s'.epoch ∧ u.mem = s'.mem)
    ∧ (∀ l : List RingResidual, (l.map (·.tile)).Nodup →
      ∃ u : State, exec (.ringCalibration dt pl l) s = .next (s.seal dt u)
        ∧ (∀ r ∈ l, (match pl with | .a => (u.tile r.tile).ringA | .b => (u.tile r.tile).ringB) = r.residual)
        ∧ (match pl with | .a => u.conv.runA | .b => u.conv.runB) = true ∧ (u.plane pl).rung = true
        ∧ (s'.conv.runs pl = true → u.pairs = s'.pairs ∧ u.conv = s'.conv)
        ∧ (s'.conv.runs pl = false → (match pl with | .a => u.conv.beganA | .b => u.conv.beganB) = s'.elapsed)
        ∧ ((∃ r ∈ l, 1000 < r.residual.natAbs) → (u.plane pl).ring = true)
        ∧ u.regs = s'.regs ∧ u.epoch = s'.epoch ∧ u.mem = s'.mem)

/-- Host windows (R146): HACC_START zeroes the accumulators of its tiles and opens a window of HWIN on them; HACC_STOP of its
tiles closes it and reports; HACC_DONE at its end closes it and reports INT_CAUSE bit 1 and event 0x2201. That HACC_START
replaces a window still open is the model's choice (assumption log 109). -/
def Obligations.HostWindowsOpenAndClose : Prop :=
  ∀ (dt : Nat) (o : Order) (a0 a1 : Word) (s s' : State), s' = s.advance dt →
    (s'.Ready → s'.rf Reg.CONV_HWIN 19 0 ≠ 0 → fld a1 9 0 ≠ 0 → fld a0 9 0 + fld a1 9 0 ≤ 608 →
      ∃ u : State, exec (.haccStart dt o a0 a1) s = .next (s.seal dt (u.complete 0x15 2 cDONE o))
        ∧ u = { s' with haccs := u.haccs, conv := { s'.conv with
          win := some ⟨fld a0 9 0, (List.range (fld a1 9 0)).map (fld a0 9 0 + ·), s'.elapsed,
            s'.elapsed + us (s'.rf Reg.CONV_HWIN 19 0)⟩, winDone := false, winSat := false } }
        ∧ ∀ pl t ch, fld a0 9 0 ≤ t → t < fld a0 9 0 + fld a1 9 0 → ch < 20 →
          tget haccDefault u.haccs (accKey pl t ch) = ⟨0, 0, false, none, none⟩)
    ∧ (∀ w, s'.conv.win = some w →
      (s'.Ready → fld a1 9 0 ≠ 0 → fld a0 9 0 + fld a1 9 0 ≤ 608 → w.tiles ≠ [] →
        (∀ t ∈ w.tiles, fld a0 9 0 ≤ t ∧ t < fld a0 9 0 + fld a1 9 0) →
        ∃ u : State, exec (.haccStop dt o a0 a1) s = .next (s.seal dt (u.complete 0x15 3 cDONE o))
          ∧ u.bare s' = { s' with conv := { s'.conv with win := none, winDone := true } }
          ∧ s'.Causes u 0x15 1 ∧ s'.RegsBut u (reportRegs 0x15)
          ∧ s'.Reported u 0x15 0x2201 7 0 s'.epoch.act (pay [fld a0 9 0]))
      ∧ (s'.InService → w.endAt ≤ s'.elapsed →
        ∃ u : State, exec (.haccDone dt) s = .next (s.seal dt u)
          ∧ u.bare s' = { s' with conv := { s'.conv with win := none, winDone := true } }
          ∧ s'.Causes u 0x15 1 ∧ s'.RegsBut u (reportRegs 0x15)
          ∧ s'.Reported u 0x15 0x2201 7 0 s'.epoch.act (pay [w.first])))

/-! ### Drive -/

/-- SET_RANGE of a tile whose elements are all OFF sets its range and forgets their lock and clear codes, the hold cells
keeping their current (R160, R181; that what they recorded is re-ranged with it is the model's reading, assumption log 164);
SYNC sets the phase of a range of tiles to 0 and FW_WRITE a tile's frequency word with continuous phase, both from the next tick, at
which fresh windows of its TR elements are due (R170); at every tick each generator's phase gains its word, or stands at 0
with FW = 0, and the fresh windows due have begun (R168, R170); DEGLITCH_HOLD_END ends the hold of 20 ns, and the output
tracks its code (R161). -/
def Obligations.DriveFollowsItsSettings : Prop :=
  ∀ (dt : Nat) (s s' : State), s' = s.advance dt →
    (∀ o a0 a1, s'.Ready → fld a0 9 0 ≤ 607 → s'.range2 (fld a0 9 0) ≠ bit a1 0 →
      (∀ e ∈ tileElems (fld a0 9 0), (s'.elem e).st = .off) →
      ∃ u : State, exec (.setRange dt o a0 a1) s = .next (s.seal dt (u.complete 0x16 1 cDONE o))
        ∧ u = { s' with
          elems := u.elems, lps := u.lps, drv := { s'.drv with ranges := u.drv.ranges }
          token := { s'.token with codes := s'.token.codes.map (HoldRec.ranged (fld a0 9 0) (bit a1 0)) } }
        ∧ (∀ k ∈ u.token.codes, ∃ r ∈ s'.token.codes, k.elem = r.elem ∧ k.code = r.code
          ∧ (tileOf r.elem ≠ fld a0 9 0 → k = r)
          ∧ (tileOf r.elem = fld a0 9 0 → k.dac = (if bit a1 0 then r.dac / 2 else 2 * r.dac)
            ∧ k.out = if bit a1 0 then r.out / 2 else 2 * r.out))
        ∧ (∀ t, u.range2 t = if t = fld a0 9 0 then bit a1 0 else s'.range2 t)
        ∧ (∀ e, u.elem e = if e ∈ tileElems (fld a0 9 0)
          then { s'.elem e with lkbV := false, lkxV := false, clear := none, clearNow := none } else s'.elem e)
        ∧ ∀ pl e, e < 9728 → u.lp pl e = if e ∈ tileElems (fld a0 9 0) then { s'.lp pl e with dac := none } else s'.lp pl e)
    ∧ (∀ o a0 a1, s'.Ready → fld a1 9 0 ≠ 0 → fld a0 9 0 + fld a1 9 0 ≤ 608 →
      ∃ u : State, exec (.sync dt o a0 a1) s = .next (s.seal dt (u.complete 0x16 2 cDONE o))
        ∧ u = { s' with drv := { s'.drv with sines := u.drv.sines, freshAt := u.drv.freshAt } }
        ∧ ∀ t, u.phase t = s'.phase t ∧ u.fwAt t (s'.tickNow + 1) = s'.fwAt t (s'.tickNow + 1)
          ∧ (fld a0 9 0 ≤ t → t < fld a0 9 0 + fld a1 9 0 →
            u.phaseAt t (s'.tickNow + 1) = 0 ∧ (t, s'.tickNow + 1) ∈ u.drv.freshAt)
          ∧ (t < fld a0 9 0 ∨ fld a0 9 0 + fld a1 9 0 ≤ t →
            tget sineDefault u.drv.sines t = tget sineDefault s'.drv.sines t))
    ∧ (∀ (t : Fin 608) (fw : BitVec 16), s'.Ready →
      ∃ u : State, exec (.fwWrite dt t fw) s = .next (s.seal dt u)
        ∧ u = { s' with drv := { s'.drv with sines := u.drv.sines, freshAt := u.drv.freshAt } }
        ∧ (∀ t', t' ≠ t.val → tget sineDefault u.drv.sines t' = tget sineDefault s'.drv.sines t')
        ∧ u.phase t = s'.phase t ∧ u.fwAt t (s'.tickNow + 1) = fw.toNat
        ∧ (fw ≠ 0 → u.phaseAt t (s'.tickNow + 1) = s'.phaseAt t (s'.tickNow + 1))
        ∧ (t.val, s'.tickNow + 1) ∈ u.drv.freshAt)
    ∧ (s'.InService →
      (∃ u : State, exec (.ditherTick dt) s = .next (s.seal dt u)
        ∧ u = { s' with lps := u.lps, drv := { s'.drv with freshAt := u.drv.freshAt } }
        ∧ (∀ x ∈ u.drv.freshAt, u.elapsed < ns (50 * x.2))
        ∧ ∀ t k, (tget sineDefault s'.drv.sines t).tick ≤ k →
          u.phaseAt t (k + 1) = if u.fwAt t k = 0 then 0 else (u.phaseAt t k + u.fwAt t k) % 2 ^ 24)
      ∧ ∀ e : Fin 9728, ∃ u : State, exec (.deglitchHoldEnd dt e) s = .next (s.seal dt u)
        ∧ u = { s' with drv := { s'.drv with holds := u.drv.holds } }
        ∧ (∀ h, h ∈ u.drv.holds ↔ h ∈ s'.drv.holds ∧ (h.elem = e.val → s'.elapsed < h.since + holdTime))
        ∧ ((∀ h ∈ s'.drv.holds, h.elem = e.val → h.since + holdTime ≤ s'.elapsed) → u.holdOf e = none))

/-- DRV_SC on a powered plane whose flag for the element is clear sets the flag, counts it, records it, sets INT_CAUSE bit 0,
and takes an element that regulates on the plane that holds the token to FAULT with cause SC (R162); a write of 1 to its bit
of DRV.SC_FLAGS clears a flag of the selected tile, and only that (R163). nCLR falling begins clear: every element's DAC is
driven at its clear code, the edge is counted, and elements that are not OFF enter HOLD with cause CLEAR (R164, R165); rising
with a holder ends it (R166). An input VOA that waited 10 µs enters RAMP, and an output VOA whose wait passes the settle
timeout is counted and reported (R166). -/
def Obligations.ShortsClearsAndRelight : Prop :=
  (∀ (dt : Nat) (s s' : State), s' = s.advance dt →
      (∀ (pl : Plane) (e : Fin 9728), s'.InService → (s'.plane pl).pg = true → s'.scFlag pl e = false →
        s'.token.holder = some pl → (s'.elem e).st.regulates = true →
        ∃ u : State, exec (.drvSc dt pl e) s = .next (s.seal dt u)
          ∧ u.scFlag pl e = true ∧ (∀ e' p', (e', p') ≠ (e.val, pl) → u.scFlag p' e' = s'.scFlag p' e')
          ∧ u.elem e = { s'.elem e with st := .fault 1, wrote := false, recheck := false }
          ∧ (∀ e', e' ≠ e.val → u.elem e' = s'.elem e')
          ∧ u.causeSet 0x16 0 = true ∧ u.causeSet 0x14 0 = true ∧ s'.Counted u Reg.LOOP_FAULT_CNT
          ∧ s'.Counted u (match pl with | .a => Reg.DRV_SC_CNT_A | .b => Reg.DRV_SC_CNT_B)
          ∧ u.bare s' = { s' with
            elems := u.elems, lps := u.lps, drv := { s'.drv with scA := u.drv.scA, scB := u.drv.scB }, bist := u.bist }
          ∧ (s'.dacTest pl e = none → u.bist = s'.bist))
      ∧ (∀ v, s'.Ready → ∃ u : State, exec (.scFlagClear dt v) s = .next (s.seal dt u)
        ∧ u = { s' with drv := { s'.drv with scA := u.drv.scA, scB := u.drv.scB } }
        ∧ ∀ e, e < 9728 → s'.rf Reg.DRV_SC_SEL 9 0 ≤ 607 →
          u.scFlag .a e = (s'.scFlag .a e && !(decide (tileOf e = s'.rf Reg.DRV_SC_SEL 9 0) && bit v (slotOf e)))
          ∧ u.scFlag .b e = (s'.scFlag .b e && !(decide (tileOf e = s'.rf Reg.DRV_SC_SEL 9 0) && bit v (16 + slotOf e)))))
  ∧ (∀ (dt : Nat) (s s' : State), s' = s.advance dt → s'.InService →
      (s'.drv.nclrLow = false → s'.drv.clearing = false →
        ∃ u : State, exec (.nclrFall dt) s = .next (s.seal dt u)
          ∧ u.drv.nclrLow = true ∧ u.drv.clearing = true ∧ s'.Counted u Reg.DRV_NCLR_CNT ∧ u.causeSet 0x16 1 = true
          ∧ (∀ pl e, u.dacCode pl e = u.clearCode e)
          ∧ (∀ e ∈ s'.touched, (s'.elem e).st ≠ .off → (u.elem e).st = .hold 2)
          ∧ u.epoch = s'.epoch ∧ u.bell = s'.bell ∧ u.mem = s'.mem)
      ∧ (s'.drv.nclrLow = true → s'.drv.clearing = true → s'.token.holder ≠ none →
        ∃ u : State, exec (.nclrRise dt) s = .next (s.seal dt u)
          ∧ u.drv.nclrLow = false ∧ u.drv.clearing = false ∧ u.epoch = s'.epoch ∧ u.bell = s'.bell ∧ u.mem = s'.mem)
      ∧ (∀ (p : Fin 512) (since : Nat), s'.drv.inWait.find? (fun x => x.1 == p.val) = some (p.val, since) →
        since + us 10 ≤ s'.elapsed →
        ∃ u : State, exec (.inputVoaRelease dt p) s = .next (s.seal dt u)
          ∧ (u.elem (ivoaOf p)).st = .ramp ∧ (∀ e, e ≠ ivoaOf p → u.elem e = s'.elem e)
          ∧ u.drv.inWait = s'.drv.inWait.filter (fun x => x.1 != p.val) ∧ u.regs = s'.regs ∧ u.epoch = s'.epoch ∧ u.mem = s'.mem)
      ∧ (∀ (q : Fin 512) (r : Relight) (at0 : Nat), s'.drv.relight.find? (fun x => x.out == q.val) = some r →
        r.releaseAt = some at0 → r.timedOut = false → at0 + us (s'.rf Reg.SHEEP_SETTLE_TO 15 0) < s'.elapsed →
        ∃ u : State, exec (.relightTimeout dt q) s = .next (s.seal dt u)
          ∧ s'.Counted u Reg.DRV_RELIGHT_TO_CNT ∧ s'.Causes u 0x16 3
          ∧ s'.RegsBut u (Reg.DRV_RELIGHT_TO_CNT :: reportRegs 0x16)
          ∧ s'.Reported u 0x16 0x2303 7 0 s'.epoch.act (pay [q.val])
          ∧ u.bare s' = { s' with drv := { s'.drv with relight := u.drv.relight } }
          ∧ (∀ x ∈ u.drv.relight, x.out = q.val → x.timedOut = true)))

/-! ### Planes, token and safe-hold -/

/-- A feed that becomes valid or invalid while the other is valid is noted with INT_CAUSE bit 8 and event 0x3009 (R175), a
plane that was OFF starts with its feed, its rings and its conversion anew (R191, R154). A fault of causes 2 to 5, or of one
of its regulators, detected in ACTIVE or STANDBY takes a plane to FAILED, and the loss of its feed to OFF, counted, and
reported with INT_CAUSE bit 1 and event 0x3001 of the plane, its new state and the cause; a holder that fails is fenced at
once with cause FAULT (R180). That an event's payload gives the plane as 0 for A and 1 for B is the model's reading
(assumption log 114). -/
def Obligations.FeedsAndFaultsMovePlanes : Prop :=
  ∀ (dt : Nat) (pl : Plane) (s s' : State), s' = s.advance dt → s'.InService →
    ((s'.plane pl).valid = false →
      ∃ u : State, exec (.feedValid dt pl) s = .next (s.seal dt u)
        ∧ u.bare s' = { s'.setPlane pl { s'.plane pl with
            valid := true, pg := true, st := if (s'.plane pl).st = .off then .start else (s'.plane pl).st
            rung := if (s'.plane pl).st = .off then false else (s'.plane pl).rung } with
          conv := if (s'.plane pl).st = .off then s'.conv.stop pl else s'.conv }
        ∧ s'.Causes u 0x04 8 ∧ s'.RegsBut u (reportRegs 0x04)
        ∧ s'.Reported u 0x04 0x3009 7 0 s'.epoch.act (pay [planeIdx pl, 1]))
    ∧ ((s'.plane pl).valid = true → (s'.plane (otherPlane pl)).valid = true →
      ∃ u : State, exec (.feedInvalid dt pl) s = .next (s.seal dt u)
        ∧ u.bare s' = { s'.setPlane pl { s'.plane pl with valid := false } with dev := { s'.dev with unpowered := false } }
        ∧ s'.Causes u 0x04 8 ∧ s'.RegsBut u (reportRegs 0x04)
        ∧ s'.Reported u 0x04 0x3009 7 0 s'.epoch.act (pay [planeIdx pl, 0]))
    ∧ (∀ (cause : BitVec 3) (reg : BitVec 6), 1 ≤ cause.toNat → cause.toNat ≤ 5 →
      ((s'.plane pl).st = .active ∨ (s'.plane pl).st = .standby) → s'.token.free = false →
      ∃ u : State, exec (.planeFaultDetect dt pl cause reg) s = .next (s.seal dt u)
        ∧ (u.plane pl).st = (if cause = 1 ∧ reg = 0 then .off else .failed) ∧ (u.plane pl).cause = cause.toNat
        ∧ (cause = 1 ∧ reg = 0 → (u.plane pl).valid = false ∧ (u.plane pl).pg = false)
        ∧ (u.plane pl).request = false ∧ s'.Counted u (Reg.PL_FAIL_CNT pl) ∧ u.causeSet 0x04 1 = true
        ∧ (s'.chain.queue.length < 1000 → s'.Reported u 0x04 0x3001 7 0 s'.epoch.act
          (pay [planeIdx pl, (if cause = 1 ∧ reg = 0 then PlaneSt.off else .failed).code, cause.toNat]))
        ∧ (s'.token.holder = some pl → u.token.holder = none ∧ u.token.fenceAt = some s'.elapsed
          ∧ u.token.fenceCause = 1 ∧ u.token.old = some pl)
        ∧ (s'.token.holder ≠ some pl → u.token.holder = s'.token.holder)
        ∧ u.epoch = s'.epoch ∧ u.elems = s'.elems ∧ u.mem = s'.mem)

/-- Lease, marks and heartbeats (R178, R179, R183): a renewal before the lease's end extends the lease to 50 µs from then;
an alive mark of a powered plane is noted; a heartbeat of a powered pair clears the misses; the third miss in a row declares
heartbeat failure, and a STANDBY plane then requests the token; where it sees the holder still renew its lease, the peer link
is down, counted and reported (that it sees so for 10 µs after a renewal is the model's reading, assumption log 144, and so is
the plane's number in the event's payload, assumption log 114). -/
def Obligations.LeasesAndHeartbeats : Prop :=
  ∀ (dt : Nat) (pl : Plane) (s s' : State), s' = s.advance dt → s'.InService →
    (s'.token.holder ≠ none → s'.elapsed < s'.token.leaseEnd →
      ∃ u : State, exec (.leaseRenewal dt) s = .next (s.seal dt u)
        ∧ u = { s' with
          token := { s'.token with leaseEnd := s'.elapsed + us 50, renewed := s'.elapsed } })
    ∧ ((s'.plane pl).st ≠ .off →
      (∃ u : State, exec (.aliveMark dt pl) s = .next (s.seal dt u)
        ∧ u = s'.setPlane pl { s'.plane pl with alive := s'.elapsed })
      ∧ ((s'.plane (otherPlane pl)).st ≠ .off → (s'.plane pl).beats < 15 → (s'.plane pl).hbFail = false →
        ∃ u : State, exec (.heartbeat dt pl) s = .next (s.seal dt u)
          ∧ u = s'.setPlane pl { s'.plane pl with misses := 0, beats := (s'.plane pl).beats + 1 })
      ∧ ((s'.plane pl).hbFail = false → (s'.plane pl).misses + 1 < 3 →
        ∃ u : State, exec (.heartbeatMiss dt pl) s = .next (s.seal dt u)
          ∧ u.bare s' = s'.setPlane pl { s'.plane pl with misses := (s'.plane pl).misses + 1, beats := 0 }
          ∧ s'.Counted u (Reg.PL_HB_MISS_CNT pl) ∧ s'.RegsBut u [Reg.PL_HB_MISS_CNT pl])
      ∧ ((s'.plane pl).hbFail = false → 3 ≤ (s'.plane pl).misses + 1 →
        ∃ u : State, exec (.heartbeatMiss dt pl) s = .next (s.seal dt u)
          ∧ u.bare s' = { s'.setPlane pl { s'.plane pl with
              misses := (s'.plane pl).misses + 1, beats := 0, hbFail := true
              request := (s'.plane pl).request || (s'.plane pl).st == .standby } with token := u.token }
          ∧ s'.Counted u (Reg.PL_HB_MISS_CNT pl)
          ∧ ((s'.plane pl).st = .standby ∧ s'.token.holder = some (otherPlane pl) ∧ s'.renewing = true →
            u.token = { s'.token with peerUp := false, linkDown := true } ∧ s'.Counted u (Reg.PL_PEER_DOWN_CNT pl)
              ∧ s'.Causes u 0x04 4 ∧ s'.Reported u 0x04 0x3004 7 0 s'.epoch.act (pay [planeIdx pl])
              ∧ s'.RegsBut u (Reg.PL_HB_MISS_CNT pl :: Reg.PL_PEER_DOWN_CNT pl :: reportRegs 0x04))
          ∧ (¬ ((s'.plane pl).st = .standby ∧ s'.token.holder = some (otherPlane pl) ∧ s'.renewing = true) →
            u.token = s'.token ∧ s'.RegsBut u [Reg.PL_HB_MISS_CNT pl])))

/-- The token (R177, R178, R181, R185, R193): the end of the lease fences the holder, its hold cells recording every element's
codes and what they drive; a grant to a STANDBY plane that requests the token makes it the holder and ACTIVE with a lease of
50 µs, after a fence as a handover and after a reset, with no plane in START, as the first grant, to plane A rather than B,
whose switches close from the presets in 20 ns (R167, R161); 10 µs after a fence without a grant the token is free, and clear
codes are driven. -/
def Obligations.TheTokenPasses : Prop :=
  ∀ (dt : Nat) (s s' : State), s' = s.advance dt → s'.InService →
    (∀ h, s'.token.holder = some h → s'.token.leaseEnd ≤ s'.elapsed →
      ∃ u : State, exec (.leaseEnd dt) s = .next (s.seal dt u)
        ∧ u.token.holder = none ∧ u.token.free = false ∧ u.token.old = some h ∧ u.token.fenceCause = 2
        ∧ u.token.fenceAt = some s'.elapsed ∧ (u.plane h).st = .fenced
        ∧ (∀ e ∈ s'.touched, ⟨e, s'.dacCode h e, s'.loopCode h e, s'.outCode e⟩ ∈ u.token.codes)
        ∧ (∀ p e, u.lp p e = { s'.lp p e with dac := (u.lp p e).dac })
        ∧ u.elems = s'.elems ∧ u.regs = s'.regs ∧ u.epoch = s'.epoch ∧ u.mem = s'.mem)
    ∧ (∀ pl gap t old, s'.dev.state ≠ 2 → s'.token.holder = none → (s'.plane pl).st = .standby →
      (s'.plane pl).request = true →
      s'.token.fenceAt = some t → s'.token.old = some old →
      ∃ u : State, exec (.tokenGrant dt pl gap) s = .next (s.seal dt u)
        ∧ u.token.holder = some pl ∧ u.token.free = false ∧ u.token.leaseEnd = s'.elapsed + us 50
        ∧ u.token.granted = true ∧ u.token.hoCause = s'.token.fenceCause
        ∧ u.token.hoGap = min ((s'.elapsed - t) / nsUnit + gap) 0xFFFF
        ∧ (u.plane pl).st = .active ∧ (u.plane pl).request = false
        ∧ s'.Counted u Reg.TOKEN_HANDOVER_CNT ∧ u.causeSet 0x04 0 = true ∧ u.epoch = s'.epoch ∧ u.mem = s'.mem)
    ∧ (∀ pl gap, s'.dev.state ≠ 2 → s'.token.holder = none → (s'.plane pl).st = .standby → (s'.plane pl).request = true →
      s'.token.fenceAt = none → (∀ p, (s'.plane p).st ≠ .start) → (pl = .a ∨ s'.pla.st ≠ .standby) →
      ∃ u : State, exec (.tokenGrant dt pl gap) s = .next (s.seal dt u)
        ∧ u.token.holder = some pl ∧ u.token.free = false ∧ u.token.leaseEnd = s'.elapsed + us 50
        ∧ u.token.granted = true ∧ (u.plane pl).st = .active ∧ (u.plane pl).request = false
        ∧ u.drv.preset = false ∧ (s'.drv.preset = true → u.drv.presetTill = s'.elapsed + holdTime)
        ∧ u.epoch = s'.epoch ∧ u.mem = s'.mem)
    ∧ (∀ t, s'.token.holder = none → s'.token.fenceAt = some t → s'.token.free = false → t + us 10 ≤ s'.elapsed →
      s'.drv.clearing = false →
      ∃ u : State, exec (.tokenFree dt) s = .next (s.seal dt u)
        ∧ u.token.holder = none ∧ u.token.free = true ∧ u.drv.clearing = true ∧ u.causeSet 0x04 6 = true
        ∧ (∀ pl e, u.dacCode pl e = u.clearCode e) ∧ u.epoch = s'.epoch ∧ u.mem = s'.mem)

/-- A FENCED plane whose check passes enters STANDBY, one whose check fails enters FAILED with cause 6 (R176); a START pass
that is clean, its timing rings calibrated, its four runs ended and its SELF_CAL done, brings a plane to STANDBY with the
holder's loop codes and completes its PLANE_RESTART with DONE, in the start of the device no earlier than Table START-2 has
it (`State.mayPassStart`, R367); one that is not takes it to FAILED with BIST_FAIL and cause 0 (R191, R192, R353);
PLANE_RESTART of a FENCED, FAILED or STANDBY plane starts it, its rings to be calibrated again, and of a plane in CLEARDRV
gives up its clear grant too (R192, R186). That the event's payload gives the plane as 0 for A and 1 for B is the model's
reading (assumption log 114). -/
def Obligations.PlanesCheckAndStart : Prop :=
  ∀ (dt : Nat) (pl : Plane) (s s' : State), s' = s.advance dt →
    (s'.InService → (s'.plane pl).st = .fenced →
      (∃ u : State, exec (.fencedCheckEnd dt pl true) s = .next (s.seal dt u)
        ∧ u = s'.setPlane pl { s'.plane pl with
          st := .standby, request := s'.token.holder.isNone || (s'.plane pl).hbFail, noClear := false })
      ∧ ∃ u : State, exec (.fencedCheckEnd dt pl false) s = .next (s.seal dt u)
        ∧ ((u.plane pl).st = .failed ∨ (u.plane pl).st = .cleardrv) ∧ (u.plane pl).cause = 6
        ∧ s'.Counted u (Reg.PL_FAIL_CNT pl) ∧ u.mem = s'.mem ∧ u.epoch = s'.epoch)
    ∧ (s'.InService → (s'.plane pl).st = .start →
      (s'.mayPassStart pl = true →
        ∃ u v : State, exec (.planeStartDone dt pl true) s = .next (s.seal dt v)
        ∧ v = (match (s'.plane pl).restart with | none => u | some o => u.complete 0x04 4 cDONE o)
        ∧ (u.plane pl).st = .standby ∧ (u.plane pl).restart = none ∧ u.dev.passed = true
        ∧ (∀ h, s'.token.holder = some h → h ≠ pl → (∀ e ∈ s'.touched, e < 9728) →
          ∀ e ∈ s'.touched, u.loopCode pl e = s'.loopCode h e)
        ∧ s'.Reported u 0x04 0x3008 7 0 s'.epoch.act (pay [planeIdx pl])
        ∧ u.elems = s'.elems ∧ u.epoch = s'.epoch ∧ u.mem = s'.mem)
      ∧ ∃ u : State, exec (.planeStartDone dt pl false) s = .next (s.seal dt u)
        ∧ ((u.plane pl).st = .failed ∨ (u.plane pl).st = .cleardrv) ∧ (u.plane pl).bistFail = true
        ∧ (u.plane pl).cause = 0 ∧ s'.Counted u (Reg.PL_FAIL_CNT pl) ∧ u.mem = s'.mem ∧ u.epoch = s'.epoch)
    ∧ (∀ o a0, s'.Ready → bit a0 0 = (pl == .b) →
      (((s'.plane pl).st = .fenced ∨ (s'.plane pl).st = .failed ∨ (s'.plane pl).st = .standby) →
        ∃ u : State, exec (.planeRestart dt o a0) s = .next (s.seal dt u)
          ∧ u = s'.setPlane pl { s'.plane pl with st := .start, rung := false, request := false, restart := some o })
      ∧ ((s'.plane pl).st = .cleardrv → ∃ u : State, exec (.planeRestart dt o a0) s = .next (s.seal dt u)
        ∧ u = { s'.setPlane pl { s'.plane pl with
            st := .start, rung := false, request := false, restart := some o, noClear := true } with
          drv := { s'.drv with preset := true } }))

/-- A regulator's warning stands until it clears, either tells that the regulator is within its limits, and a FAILED plane
may then get the clear grant (R189, R185); HANDOVER to a healthy STANDBY plane, and AUTO_HANDOVER on a lost
mismatch, make that plane the holder and fence the old one (R190); RESYNC copies the holder's loop codes to the standby
(R192). -/
def Obligations.HealthAndPlannedHandovers : Prop :=
  ∀ (dt : Nat) (s s' : State), s' = s.advance dt →
    (∀ pl (r : Fin 6), s'.InService → (s'.plane pl).st ≠ .off →
      (∃ u : State, exec (.regulatorWarn dt pl r) s = .next (s.seal dt u.clearGrant)
        ∧ u = s'.setPlane pl { s'.plane pl with
          warn := (u.plane pl).warn, fail := (s'.plane pl).fail.filter (· != r.val) }
        ∧ (∀ k, k ∈ (u.plane pl).warn ↔ k = r.val ∨ k ∈ (s'.plane pl).warn)
        ∧ (s'.token.free = false → u.clearGrant = u))
      ∧ ∃ u : State, exec (.regWarnClear dt pl r) s = .next (s.seal dt u.clearGrant)
        ∧ (s'.token.free = false → u.clearGrant = u)
        ∧ u = s'.setPlane pl { s'.plane pl with
          warn := (s'.plane pl).warn.filter (· != r.val), fail := (s'.plane pl).fail.filter (· != r.val) })
    ∧ (∀ h, s'.token.holder = some h → (s'.plane (otherPlane h)).st = .standby →
      (∀ o, s'.Ready → s'.healthy (otherPlane h) = true →
        ∃ u : State, exec (.handover dt o) s = .next (s.seal dt (u.complete 0x04 3 cDONE o))
          ∧ u.token.holder = some (otherPlane h) ∧ u.token.hoCause = 5 ∧ u.token.old = some h
          ∧ (u.plane (otherPlane h)).st = .active ∧ (u.plane h).st = .fenced
          ∧ s'.Counted u Reg.TOKEN_HANDOVER_CNT ∧ u.causeSet 0x04 0 = true ∧ u.epoch = s'.epoch ∧ u.mem = s'.mem)
      ∧ (s'.InService → s'.token.hoAt = none → s'.token.mismatchWait = true →
        ∃ u : State, exec (.autoHandover dt) s = .next (s.seal dt u)
          ∧ u.token.holder = some (otherPlane h) ∧ u.token.hoCause = 3 ∧ u.token.mismatchWait = false
          ∧ (u.plane (otherPlane h)).st = .active ∧ (u.plane h).st = .fenced
          ∧ s'.Counted u Reg.TOKEN_HANDOVER_CNT ∧ u.epoch = s'.epoch ∧ u.mem = s'.mem)
      ∧ (∀ o, s'.Ready → s'.token.peerUp = true → (s'.plane h).st = .active → (∀ e ∈ s'.touched, e < 9728) →
        ∃ u : State, exec (.resync dt o) s = .next (s.seal dt (u.complete 0x04 5 cDONE o))
          ∧ u = { s' with lps := u.lps }
          ∧ ∀ e ∈ s'.touched, u.loopCode (otherPlane h) e = s'.loopCode h e))

/-- Safe-hold (R196, R197, R199): SAFE_ENTER and nSAFE_HOLD falling put it in force with their cause, count it, set INT_CAUSE
bit 7, freeze the elements of non-SAFETY cells and blank the VOAs of non-SAFETY circuits; nSAFE_HOLD rising ends the cause and
not safe-hold; SAFE_EXIT with no cause but HOST ends it, and every element in HOLD with cause SAFE_HOLD leaves it under steps
1 to 5 of R166; while PIN, UNHEALTHY or BIST stands it completes with LOCKED. While clear is in force only causes and flags
change. That a SW or TR element in FAULT or HOLD keeps its state as safe-hold begins is the model's reading (assumption log
125). -/
def Obligations.SafeHoldEntersAndEnds : Prop :=
  ∀ (dt : Nat) (s s' : State), s' = s.advance dt →
    ((∀ c ∈ CMap.lit s'.epoch.active, c < 4352) → (∀ c ∈ s'.epoch.active, c.inp < 512 ∧ c.out < 512) →
      (s'.epoch.active.map (·.inp)).Nodup → (s'.epoch.active.map (·.out)).Nodup →
      (∀ o, s'.Ready → s'.safe.active = false → s'.safe.causes = 0 →
        ∃ u : State, exec (.safeEnter dt o) s = .next (s.seal dt (u.complete 0x04 1 cDONE o))
          ∧ (s'.drv.clearing = false → s'.Still → s'.Freezes u) ∧ (s'.drv.clearing = true → u.elems = s'.elems))
      ∧ (s'.InService → s'.safe.active = false → s'.safe.causes = 0 →
        ∃ u : State, exec (.nsafeHoldFall dt) s = .next (s.seal dt u)
          ∧ (s'.drv.clearing = false → s'.Still → s'.Freezes u) ∧ (s'.drv.clearing = true → u.elems = s'.elems))
      ∧ (∀ o, s'.Ready → s'.safe.active = true → s'.safe.pin = false → s'.safe.unhealthy = false → s'.safe.bist = false →
        ∃ u : State, exec (.safeExit dt o) s = .next (s.seal dt (u.complete 0x04 2 cDONE o))
          ∧ (s'.drv.clearing = false → s'.Thaws u) ∧ (s'.drv.clearing = true → u.elems = s'.elems))) ∧
    (∀ o, s'.Ready → s'.safe.active = false → s'.safe.causes = 0 →
      ∃ u : State, exec (.safeEnter dt o) s = .next (s.seal dt (u.complete 0x04 1 cDONE o))
        ∧ u.safe = { s'.safe with active := true, host := true, first := 2 } ∧ s'.Counted u Reg.TOKEN_SAFE_CNT
        ∧ (s'.epoch.prep = none → s'.Still → s'.Reported u 0x04 0x3010 7 0 s'.epoch.act (pay [2]))
        ∧ u.causeSet 0x04 7 = true ∧ u.epoch.prep = none ∧ u.epoch.active = s'.epoch.active ∧ u.mem = s'.mem)
    ∧ (s'.InService → s'.safe.active = false → s'.safe.causes = 0 →
      ∃ u : State, exec (.nsafeHoldFall dt) s = .next (s.seal dt u)
        ∧ u.safe = { s'.safe with active := true, pin := true, first := 1 } ∧ s'.Counted u Reg.TOKEN_SAFE_CNT
        ∧ u.causeSet 0x04 7 = true ∧ u.epoch.prep = none ∧ u.epoch.active = s'.epoch.active ∧ u.mem = s'.mem)
    ∧ (s'.InService → ∃ u : State, exec (.nsafeHoldRise dt) s = .next (s.seal dt u)
      ∧ u = { s' with safe := { s'.safe with pin := false } })
    ∧ (∀ o, s'.Ready → s'.safe.active = true →
      (s'.safe.pin = false → s'.safe.unhealthy = false → s'.safe.bist = false →
        ∃ u : State, exec (.safeExit dt o) s = .next (s.seal dt (u.complete 0x04 2 cDONE o))
          ∧ u.safe = { s'.safe with active := false, host := false } ∧ u.causeSet 0x04 7 = true
          ∧ u.epoch = s'.epoch ∧ u.mem = s'.mem)
      ∧ ((s'.safe.pin = true ∨ s'.safe.unhealthy = true ∨ s'.safe.bist = true) →
        exec (.safeExit dt o) s = .next (s.seal dt (s'.complete 0x04 2 cLOCKED o))))

/-! ### The supervisory plane -/

/-- Lasers (R195, R220, R221): a laser that fails is marked, counted and reported, once, and LAST shows it unless a higher
one failed at the same device time; RETRY of a failed laser takes its mark back where it has held for 200 µs, and marks it
again where it fails within them. -/
def Obligations.LasersFailAndRetry : Prop :=
  ∀ (dt : Nat) (s s' : State), s' = s.advance dt →
    (∀ n : Fin 32, s'.InService → n.val ∉ s'.osc.failed →
      ∃ u : State, exec (.laserFail dt n) s = .next (s.seal dt u)
        ∧ u.bare s' = { s' with osc := { s'.osc with failed := u.osc.failed } }
        ∧ (∀ k, k ∈ u.osc.failed ↔ k = n.val ∨ k ∈ s'.osc.failed) ∧ s'.Counted u Reg.LASER_FAIL_CNT
        ∧ u.causeSet 0x61 0 = true ∧ (s'.nowAt Reg.LASER_LAST ≤ n.val + 1 → u.reg Reg.LASER_LAST = w32 (2 ^ 31 + n.val))
        ∧ s'.RegsBut u (Reg.LASER_FAIL_CNT :: Reg.LASER_LAST :: reportRegs 0x61))
    ∧ (∀ o a0, s'.Ready → s'.osc.retry = none → fld a0 4 0 ∈ s'.osc.failed →
      ∃ u : State, exec (.retry dt o a0) s = .next (s.seal dt u)
        ∧ u = { s' with osc := { s'.osc with retry := some (o, fld a0 4 0, s'.elapsed) } })
    ∧ (∀ o n t, s'.InService → s'.osc.retry = some (o, n, t) →
      (t + us 200 ≤ s'.elapsed →
        ∃ u : State, exec (.retryEnd dt true) s = .next (s.seal dt (u.complete 0x61 1 cDONE o))
          ∧ u.bare s' = { s' with osc := { s'.osc with retry := none, failed := s'.osc.failed.filter (· != n) } }
          ∧ s'.Causes u 0x61 2 ∧ s'.RegsBut u (reportRegs 0x61))
      ∧ (s'.elapsed < t + us 200 →
        ∃ u : State, exec (.retryEnd dt false) s = .next (s.seal dt (u.complete 0x61 1 cREFUSED o))
          ∧ u.osc.retry = none ∧ n ∈ u.osc.failed ∧ s'.Counted u Reg.LASER_FAIL_CNT ∧ u.mem = s'.mem))

/-- Lanes (R204 to R206, R219): an enabled lane synchronises, a /C/ ordered set received begins its time anew, and 10 ms of
SYNC without one bring LINK up with its report; loss of SYNC takes LINK down, counted and reported, with its queued frames; a
loss of signal and the receive power are noted; a disabled lane loses LINK, while a frame in transmission stays there until
its end (the model's choice, assumption log 92). -/
def Obligations.LanesComeAndGo : Prop :=
  ∀ (dt : Nat) (i : Fin 512) (s s' : State), s' = s.advance dt → s'.InService →
    (∀ conf, s'.laneEn i = true → ((s'.lane i).sync = none ∨ conf = true) →
      ∃ u : State, exec (.pcsSynchronised dt ⟨i, conf⟩) s = .next (s.seal dt u)
        ∧ u = { s' with osc := { s'.osc with lanes := u.osc.lanes } }
        ∧ u.lane i = { s'.lane i with sync := some s'.elapsed } ∧ ∀ j, j ≠ i.val → u.lane j = s'.lane j)
    ∧ (∀ t, s'.laneEn i = true → (s'.lane i).sync = some t → (s'.lane i).link = false → t + us 10000 ≤ s'.elapsed →
      ∃ u : State, exec (.laneLinkUp dt i) s = .next (s.seal dt u)
        ∧ u.bare s' = { s' with osc := { s'.osc with lanes := u.osc.lanes } }
        ∧ u.lane i = { s'.lane i with link := true } ∧ (∀ j, j ≠ i.val → u.lane j = s'.lane j)
        ∧ s'.Causes u (0x41 + i.val / 16) (i.val % 16) ∧ s'.RegsBut u (reportRegs (0x41 + i.val / 16))
        ∧ s'.Reported u (0x41 + i.val / 16) 0x5000 7 0 s'.epoch.act (pay [i.val]))
    ∧ ((s'.lane i).link = true →
      ∃ u : State, exec (.laneLinkDown dt i) s = .next (s.seal dt u)
        ∧ u.lane i = { s'.lane i with sync := none, link := false } ∧ (∀ j, j ≠ i.val → u.lane j = s'.lane j)
        ∧ (u.egress i).queued = [] ∧ (u.egress i).tx = none ∧ (u.egress i).waiting = (s'.egress i).waiting
        ∧ s'.Counted u (laneWord i cLINK_DOWN) ∧ u.causeSet (0x41 + i.val / 16) (i.val % 16) = true
        ∧ s'.Reported u (0x41 + i.val / 16) 0x5001 7 0 s'.epoch.act (pay [i.val])
        ∧ u.obj = s'.obj ∧ u.epoch = s'.epoch ∧ u.mem = s'.mem)
    ∧ (∀ los (power : BitVec 16),
      ∃ u : State, exec (.lossOfSignal dt i los power) s = .next (s.seal dt u)
        ∧ u = { s' with osc := { s'.osc with lanes := u.osc.lanes } }
        ∧ u.lane i = { s'.lane i with los := los, power := if power.toInt < -560 then 0xFC40 else power.toNat }
        ∧ ∀ j, j ≠ i.val → u.lane j = s'.lane j)
    ∧ (∀ v, s'.Ready → ∃ u : State, exec (.laneCfgWrite dt i v) s = .next (s.seal dt u)
      ∧ u.reg (laneWord i 0) = v &&& 0xC0000007
      ∧ (bit v 31 = true → u.bare s' = s' ∧ s'.RegsBut u [laneWord i 0])
      ∧ (bit v 31 = false → (u.lane i).link = false ∧ (u.lane i).sync = none ∧ (u.egress i).tx = (s'.egress i).tx)
      ∧ (∀ j, j ≠ i.val → u.lane j = s'.lane j) ∧ u.obj = s'.obj ∧ u.epoch = s'.epoch ∧ u.mem = s'.mem)

/-- A frame received on an enabled lane with LINK from READY on is taken by the first row of Table OSC-2 that fits it (R207,
R218), and on any other lane by none (R205, R222; that a lane without LINK takes none is the model's reading, assumption log
87): a bad one is counted; a MAC control frame is dropped; a PTP frame goes to the time block, which counts it where no role
is set (the reserved roles among these by the model's reading, assumption log 99), forwards it in a transparent clock and in
an ordinary or boundary clock takes the parent's Sync on the slave port (R259, R260, R263); any other frame joins those of its
instant, in order of time-stamp and lane (R212). They act, each at its ingress time-stamp, before time goes on and before a
command of the table engine of that instant: a frame that is no object's goes to the host queue, in the order of R212, or is
dropped in safe-hold (R215, R217); of an object frame the tag is checked (R209), the source learned (R225 to R229), the
policer asked (R247), and it is sent where R208 to R211 have it go, HOP one less. FLOOD_APPLY copies the staged flood sets it
names (R214). That the frames of an instant, their learn events and the host queue among it, act at its end and not at each
receipt is the model's choice (assumption logs 90 and 131). -/
def Obligations.FramesAreCheckedAndFlooded : Prop :=
  (∀ (dt : Nat) (i : Fin 512) (f : LaneFrame) (s s' : State), s' = s.advance dt → s'.Ready →
    (s'.laneEn i = false ∨ (s'.lane i).link = false → exec (.frameReceive dt i f) s = .next (s.seal dt s'))
    ∧ (s'.Listens i →
      (f.codeOk = false → ∃ u : State, exec (.frameReceive dt i f) s = .next (s.seal dt u)
        ∧ u = s'.count (laneWord i cCODE_ERR))
      ∧ (f.codeOk = true → f.fcsOk = false → ∃ u : State, exec (.frameReceive dt i f) s = .next (s.seal dt u)
        ∧ u = s'.count (laneWord i cFCS_ERR))
      ∧ (f.codeOk = true → f.fcsOk = true → (f.octets.length + 4 < 64 ∨ 2048 < f.octets.length + 4) →
        ∃ u : State, exec (.frameReceive dt i f) s = .next (s.seal dt u) ∧ u = s'.count (laneWord i cLEN_ERR))
      ∧ (f.codeOk = true → f.fcsOk = true → 64 ≤ f.octets.length + 4 → f.octets.length + 4 ≤ 2048 →
        ∃ u : State, exec (.frameReceive dt i f) s = .next (s.seal dt u)
          ∧ (etherType f.octets = 0x8808 →
            u.bare s' = s' ∧ s'.Counted u (laneWord i cMACCTL_DROP) ∧ s'.Received u i [laneWord i cMACCTL_DROP])
          ∧ (etherType f.octets ≠ 0x8808 → etherType f.octets ≠ 0x88F7 →
            u.bare s' = { s' with
                osc := { s'.osc with arrived := insertArrival ⟨s'.elapsed, s'.now, i, f.octets⟩ s'.osc.arrived } }
              ∧ (∀ j g, s'.osc.arrived = [⟨s'.elapsed, s'.now, j, g⟩] → u.osc.arrived
                = if i.val < j then [⟨s'.elapsed, s'.now, i, f.octets⟩, ⟨s'.elapsed, s'.now, j, g⟩]
                  else [⟨s'.elapsed, s'.now, j, g⟩, ⟨s'.elapsed, s'.now, i, f.octets⟩])
              ∧ s'.Received u i [])
          ∧ (etherType f.octets = 0x88F7 → s'.rb Reg.PTP_CFG 27 = false →
            (ptpVersion f.octets ≠ 2 ∨ 1 < ptpMinor f.octets ∨ s'.role = 0 →
              u.bare s' = s' ∧ s'.Counted u Reg.PTP_BAD_MSG_CNT ∧ s'.Received u i [Reg.PTP_BAD_MSG_CNT])
            ∧ (ptpVersion f.octets = 2 → ptpMinor f.octets ≤ 1 → s'.role = 1 → s'.ptpMember i = true →
              ptpType f.octets ≤ 3 → ¬ (ptpType f.octets = 0 ∧ ptpTwoStep f.octets = true) →
              u.bare s' = { s' with sched := { s'.sched with egress := u.sched.egress } } ∧ s'.Received u i []
                ∧ s'.Copied u ⟨s'.elapsed + (8 * frameLen f.octets + 800) * nsUnit, s'.now, i, s'.ptpQueue i f.octets, true,
                    none, f.octets, .residence 0⟩ (fun j => decide (j < 512) && j != i.val && s'.ptpMember j))
            ∧ (ptpVersion f.octets = 2 → ptpMinor f.octets ≤ 1 → s'.role = 3 ∨ s'.role = 4 → s'.ptpMember i = true →
              ptpDomain f.octets = s'.rf Reg.PTP_CFG 23 16 → ptpType f.octets = 0 → ptpTwoStep f.octets = false →
              s'.time.slave = some i.val → ptpIdent f.octets = s'.time.parent →
              (u.ptpPort i).sync = some (ptpTime f.octets 34 + ptpCorr f.octets, (s'.now : Int))
                ∧ (∀ j, j ≠ i.val → u.ptpPort j = s'.ptpPort j)
                ∧ (s'.rf Reg.TIME_CFG 29 28 = 0 → s'.time.servo.path = false → s'.time.path.suspended = false →
                  u.time.servo.offset
                    = s'.now - (ptpTime f.octets 34 + ptpCorr f.octets) - (s'.time.path.d + s'.asym i))
                ∧ (s'.rf Reg.TIME_CFG 29 28 ≠ 0 → u.time.servo = s'.time.servo ∧ u.clock = s'.clock))))))
  ∧ (∀ (at_ t i : Nat) (f : List Byte) (s u v : State), u = s.settleArrived → v = s.atStamp t → i < 512 → at_ ≤ s.elapsed →
    s.osc.arrived = [⟨at_, t, i, f⟩] →
    u.osc.arrived = []
    ∧ (∀ dt, 0 < dt → s.dues = [] → s.dev.inReset = none → s.advance dt = u.advance dt)
    ∧ (isPtp f = false → isObject f = false ∨ tagVersion f ≠ 1 → s.safe.active = true →
      u.bare s = { s with osc := { s.osc with arrived := [] } } ∧ s.Counted u (laneWord i cSAFE_DROP)
        ∧ (isObject f = true → s.Counted u (laneWord i cTAG_VER))
        ∧ s.RegsBut u [laneWord i cSAFE_DROP, laneWord i cTAG_VER])
    ∧ (isPtp f = true ∨ isObject f = false ∧ s.safe.active = false → s.HostRoom (frameLen f) →
      u = { s with osc := { s.osc with arrived := [], hostq := insertHost ⟨i, t, isPtp f, f⟩ s.osc.hostq } }
        ∧ ((∀ g ∈ s.osc.hostq, g.time < t) → u.osc.hostq = s.osc.hostq ++ [⟨i, t, isPtp f, f⟩]))
    ∧ (isObject f = true → tagVersion f ≠ 1 → s.safe.active = false → s.HostRoom (frameLen f) →
      u.bare s = { s with osc := { s.osc with arrived := [], hostq := insertHost ⟨i, t, false, f⟩ s.osc.hostq } }
        ∧ s.Counted u (laneWord i cTAG_VER) ∧ s.RegsBut u [laneWord i cTAG_VER])
    ∧ (isObject f = true → tagVersion f = 1 → tagClass f = 3 ∨ tagSrc f = 0xFFFFF →
      u.bare s = { s with osc := { s.osc with arrived := [] } } ∧ s.Counted u (laneWord i cTAG_ERR)
        ∧ u.causeSet 0x40 1 = true ∧ s.RegsBut u (laneWord i cTAG_ERR :: reportRegs 0x40))
    ∧ (soundTag f →
      (v.Teaches f → v.Learns u (tagSrc f) (tagClass f) i)
      ∧ (¬ v.Teaches f → u.obj = s.obj)
      ∧ (¬ v.Conforms i f → s.Counted u Reg.SCHED_POLICE_CNT ∧ u.osc.hostq = s.osc.hostq ∧ (∀ j, u.egress j = s.egress j)
        ∧ u.bucket (policerKey i (tagClass f)) = { v.policer i f with drop := bumpWord (v.policer i f).drop })
      ∧ (v.Conforms i f →
        ((v.policer i f).en = true → u.bucket (policerKey i (tagClass f)) = (v.policer i f).debit (frameLen f + 20))
        ∧ (s.safe.active = true → tagClass f ≠ 0 →
          s.Counted u (laneWord i cSAFE_DROP) ∧ u.osc.hostq = s.osc.hostq ∧ ∀ j, u.egress j = s.egress j)
        ∧ (s.safe.active = false → tagHop f = 0 →
          s.Counted u (laneWord i cHOP_DROP) ∧ u.osc.hostq = s.osc.hostq ∧ ∀ j, u.egress j = s.egress j)
        ∧ (s.safe.active = false → tagHop f ≠ 0 →
          (v.Teaches f → s.objAt (tagSrc f) = none → s.quota i ≤ s.used i →
            v.Copied u (v.copyOf i f) (s.floodLanes (tagClass f) i))
          ∧ (¬ v.Teaches f ∨ (∃ e, u.objAt (tagSrc f) = some e ∧ e.lane = i)
              ∨ (∃ e, s.objAt (tagSrc f) = some e ∧ e.static_ = false ∧ v.holdElapsed e = false) →
            (tagDst f = 0xFFFFF → v.Copied u (v.copyOf i f) (s.floodLanes (tagClass f) i))
            ∧ (tagDst f = 0 → v.Copied u (v.copyOf i f) (fun _ => false) ∧ (s.HostRoom (frameLen f) →
              u.osc.hostq = insertHost ⟨i, t, keptInSafe f, f⟩ s.osc.hostq))
            ∧ (tagDst f ≠ 0 → tagDst f ≠ 0xFFFFF → u.objAt (tagDst f) = none →
              s.Counted u (laneWord i cUNKNOWN_FLOOD) ∧ v.Copied u (v.copyOf i f) (s.floodLanes (tagClass f) i))
            ∧ (∀ l, tagDst f ≠ 0 → tagDst f ≠ 0xFFFFF → u.resolveLane (fun n => (s.lane n).link) (tagDst f) = some l →
              (l = i → s.Counted u (laneWord i cFILTER) ∧ v.Copied u (v.copyOf i f) (fun _ => false))
              ∧ (l ≠ i → l < 512 → (s.lane l).link = true → v.Copied u (v.copyOf i f) (fun j => j == l))
              ∧ (l ≠ i → l < 512 → (s.lane l).link = false →
                s.Counted u (laneWord l cNOLINK_DROP) ∧ v.Copied u (v.copyOf i f) (fun _ => false))))))))
  ∧ ∀ (dt : Nat) (o : Order) (a0 : Word) (s s' : State), s' = s.advance dt → s'.Ready → fld a0 2 0 ≠ 0 →
    ∃ u : State, exec (.floodApply dt o a0) s = .next (s.seal dt (u.complete 0x40 1 cDONE o))
      ∧ u.bare s' = s' ∧ u.chain = s'.chain
      ∧ (∀ c w, c < 3 → w < 17 → u.reg (0x40A00 + 0x80 * c + 4 * w)
        = if bit a0 c then s'.reg (0x40800 + 0x80 * c + 4 * w) else s'.reg (0x40A00 + 0x80 * c + 4 * w))
      ∧ ∀ a, (∀ c w, c < 3 → w < 17 → a ≠ 0x40A00 + 0x80 * c + 4 * w) → u.reg a = s'.reg a

/-- Egress (R211, R241 to R245): a copy whose admission instant has come is queued where its queue and the lane have room;
an idle transmitter starts the frame that R244 selects, which leaves its queue, is debited from its bucket and occupies the
transmitter for its octets and 20 more; at its last octet it is counted as sent. The first frame of the host queue leaves on
the port of HOSTQ_CFG in segments of at most 352 words that together are its descriptor and octets (R215, R284), debited from
the host shaper (R252). That TRANSMIT_START stands at the start of the preamble, 8 octets before the frame, is the model's
choice (assumption log 89). A frame on a lane that loops back, unless it is a PTP frame, comes in there 64 ns later instead of
leaving (Table OSC-11). -/
def Obligations.EgressAdmitsAndSends : Prop :=
  ∀ (dt : Nat) (i : Fin 512) (s s' : State), s' = s.advance dt → s'.Ready →
    (∀ f t, (s'.egress i).waiting = f :: t → f.entry ≤ s'.elapsed → (s'.lane i).link = true → f.host = none →
      (s'.egress i).octets (fun x => x.queue == f.queue) + (f.octets.length + 4)
        ≤ (s'.bucket (shaperKey i f.queue)).limit * 1024 →
      (s'.egress i).octets (fun _ => true) + (f.octets.length + 4) ≤ 16384 →
      ∃ u : State, exec (.queueAdmission dt i) s = .next (s.seal dt u)
        ∧ u = { s' with sched := { s'.sched with egress := u.sched.egress } }
        ∧ u.egress i = { s'.egress i with waiting := t, queued := (s'.egress i).queued ++ [f] }
        ∧ ∀ j, j ≠ i.val → u.egress j = s'.egress j)
    ∧ (∀ f, s'.selectFrame i = some f → (s'.egress i).tx = none → (s'.egress i).free ≤ s'.elapsed →
      s'.laneLpbk i = false → f.stamp = .none →
      ∃ u : State, exec (.transmitStart dt i) s = .next (s.seal dt u)
        ∧ u.egress i = { s'.egress i with
          queued := dropFirst f.queue (s'.egress i).queued, tx := some (f, s'.elapsed), late := false
          free := s'.elapsed + 8 * (f.octets.length + 24) * nsUnit }
        ∧ (∀ j, j ≠ i.val → u.egress j = s'.egress j) ∧ u.sent = s'.sent ++ [.lane i s'.elapsed f.octets]
        ∧ (f.queue < 8 → u.bucket (shaperKey i f.queue)
          = ((s'.bucket (shaperKey i f.queue)).at_ s'.elapsedNs).debit (f.octets.length + 24))
        ∧ (∀ k, k ≠ shaperKey i f.queue → k ≠ hostKey → u.bucket k = s'.bucket k)
        ∧ u.regs = s'.regs ∧ u.osc = s'.osc ∧ u.epoch = s'.epoch ∧ u.mem = s'.mem)
    ∧ (∀ f, s'.selectFrame i = some f → (s'.egress i).tx = none → (s'.egress i).free ≤ s'.elapsed →
      s'.laneLpbk i = true → f.stamp = .none → isPtp f.octets = false →
      ∃ u : State, exec (.transmitStart dt i) s = .next (s.seal dt u)
        ∧ u.osc = { s'.osc with loops := insertLoop (s'.elapsed + ns 64) i f.octets s'.osc.loops }
        ∧ (u.egress i).tx = some (f, s'.elapsed) ∧ u.sent = s'.sent ∧ u.regs = s'.regs ∧ u.obj = s'.obj ∧ u.mem = s'.mem)
    ∧ (∀ f t, (s'.egress i).tx = some (f, t) → t + 8 * (f.octets.length + 12) * nsUnit ≤ s'.elapsed →
      ∃ u : State, exec (.transmitEnd dt i) s = .next (s.seal dt u)
        ∧ u.egress i = { s'.egress i with tx := none } ∧ (∀ j, j ≠ i.val → u.egress j = s'.egress j)
        ∧ u.reg (laneWord i 0x0C) = s'.reg (laneWord i 0x0C) + 1
        ∧ s'.RegsBut u [laneWord i 0x0C, laneWord i 0x18, laneWord i 0x1C]
        ∧ u.bare s' = { s' with sched := { s'.sched with egress := u.sched.egress } })
    ∧ (∀ f t (p : Port), s'.osc.hostq = f :: t → p = (if s'.rb Reg.OSC_HOSTQ_CFG 0 then .e1 else .e0) →
      (s'.link p).link = true → ((s'.bucket hostKey).at_ s'.elapsedNs).maySend = true →
      ∃ u : State, exec (.hostFrameDelivery dt) s = .next (s.seal dt u)
        ∧ u.osc = { s'.osc with hostq := t } ∧ u.mem = s'.mem ∧ u.epoch = s'.epoch ∧ u.obj = s'.obj ∧ u.regs = s'.regs
        ∧ u.bucket hostKey = ((s'.bucket hostKey).at_ s'.elapsedNs).debit (frameLen f.octets)
        ∧ ∃ l : List LinkFrame, u.sent = s'.sent ++ l.map (Tx.link p 7 (s'.peer p)) ∧ (l.map (·.payload)).flatten = f.words
          ∧ (∀ g ∈ l, g.payload.length ≤ 352 ∧ g.fcs = .good ∧ g.dev = s'.devAddr)
          ∧ l.map (·.addr) = if f.words.length ≤ 352 then [w32 (2 ^ 31)] else [0, w32 (2 ^ 31 + 352)])

/-! ### Objects -/

/-- A visit of the sweep whose instant has come within its interval ages the entry (R233): a static entry or one that was hit
loses H, one that was not gains A, and one with A is removed and counted; in safe-hold the visit is skipped (R234). An
interval whose end has come ends first, counted and reported, and the next one begins with it (R233). SEARCH and NEXT report
an entry and change none (R235); NEXT with a filter above 512 is BADARG (R6; that 512, the host's place, is a lane it may name
is the model's reading, assumption log 140). The frames of the instant act before the command (assumption log 131). -/
def Obligations.SweepsAgeAndSearchesReport : Prop :=
  ∀ (dt : Nat) (s s' : State), s' = (s.advance dt).settleArrived →
    (∀ (n : Fin 1048576) (w : Sweep), s'.InService → s'.obj.sweep = some w → s'.rb Reg.AGE_CFG 1 = true →
      s'.nowNs < w.start + w.interval * 1000000000 → w.pos ≤ n.val → w.instant n ≤ s'.nowNs →
      ∃ u : State, exec (.sweepVisit dt n) s = .next (s.seal dt u)
        ∧ u.obj.sweep = some { w with pos := n.val + 1 } ∧ (∀ m, m ≠ n.val → u.objAt m = s'.objAt m)
        ∧ (s'.safe.active = true → u.obj = { s'.obj with sweep := some { w with pos := n.val + 1 } } ∧ u.regs = s'.regs)
        ∧ (s'.safe.active = false → ∀ e, s'.objAt n = some e →
          ((e.static_ = true ∨ e.hit = true) → u.objAt n = some { e with hit := false } ∧ u.regs = s'.regs)
          ∧ (e.static_ = false → e.hit = false → e.age = false → u.objAt n = some { e with age := true } ∧ u.regs = s'.regs)
          ∧ (e.static_ = false → e.hit = false → e.age = true → u.objAt n = none ∧ s'.Counted u Reg.AGE_REMOVED_CNT))
        ∧ u.epoch = s'.epoch ∧ u.mem = s'.mem)
    ∧ (∀ (n : Fin 1048576) (w : Sweep), s'.InService → s'.obj.sweep = some w →
      w.start + w.interval * 1000000000 ≤ s'.nowNs →
      ∃ u : State, exec (.sweepVisit dt n) s = .next (s.seal dt u)
        ∧ u.obj.sweeps = (s'.obj.sweeps + 1) % 65536 ∧ u.causeSet 0x6B 0 = true
        ∧ (∃ w' : Sweep, u.obj.sweep = some w' ∧ w'.start = w.start + w.interval * 1000000000
          ∧ w'.interval = s'.rf Reg.AGE_INTERVAL 11 0)
        ∧ (∀ m, m ≠ n.val → u.objAt m = s'.objAt m) ∧ u.epoch = s'.epoch ∧ u.mem = s'.mem)
    ∧ (∀ o a0, s'.Ready → s'.obj.ready = true → s'.obj.flush = none → fld a0 19 0 ≠ 0 → fld a0 19 0 ≠ 0xFFFFF →
      ∃ u : State, exec (.search dt o a0) s = .next (s.seal dt (u.complete 0x6C 1 cDONE o))
        ∧ u.bare s' = s' ∧ u.chain = s'.chain
        ∧ s'.RegsBut u [Reg.MULE_RES_ID, Reg.MULE_RES0, Reg.MULE_RES1, Reg.MULE_RES_PAIR]
        ∧ u.reg Reg.MULE_RES_ID = w32 (flag 31 (s'.objAt (fld a0 19 0)).isSome + fld a0 19 0)
        ∧ u.reg Reg.MULE_RES0 = ((s'.objAt (fld a0 19 0)).map ObjEntry.word0).getD 0)
    ∧ (∀ o a0 a1, s'.Ready → s'.obj.ready = true → s'.obj.flush = none → bit a1 10 = true → 512 < fld a1 9 0 →
      exec (.next dt o a0 a1) s = .next (s.seal dt (s'.complete 0x6C 2 cBADARG o)))
    ∧ (∀ o a0 a1, s'.Ready → s'.obj.ready = true → s'.obj.flush = none → (bit a1 10 = true → fld a1 9 0 ≤ 512) →
      ∃ u : State, exec (.next dt o a0 a1) s = .next (s.seal dt (u.complete 0x6C 2 cDONE o))
        ∧ u.bare s' = s' ∧ u.chain = s'.chain
        ∧ s'.RegsBut u [Reg.MULE_RES_ID, Reg.MULE_RES0, Reg.MULE_RES1, Reg.MULE_RES_PAIR]
        ∧ ∀ n, (s'.obj.objs.map (·.1)).find? (fun n => decide (fld a0 19 0 < n) && (!(bit a1 10) || s'.onLane n (fld a1 9 0)))
            = some n → n < 2 ^ 20 →
          u.reg Reg.MULE_RES_ID = w32 (2 ^ 31 + n) ∧ u.reg Reg.MULE_RES0 = ((s'.objAt n).map ObjEntry.word0).getD 0)

/-- FLUSH_LANE removes every dynamic entry of its lane at once, where R236 has it count as absent while its removal runs
(assumption log 93), and completes at FLUSH_DONE with the number removed (R236);
INSERT_STATIC of an object of one lane makes its entry static, and DELETE removes an entry; each is written to its journal
word before it completes (R237, R238), and no other byte of memory changes. The frames of the instant act before FLUSH_LANE,
INSERT_STATIC and DELETE (assumption log 131). -/
def Obligations.ObjectsAreFlushedInsertedAndDeleted : Prop :=
  ∀ (dt : Nat) (o : Order) (a0 a1 a2 : Word) (s s' : State),
    (s' = (s.advance dt).settleArrived → s'.Ready → s'.obj.ready = true → s'.obj.flush = none →
      (fld a0 9 0 ≤ 511 →
        ∃ u : State, exec (.flushLane dt o a0) s = .next (s.seal dt u)
          ∧ (∃ n, u.obj.flush = some (o, n))
          ∧ (∀ x e, s'.objAt x = some e → e.static_ = false → e.lane = fld a0 9 0 → u.objAt x = none)
          ∧ (∀ x e, s'.objAt x = some e → e.static_ = true → e.dual = none → u.objAt x = some e)
          ∧ u.mem = s'.mem ∧ u.epoch = s'.epoch)
      ∧ (fld a0 19 0 ≠ 0 → fld a0 19 0 ≠ 0xFFFFF → fld a1 9 0 ≤ 512 → fld a1 29 28 ≠ 3 → bit a2 31 = false →
        (bit a1 31 = true → fld a1 9 0 ≠ 512) → s'.nStatic < 16384 →
        ∃ u : State, exec (.insertStatic dt o a0 a1 a2) s = .next (s.seal dt (u.complete 0x6C 4 cDONE o))
          ∧ u.objAt (fld a0 19 0)
            = some ⟨true, false, false, none, bit a1 31, fld a1 9 0, fld a1 29 28, s'.tMs⟩
          ∧ (∀ x, x ≠ fld a0 19 0 → u.objAt x = s'.objAt x)
          ∧ tget noWord u.obj.words (fld a0 19 0) = some (s'.wordFor (fld a0 19 0))
          ∧ (∀ a, a < staticAddr (s'.wordFor (fld a0 19 0)) ∨ staticAddr (s'.wordFor (fld a0 19 0)) + 8 ≤ a →
            Memory.readByte u.mem a = Memory.readByte s'.mem a)
          ∧ u.jrnl.writes = s'.jrnl.writes + 1 ∧ u.epoch = s'.epoch)
      ∧ (∀ e i, fld a0 19 0 ≠ 0 → fld a0 19 0 ≠ 0xFFFFF → s'.objAt (fld a0 19 0) = some e →
        tget noWord s'.obj.words (fld a0 19 0) = some i →
        ∃ u : State, exec (.delete dt o a0) s = .next (s.seal dt (u.complete 0x6C 5 cDONE o))
          ∧ u.objAt (fld a0 19 0) = none ∧ (∀ x, x ≠ fld a0 19 0 → u.objAt x = s'.objAt x)
          ∧ (∀ a, a < staticAddr i ∨ staticAddr i + 8 ≤ a → Memory.readByte u.mem a = Memory.readByte s'.mem a)
          ∧ (∀ a, staticAddr i ≤ a → a < staticAddr i + 8 → Memory.readByte u.mem a = 0)
          ∧ u.jrnl.writes = s'.jrnl.writes + 1 ∧ u.epoch = s'.epoch))
    ∧ (∀ n, s' = s.advance dt → s'.InService → s'.obj.flush = some (o, n) → n < 2 ^ 20 →
      ∃ u : State, exec (.flushDone dt) s = .next (s.seal dt (u.complete 0x6C 3 cDONE o))
        ∧ u.bare s' = { s' with obj := { s'.obj with flush := none } }
        ∧ u.reg Reg.MULE_FLUSH_N = w32 n ∧ s'.Causes u 0x6C 0
        ∧ s'.RegsBut u (Reg.MULE_FLUSH_N :: reportRegs 0x6C)
        ∧ s'.Reported u 0x6C 0x5120 7 0 s'.epoch.act [])

/-! ### Egress scheduling -/

/-- A write of a shaper's or policer's word stores what its table keeps of it and resets that bucket alone, to its depth or
to zero as SCHED.CFG says (R246); COPY gives the words of the selected lane to every lane of its range, with their buckets
reset, and completes with DONE (R254). -/
def Obligations.ShapersAreWrittenAndCopied : Prop :=
  ∀ (dt : Nat) (s s' : State), s' = s.advance dt → s'.Ready →
    (∀ (off : Fin 4096) v k, s'.shaperAt off = some (k, 0) → k < hostKey →
      ∃ u : State, exec (.shaperWrite dt off v) s = .next (s.seal dt u)
        ∧ u = { s' with sched := { s'.sched with buckets := u.sched.buckets } }
        ∧ u.bucket k = { s'.bucket k with
          shp := storeShp v, last := s'.elapsedNs
          tokens := if s'.rb Reg.SCHED_CFG 0 then (((s'.bucket k).depth * 1000000 : Nat) : Int) else 0 }
        ∧ ∀ j, j ≠ k → u.bucket j = s'.bucket j)
    ∧ (∀ (off : Fin 4096) v k, s'.shaperAt off = some (k, 1) → k < hostKey →
      ∃ u : State, exec (.shaperWrite dt off v) s = .next (s.seal dt u)
        ∧ u = { s' with sched := { s'.sched with buckets := u.sched.buckets } }
        ∧ (u.bucket k).burst = storeBurst (decide (k % 11 < 8)) v ∧ (u.bucket k).shp = (s'.bucket k).shp
        ∧ (u.bucket k).tokens = (if s'.rb Reg.SCHED_CFG 0 then ((fld (u.bucket k).burst 16 0 * 1000000 : Nat) : Int) else 0)
        ∧ ∀ j, j ≠ k → u.bucket j = s'.bucket j)
    ∧ (∀ v, ∃ u : State, exec (.shaperWrite dt 0x058 v) s = .next (s.seal dt u)
      ∧ u.reg Reg.SCHED_HOST_SHP = storeHostShp v ∧ s'.RegsBut u [Reg.SCHED_HOST_SHP]
      ∧ u.bare s' = { s' with sched := { s'.sched with buckets := u.sched.buckets } })
    ∧ (∀ o a0 a1, fld a1 9 0 ≠ 0 → fld a0 8 0 + fld a1 9 0 ≤ 512 →
      ∃ u : State, exec (.copy dt o a0 a1) s = .next (s.seal dt (u.complete 0x70 1 cDONE o))
        ∧ u = { s' with sched := { s'.sched with buckets := u.sched.buckets } }
        ∧ ∀ i k, k < 11 → i < 512 →
          (u.bucket (11 * i + k)).shp = (if fld a0 8 0 ≤ i ∧ i < fld a0 8 0 + fld a1 9 0
            then (s'.bucket (11 * s'.rf Reg.SCHED_SEL 8 0 + k)).shp else (s'.bucket (11 * i + k)).shp)
          ∧ (u.bucket (11 * i + k)).burst = (if fld a0 8 0 ≤ i ∧ i < fld a0 8 0 + fld a1 9 0
            then (s'.bucket (11 * s'.rf Reg.SCHED_SEL 8 0 + k)).burst else (s'.bucket (11 * i + k)).burst)
          ∧ (fld a0 8 0 ≤ i ∧ i < fld a0 8 0 + fld a1 9 0 → (u.bucket (11 * i + k)).last = s'.elapsedNs
            ∧ (u.bucket (11 * i + k)).tokens = if s'.rb Reg.SCHED_CFG 0
              then (((s'.bucket (11 * s'.rf Reg.SCHED_SEL 8 0 + k)).depth * 1000000 : Nat) : Int) else 0)
          ∧ (¬ (fld a0 8 0 ≤ i ∧ i < fld a0 8 0 + fld a1 9 0) → u.bucket (11 * i + k) = s'.bucket (11 * i + k)))

/-- GATE_APPLY of sound staging banks makes each pending at the take-over instant of R250, GATE_CANCEL takes every pending
mark of its range away; at that instant the pending bank takes over (R250); the end of an entry, with no frame in
transmission, changes nothing that the device holds, since the entry in force is found from device time (R248, R249). -/
def Obligations.GatesTakeOver : Prop :=
  ∀ (dt : Nat) (s s' : State), s' = s.advance dt →
    (∀ o a0 a1, s'.Ready → fld a1 9 0 ≠ 0 → fld a0 8 0 + fld a1 9 0 ≤ 512 →
      ((∀ i, fld a0 8 0 ≤ i → i < fld a0 8 0 + fld a1 9 0 →
        (s'.gate i).pend = none ∧ s'.badBank i (!(s'.gate i).act) = false) →
        ∃ u : State, exec (.gateApply dt o a0 a1) s = .next (s.seal dt (u.complete 0x71 1 cDONE o))
          ∧ u = { s' with sched := { s'.sched with gates := u.sched.gates, applies := u.sched.applies } }
          ∧ ∀ i, u.gate i = if fld a0 8 0 ≤ i ∧ i < fld a0 8 0 + fld a1 9 0
            then { s'.gate i with pend := some (s'.takeOverAt i (!(s'.gate i).act)) } else s'.gate i)
      ∧ ∃ u : State, exec (.gateCancel dt o a0 a1) s = .next (s.seal dt (u.complete 0x71 2 cDONE o))
        ∧ u = { s' with sched := { s'.sched with gates := u.sched.gates, applies := u.sched.applies } }
        ∧ ∀ i, u.gate i = if fld a0 8 0 ≤ i ∧ i < fld a0 8 0 + fld a1 9 0 then { s'.gate i with pend := none } else s'.gate i)
    ∧ (∀ (i : Fin 512) T, s'.InService → (s'.gate i).pend = some T → T ≤ s'.nowNs →
      ∃ u : State, exec (.gateSwitch dt i) s = .next (s.seal dt u)
        ∧ u.gate i = ⟨!(s'.gate i).act, none, T⟩ ∧ (∀ j, j ≠ i.val → u.gate j = s'.gate j)
        ∧ (∀ first, (first, [i.val]) ∈ s'.sched.applies → u.causeSet 0x71 0 = true)
        ∧ u.mem = s'.mem ∧ u.osc = s'.osc ∧ u.epoch = s'.epoch)
    ∧ (∀ i : Fin 512, s'.InService →
      ((s'.egress i).tx = none → exec (.gateEntryBoundary dt i) s = .next (s.seal dt s'))
      ∧ ∃ u : State, exec (.gateEntryBoundary dt i) s = .next (s.seal dt u)
        ∧ u.gate i = s'.gate i ∧ u.mem = s'.mem ∧ (∀ j, j ≠ i.val → u.egress j = s'.egress j)
        ∧ (u.egress i).queued = (s'.egress i).queued ∧ (u.egress i).tx = (s'.egress i).tx)

/-! ### Network time -/

/-- The commands of page TIME (R265 to R267, R269, R274). SET_TIME answers BADARG to a second's fraction that is none,
REFUSED to the past, and otherwise sets device time; ACCEPT_STEP steps forward by a jump behind the reference and slews back
from one ahead of it at SLEW_MAX, ACCEPT_PATH takes the new path delay, SERVO_RESET ends everything and enters FREERUN, and
where nothing is there to accept they answer LOCKED. A backward slew ends within STEP_LIMIT; the rate it leaves is
a free value (assumption log 29). -/
def Obligations.TimeCommandsSteerTheServo : Prop :=
  ∀ (dt : Nat) (o : Order) (s s' : State), s' = s.advance dt →
    (∀ a0 a1 a2 : Word, s'.Ready →
      (1000000000 ≤ a0.toNat →
        exec (.setTime dt o a0 a1 a2) s = .next (s.seal dt (s'.complete 0x78 1 cBADARG o)))
      ∧ (a0.toNat < 1000000000 →
        ((fld a2 15 0 * 2 ^ 32 + a1.toNat) * 1000000000 + a0.toNat) * nsUnit < s'.now →
        exec (.setTime dt o a0 a1 a2) s = .next (s.seal dt (s'.complete 0x78 1 cREFUSED o)))
      ∧ ∀ t, t = ((fld a2 15 0 * 2 ^ 32 + a1.toNat) * 1000000000 + a0.toNat) * nsUnit → a0.toNat < 1000000000 →
        s'.now ≤ t → s'.epoch.held = none →
        ∃ u : State, exec (.setTime dt o a0 a1 a2) s = .next (s.seal dt (u.complete 0x78 1 cDONE o))
          ∧ u.now = t ∧ u.clock.elapsed = s'.elapsed ∧ u.clock.rate = s'.clock.rate
          ∧ u.time = { s'.time with
            servo := { s'.time.servo with set := true }
            lastStep := if t = s'.now then s'.time.lastStep else t }
          ∧ (s'.now < t → s'.Counted u Reg.TIME_STEP_CNT ∧ u.causeSet 0x78 2 = true)
          ∧ u.epoch = s'.epoch ∧ u.bell = s'.bell ∧ u.elems = s'.elems)
    ∧ (s'.Ready →
      (s'.time.servo.jump = none →
        exec (.acceptStep dt o) s = .next (s.seal dt (s'.complete 0x78 2 cLOCKED o)))
      ∧ (∀ j, s'.time.servo.jump = some j → 0 ≤ j →
        ∃ u : State, exec (.acceptStep dt o) s = .next (s.seal dt (u.complete 0x78 2 cDONE o))
          ∧ u.time.servo.jump = none ∧ u.time.servo.slew = some j ∧ u.time.servo.slewAt = s'.elapsed
          ∧ u.clock = { s'.clock with rate := -(s'.slewMax : Int) }
          ∧ u.time.servo.state = { s'.time.servo with jump := none }.released
          ∧ u.time.path = s'.time.path ∧ u.epoch = s'.epoch ∧ u.elems = s'.elems ∧ u.mem = s'.mem)
      ∧ (∀ j, s'.time.servo.jump = some j → j < 0 → s'.epoch.held = none →
        ∃ u : State, exec (.acceptStep dt o) s = .next (s.seal dt (u.complete 0x78 2 cDONE o))
          ∧ u.time.servo.jump = none ∧ u.now = s'.now + j.natAbs ∧ u.time.lastStep = u.now
          ∧ u.clock.rate = s'.clock.rate ∧ s'.Counted u Reg.TIME_STEP_CNT ∧ u.causeSet 0x78 2 = true
          ∧ u.time.servo.state = { s'.time.servo with jump := none }.released
          ∧ u.time.path = s'.time.path ∧ u.epoch = s'.epoch ∧ u.elems = s'.elems)
      ∧ (s'.time.servo.path = false →
        exec (.acceptPath dt o) s = .next (s.seal dt (s'.complete 0x78 3 cLOCKED o)))
      ∧ (s'.time.servo.path = true →
        ∃ u : State, exec (.acceptPath dt o) s = .next (s.seal dt (u.complete 0x78 3 cDONE o))
          ∧ u.bare s' = { s' with time := u.time }
          ∧ u.time.path = ⟨s'.time.path.new, none, 0, 0, [], false⟩ ∧ u.time.servo.path = false
          ∧ u.time.servo.state = { s'.time.servo with path := false }.released
          ∧ s'.Reported u 0x79 0x6007 7 0 s'.epoch.act [])
      ∧ ∃ u : State, exec (.servoReset dt o) s = .next (s.seal dt (u.complete 0x78 4 cDONE o))
        ∧ u.clock = { s'.clock with rate := 0 }
        ∧ u.time.servo.integ = 0 ∧ u.time.servo.jump = none ∧ u.time.servo.path = false ∧ u.time.servo.slew = none
        ∧ u.time.servo.state = 0 ∧ u.time.path.suspended = false ∧ u.time.path.d = s'.time.path.d
        ∧ u.bare s' = { s' with time := u.time, clock := u.clock })
    ∧ (∀ j, s'.InService → s'.time.servo.slew = some j → s'.slewLeft.natAbs ≤ s'.stepLimit →
      ∃ u : State, exec (.backwardSlewEnd dt) s = .next (s.seal dt u)
        ∧ u = { s' with
          time := { s'.time with servo := { s'.time.servo with slew := none } }
          clock := { s'.clock with rate := u.clock.rate } })

/-- The sources of time (R264, R270, R274): loss of TREF, and two seconds without an accepted PPS edge where PPS is the
source, put the servo in HOLDOVER; TREF's return for 1 s ends its cause; the time base locks at the end of a reset; an
Announce timeout on a port that is no master port (assumption log 31) forgets the masters of its lane not heard from in time,
and the loss of the slave port is FREERUN before the first lock and a holdover cause after it (R264; that it is so however the
port was lost is assumption log 142). -/
def Obligations.TimeSourcesComeAndGo : Prop :=
  ∀ (dt : Nat) (s s' : State), s' = s.advance dt → s'.InService →
    (s'.time.servo.tref = false →
      ∃ u : State, exec (.trefLoss dt) s = .next (s.seal dt u)
        ∧ u.bare s' = { s' with
          time := { s'.time with
            trefOk := false, lossAt := s'.elapsed
            servo := { s'.time.servo with tref := true, state := 3, locks := u.time.servo.locks } } }
        ∧ s'.Counted u Reg.TIME_TREF_LOSS_CNT ∧ u.causeSet 0x78 3 = true
        ∧ s'.RegsBut u (Reg.TIME_TREF_LOSS_CNT :: Reg.TIME_HOLD_CNT :: reportRegs 0x78)
        ∧ s'.Reported u 0x78 0x6001 7 0 s'.epoch.act (pay [0]))
    ∧ (∀ f25, s'.time.servo.tref = true → s'.time.lossAt + us 1000000 ≤ s'.elapsed →
      ∃ u : State, exec (.trefRestore dt f25) s = .next (s.seal dt u)
        ∧ u.bare s' = { s' with
          time := { s'.time with
            trefOk := true
            f25 := f25
            servo := { s'.time.servo with
              tref := false, state := { s'.time.servo with tref := false }.released, locks := u.time.servo.locks } } }
        ∧ s'.RegsBut u (reportRegs 0x78) ∧ s'.Reported u 0x78 0x6001 7 0 s'.epoch.act (pay [1]))
    ∧ (∀ f25, s'.time.servo.tref = false → s'.time.trefOk = false →
      ∃ u : State, exec (.timeBasePllLock dt f25) s = .next (s.seal dt u)
        ∧ u = { s' with time := { s'.time with trefOk := true, f25 := f25 } })
    ∧ (s'.rf Reg.TIME_CFG 29 28 = 1 → s'.time.servo.noPps = false → s'.time.edge.getD 0 + 2 * second ≤ s'.elapsed →
      ∃ u : State, exec (.noPps dt) s = .next (s.seal dt u)
        ∧ u.bare s' = { s' with
          time := { s'.time with servo := { s'.time.servo with noPps := true, state := 3, locks := u.time.servo.locks } } }
        ∧ s'.RegsBut u (Reg.TIME_HOLD_CNT :: reportRegs 0x78))
    ∧ (∀ (i : Fin 512) (t : Nat), s'.masterPort i = false → s'.heardAt i = some t → t + s'.announceTime ≤ s'.elapsed →
      ∃ u : State, exec (.announceTimeout dt i) s = .next (s.seal dt u)
        ∧ u.bare s' = { s' with time := u.time }
        ∧ u.ptpPort i = { s'.ptpPort i with
          masters := (s'.ptpPort i).masters.filter fun f => decide (s'.elapsed < f.at_ + s'.announceTime) }
        ∧ (∀ j, j ≠ i.val → u.ptpPort j = s'.ptpPort j)
        ∧ s'.Counted u Reg.PTP_ANNOUNCE_TO_CNT ∧ u.causeSet 0x79 2 = true
        ∧ (s'.time.slave = some i.val → u.time.slave = none → s'.rf Reg.TIME_CFG 29 28 = 0 →
          (s'.time.servo.everLocked = true → u.time.servo.noMaster = true ∧ u.time.servo.state = 3)
          ∧ (s'.time.servo.everLocked = false → s'.time.servo.hcause = 0 → u.time.servo.state = 0)))

/-- PPS and the clock's own messages (R260, R263, R272, R273): an input edge within half a second of the last accepted one
is a glitch, any other is accepted with its stamp and error, and as the time source it drives the servo; a missing edge is
counted (both intervals are measured on the elapsed-time counter, assumption log 100); the output pulse rises within 10 ns of
its boundary and falls after its width; from READY on a member lane's own PTP message of each kind leaves with the next
sequence of its kind (R275), its octets laid out as IEEE 1588 has them (assumption log 31). -/
def Obligations.PulsesAndMessagesAreTimed : Prop :=
  ∀ (dt : Nat) (s s' : State), s' = s.advance dt → s'.InService →
    (s'.rb Reg.PPS_CFG 30 = true →
      (∀ e, s'.time.edge = some e → s'.elapsed < e + second / 2 →
        ∃ u : State, exec (.ppsInEdge dt) s = .next (s.seal dt u)
          ∧ u.bare s' = s' ∧ s'.Counted u Reg.PPS_IN_GLITCH_CNT ∧ s'.RegsBut u [Reg.PPS_IN_GLITCH_CNT])
      ∧ (∀ t err : Int, (∀ e, s'.time.edge = some e → e + second / 2 ≤ s'.elapsed) →
        t = (s'.now : Int) + sx 16 (s'.rf Reg.PPS_IN_COMP 15 0) * nsUnit → err = (nearSecond t).2 →
        (s'.rf Reg.TIME_CFG 29 28 ≠ 1 →
          ∃ u : State, exec (.ppsInEdge dt) s = .next (s.seal dt u)
            ∧ u.bare s' = { s' with time := u.time }
            ∧ u.time.edge = some s'.elapsed ∧ u.time.stamp = t.toNat ∧ u.time.err = err ∧ u.time.servo.noPps = false
            ∧ u.time.servo.state
              = (if s'.time.servo.noPps then { s'.time.servo with noPps := false }.released else s'.time.servo.state)
            ∧ u.time.path = s'.time.path ∧ u.time.ports = s'.time.ports
            ∧ (s'.time.servo.noPps = false →
              u = { s' with time := { s'.time with edge := some s'.elapsed, stamp := t.toNat, err := err } }))
        ∧ (s'.rf Reg.TIME_CFG 29 28 = 1 → s'.time.servo.path = false → s'.time.path.suspended = false →
          s'.time.servo.slew = none → s'.time.servo.jump = none → err.natAbs ≤ s'.stepLimit →
          ∃ u : State, exec (.ppsInEdge dt) s = .next (s.seal dt u)
            ∧ u.time.edge = some s'.elapsed ∧ u.time.stamp = t.toNat ∧ u.time.err = err
            ∧ u.time.servo.offset = err ∧ u.time.servo.noPps = false ∧ u.time.servo.cand = none
            ∧ u.bare s' = { s' with time := u.time, clock := u.clock }
            ∧ (s'.time.servo.state ≠ 3 → ∀ (m p i : Int), m = s'.slewMax →
              p = tdiv (s'.rf Reg.TIME_KP 15 0 * err) 256 →
              i = clampI (-m) m (s'.time.servo.integ + tdiv (s'.rf Reg.TIME_KI 15 0 * err) 256) →
              u.time.servo.integ = i ∧ u.clock = { s'.clock with rate := clampI (-m) m (-(p + i)) })))
      ∧ (max (s'.time.edge.getD 0) s'.time.missAt + second ≤ s'.elapsed →
        ∃ u : State, exec (.ppsInMiss dt) s = .next (s.seal dt u)
          ∧ u.bare s' = { s' with time := { s'.time with missAt := s'.elapsed } }
          ∧ s'.Counted u Reg.PPS_IN_MISS_CNT ∧ s'.RegsBut u [Reg.PPS_IN_MISS_CNT]))
    ∧ (∀ k d : Int, (k, d) = nearSecond ((s'.now : Int) - sx 16 (s'.rf Reg.PPS_OUT_COMP 15 0) * nsUnit) →
      s'.rb Reg.PPS_CFG 31 = true → (s'.time.trefOk = true ∨ s'.time.ppsSec.isSome = true) →
        d.natAbs ≤ 10 * nsUnit → s'.time.ppsSec ≠ some k.toNat →
      s'.time.ppsOut = false →
      ∃ u : State, exec (.ppsOutPulse dt) s = .next (s.seal dt u)
        ∧ u = { s' with
          time := { s'.time with ppsOut := true, ppsAt := s'.elapsed, ppsSec := some k.toNat }
          sent := s'.sent ++ [.pps true s'.now] })
    ∧ (s'.time.ppsOut = true → s'.time.ppsAt + us (s'.rf Reg.PPS_OUT_WIDTH 19 0) ≤ s'.elapsed →
      ∃ u : State, exec (.ppsOutWidthEnd dt) s = .next (s.seal dt u)
        ∧ u = { s' with
          time := { s'.time with ppsOut := false }, sent := s'.sent ++ [.pps false s'.now] })
    ∧ ∀ (i : Fin 512) (kind : PtpKind) (ty : Nat), s'.dev.state = 1 → s'.ptpMember i = true →
      (ty = match kind with | .announce => 11 | .sync => 0 | .delayReq => 1 | .pdelayReq => 2) →
      (match kind with
        | .announce => s'.masterPort i = true
        | .sync => s'.masterPort i = true
        | .delayReq => (s'.role = 3 ∨ s'.role = 4) ∧ s'.time.slave = some i.val ∧ s'.peerDelay = false
        | .pdelayReq => s'.peerDelay = true ∧ s'.role ≤ 4) →
      ∃ u : State, exec (.ptpMessageSend dt i kind) s = .next (s.seal dt u)
        ∧ u = { s' with
          time := { s'.time with ports := u.time.ports }, sched := { s'.sched with egress := u.sched.egress } }
        ∧ (∀ j, j ≠ i.val → u.ptpPort j = s'.ptpPort j ∧ u.egress j = s'.egress j)
        ∧ u.ptpPort i = { s'.ptpPort i with
          seqs := tset (fun _ => 0) (s'.ptpPort i).seqs ty ((tget (fun _ => 0) (s'.ptpPort i).seqs ty + 1) % 65536) }
        ∧ ∃ q : QFrame, u.egress i = { s'.egress i with waiting := insertCopy q (s'.egress i).waiting }
          ∧ octets q.octets 12 2 = [0x88, 0xF7] ∧ octets q.octets 14 1 = [BitVec.ofNat 8 ty]
          ∧ octets q.octets 44 2 = octBE 2 (tget (fun _ => 0) (s'.ptpPort i).seqs ty)

/-! ### The Ehreri link -/

/-- A port's link (R277, R303): block lock begins the 1 ms at whose end LINK rises; loss of block lock, and hi_ber, take LINK
down; each change, an entry to hi_ber and an uncorrectable codeword are counted and reported. EHR_CFG_WRITE stores CFG,
answers BUSY where it changes ORDER while requests are outstanding, and takes the line down where it changes FEC_EN or LPBK
(assumption log 37). That block lock and FEC alignment rise and fall together is assumption log 73, and that BLOCK_LOCK ends
hi_ber assumption log 163. -/
def Obligations.LinksRiseAndFall : Prop :=
  ∀ (dt : Nat) (p : Port) (s s' : State), s' = s.advance dt → s'.InService →
    (∃ u : State, exec (.blockLock dt p) s = .next (s.seal dt u)
      ∧ u = s'.setLink p { s'.link p with
        blockLock := true, fecAlign := s'.fecEn p, hiBer := false, since := some ((s'.link p).since.getD s'.elapsed) })
    ∧ (∀ t, (s'.link p).since = some t → (s'.link p).link = false → t + us 1000 ≤ s'.elapsed →
      ∃ u : State, exec (.ehrLinkUp dt p) s = .next (s.seal dt u)
        ∧ u.bare s' = s' ∧ u.sent = s'.sent ∧ u.link p = { s'.link p with link := true }
        ∧ u.link (otherPort p) = s'.link (otherPort p) ∧ s'.Causes u (ehrPage p) 0 ∧ s'.RegsBut u (reportRegs (ehrPage p))
        ∧ s'.Reported u (ehrPage p) 0x7000 7 0 s'.epoch.act (pay [portNum p]))
    ∧ ((s'.link p).link = true →
      (∃ u : State, exec (.ehrLinkDown dt p) s = .next (s.seal dt u)
        ∧ u.bare s' = s' ∧ u.sent = s'.sent
        ∧ u.link p = { s'.link p with blockLock := false, fecAlign := false, since := none, link := false }
        ∧ u.link (otherPort p) = s'.link (otherPort p) ∧ s'.Counted u (Reg.EHR_LINK_DOWN_CNT p)
        ∧ s'.Causes u (ehrPage p) 0 ∧ s'.RegsBut u (Reg.EHR_LINK_DOWN_CNT p :: reportRegs (ehrPage p))
        ∧ s'.Reported u (ehrPage p) 0x7001 7 0 s'.epoch.act (pay [portNum p]))
      ∧ ((s'.link p).hiBer = false →
        ∃ u : State, exec (.hiBer dt p) s = .next (s.seal dt u)
          ∧ u.bare s' = s' ∧ u.sent = s'.sent
          ∧ u.link p = { s'.link p with hiBer := true, since := none, link := false }
          ∧ u.link (otherPort p) = s'.link (otherPort p) ∧ s'.Counted u (Reg.EHR_HI_BER_CNT p)
          ∧ s'.Counted u (Reg.EHR_LINK_DOWN_CNT p) ∧ u.causeSet (ehrPage p) 0 = true ∧ u.causeSet (ehrPage p) 1 = true
          ∧ s'.RegsBut u (Reg.EHR_HI_BER_CNT p :: Reg.EHR_LINK_DOWN_CNT p :: reportRegs (ehrPage p))))
    ∧ (∃ u : State, exec (.fecUncorr dt p) s = .next (s.seal dt u)
      ∧ u.bare s' = s' ∧ u.sent = s'.sent ∧ (∀ q, u.link q = s'.link q) ∧ s'.Counted u (Reg.EHR_FEC_UNCORR_CNT p)
      ∧ s'.Causes u (ehrPage p) 2 ∧ s'.RegsBut u (Reg.EHR_FEC_UNCORR_CNT p :: reportRegs (ehrPage p)))
    ∧ ∀ v : Word,
      (bit v 30 ≠ s'.strict p → (s'.link p).out ≠ [] →
        exec (.ehrCfgWrite dt p v) s = .next (s.seal dt s'))
      ∧ ((bit v 30 = s'.strict p ∨ (s'.link p).out = []) →
        (bit v 31 = s'.fecEn p → bit v 29 = s'.ehrLpbk p →
          exec (.ehrCfgWrite dt p v) s
            = .next (s.seal dt (s'.setReg (Reg.EHR_CFG p) (v &&& 0xE0000000))))
        ∧ ((bit v 31 ≠ s'.fecEn p ∨ bit v 29 ≠ s'.ehrLpbk p) →
          ∃ u : State, exec (.ehrCfgWrite dt p v) s = .next (s.seal dt u)
            ∧ u.bare s' = s' ∧ u.sent = s'.sent ∧ u.reg (Reg.EHR_CFG p) = v &&& 0xE0000000
            ∧ u.link p = { s'.link p with blockLock := false, fecAlign := false, since := none, link := false }
            ∧ u.link (otherPort p) = s'.link (otherPort p)
            ∧ s'.RegsBut u (Reg.EHR_CFG p :: Reg.EHR_LINK_DOWN_CNT p :: reportRegs (ehrPage p))))

/-- Requests that read and write (R279 to R283): a READ of words that read as their present value is answered with them; an
RMW writes the old value with the masked bits replaced and answers the old value; a WRITE and a WRITE_POSTED apply their
words in ascending order, one that sets INT_MASK of an occupied page is answered DONE, and a posted one without ACKREQ is not
answered; a COMMAND issues the opcode in its first word with the words after it as arguments. -/
def Obligations.RequestsReadAndWrite : Prop :=
  ∀ (dt : Nat) (p : Port) (f : LinkFrame) (s s' : State) (a fin : Nat) (t : Target), s' = s.advance dt →
    a = f.addr.toNat → locate a = (t, fin) →
    (s'.Takes p 0 f → f.len ≠ 0 → malformed 0 f t fin = false →
      (∀ i, i < f.len.toNat → s'.plainWord (a + 4 * i) t = true) →
      ∃ u : State, exec (.read dt p f) s = .next (s.seal dt u)
        ∧ u.bare s' = s' ∧ u.regs = s'.regs ∧ u.chain = s'.chain
        ∧ s'.Answers u p f cDONE ((List.range f.len.toNat).map fun i => (s'.taken p 0 f).present (a + 4 * i) t))
    ∧ (∀ old r, s'.Takes p 3 f → malformed 3 f t fin = false → s'.plainWord a t = true →
      old = (s'.taken p 3 f).present a t →
      r = (s'.taken p 3 f).hostWrite ⟨p, f.seq, some f.tid⟩ a
        [(old &&& ~~~(f.payload.getD 0 0)) ||| (f.payload.getD 1 0 &&& f.payload.getD 0 0)] →
      exec (.rmw dt p f) s = .next (s.seal dt (r.1.reply p 3 f r.2 [old])))
    ∧ (f.len ≠ 0 → malformed 1 f t fin = false →
      (∀ r, s'.Takes p 1 f →
        r = (s'.taken p 1 f).hostWrite ⟨p, f.seq, some f.tid⟩ a (f.payload.take f.len.toNat) →
        exec (.write dt p f) s = .next (s.seal dt (r.1.reply p 1 f r.2 [])))
      ∧ (∀ r, s'.Takes p 2 f →
        r = (s'.taken p 2 f).hostWrite ⟨p, f.seq, some f.tid⟩ a (f.payload.take f.len.toNat) →
        exec (.writePosted dt p f) s = .next (s.seal dt (r.1.reply p 2 f r.2 [])))
      ∧ ∀ n v, f.len = 1 → f.payload = [v] → a = Reg.base n + 0x014 → n < 128 → (pageInfo n).isSome = true →
        (s'.Takes p 1 f → ∃ u : State, exec (.write dt p f) s = .next (s.seal dt u)
          ∧ u.bare s' = s' ∧ u.chain = s'.chain ∧ u.reg a = v ∧ s'.RegsBut u [a] ∧ s'.Answers u p f cDONE [])
        ∧ (s'.Takes p 2 f → f.ackreq = false → ∃ u : State, exec (.writePosted dt p f) s = .next (s.seal dt u)
          ∧ u.bare s' = s' ∧ u.chain = s'.chain ∧ u.reg a = v ∧ s'.RegsBut u [a] ∧ u.sent = s'.sent
          ∧ u.link p = { s'.link p with rxTrans := ((s'.link p).rxTrans + 1) % 2 ^ 48 }))
    ∧ (∀ n i, s'.Takes p 4 f → f.len ≠ 0 → malformed 4 f t fin = false → t = .page n i → i.cmd ≠ 0 →
      a % 0x1000 = i.cmd →
      exec (.command dt p f) s = .next (s.seal dt ((s'.taken p 4 f).issueCommand n
        ((f.payload.take f.len.toNat).getD 0 0) ⟨p, f.seq, some ⟨f.tid, f.src, f.addr, true⟩⟩
        ((f.payload.take f.len.toNat).drop 1))))

/-- What else goes over the link (R279, R280, R284, R286, R287, R294 to R296): PING answers serial number and address, or
BADARG where its header is none; an opcode no host sends is answered BADARG; a frame for another device, and any RESPONSE,
EVENT or device FRAME, is passed on with HOPS incremented, or counted where the other port has no LINK; a segment that follows
what came before is stored; ENUM hands out addresses and tells their number, answers NOROOM to N = 64 and BADARG to a larger
one (R6); whole event records leave in one EVENT transaction. That a frame of device 0xFF or with BCAST is one to all is
assumption log 71, that an ENUM acts as one whatever its BCAST assumption log 39. What is passed on to a port in loopback
comes back there (assumption log 72). -/
def Obligations.FramesTravelTheLink : Prop :=
  ∀ (dt : Nat) (p : Port) (f : LinkFrame) (s s' : State), s' = s.advance dt →
    (s'.Takes p 9 f → crooked f = true →
      ∃ u : State, exec (.ping dt p f) s = .next (s.seal dt u)
        ∧ u.bare s' = s' ∧ u.regs = s'.regs ∧ u.chain = s'.chain ∧ s'.Answers u p f cBADARG [])
    ∧ (s'.Takes p 9 f → crooked f = false →
      ∃ u : State, exec (.ping dt p f) s = .next (s.seal dt u)
        ∧ u.bare s' = s' ∧ u.regs = s'.regs ∧ u.chain = s'.chain
        ∧ s'.Answers u p f cDONE [w32 (serial s'.fuse), w32 (serial s'.fuse / 2 ^ 32),
          w32 (2 ^ 31 + flag 30 s'.chain.ring + at_ 29 28 s'.lifeState + at_ 14 8 s'.chain.count + at_ 5 0 s'.chain.addr)])
    ∧ (∀ op : BitVec 4, (op = 5 ∨ op = 6 ∨ 10 ≤ op.toNat) → s'.Takes p op f →
      ∃ u : State, exec (.invalidOpcode dt p op f) s = .next (s.seal dt u)
        ∧ u.bare s' = s' ∧ u.regs = s'.regs ∧ u.chain = s'.chain ∧ s'.Answers u p f cBADARG [])
    ∧ (∀ op : BitVec 4, 2 ≤ s'.lifeState → f.fcs = .good → headed f = true →
      (op = 5 ∨ op = 6 ∨ op = 7 ∨ toAll op f = true ∨ s'.named f = false) → (s'.link p).link = true → s'.ehrLpbk p = false →
      ((s'.link (otherPort p)).link = true → ∃ u : State, exec (.forward dt p op f) s = .next (s.seal dt u)
        ∧ (s'.ehrLpbk (otherPort p) = false →
          u = { s' with sent := s'.sent ++ [.forward (otherPort p) op { f with hops := f.hops + 1 }] })
        ∧ (s'.ehrLpbk (otherPort p) = true →
          u.bare s' = s' ∧ u.sent = s'.sent ++ [.forward (otherPort p) op { f with hops := f.hops + 1 }]
            ∧ u.link p = s'.link p ∧ u.regs = s'.regs ∧ u.chain = s'.chain
            ∧ u.link (otherPort p) = { s'.link (otherPort p) with
              looped := (s'.link (otherPort p)).looped ++ [(op, { f with hops := f.hops + 1 })] }))
      ∧ ((s'.link (otherPort p)).link = false →
        exec (.forward dt p op f) s = .next (s.seal dt (s'.count (Reg.EHR_FWD_DROP_CNT p)))))
    ∧ (s'.Takes p 7 f → f.addr.toNat % 4 = 0 → f.len ≠ 0 → f.len.toNat ≤ f.payload.length → f.len.toNat ≤ 352 →
      bit f.addr 31 = false →
      fld f.addr 9 0 = (if (s'.link p).asmOpen then (s'.link p).asm.length else 0) →
      ∃ u : State, exec (.frame dt p f) s = .next (s.seal dt u)
        ∧ u = s'.setLink p { s'.link p with
          rxTrans := ((s'.link p).rxTrans + 1) % 2 ^ 48
          asmOpen := true
          asm := (if (s'.link p).asmOpen then (s'.link p).asm else []) ++ f.payload.take f.len.toNat })
    ∧ (∀ w l, s'.InService → f.fcs = .good → headed f = true → crooked f = false → f.len ≠ 0 → f.payload = w :: l →
      s'.Admits .e0 f → s'.e0.link = true → s'.ehrLpbk .e0 = false →
      (bit w 31 = false → fld w 6 0 ≤ 63 →
        ∃ u : State, exec (.enumAssign dt .e0 f) s = .next (s.seal dt u)
          ∧ u.bare s' = s' ∧ u.chain.enumerated = true ∧ u.chain.addr = fld w 6 0
          ∧ u.chain.ring = s'.chain.ring ∧ u.chain.count = s'.chain.count
          ∧ s'.Counted u Reg.CHAIN_ENUM_CNT ∧ u.causeSet 0x0D 0 = true
          ∧ (s'.e1.link = true → u.sent = s'.sent ++ [.forward .e1 8 { f with hops := f.hops + 1, payload := (w + 1) :: l }])
          ∧ (s'.e1.link = false → ∃ r : LinkFrame, u.sent = s'.sent ++ [.link .e0 5 f.src r]
            ∧ r.tid = f.tid ∧ r.code = 0 ∧ r.payload = [w32 (fld w 6 0 + 1)]))
      ∧ (bit w 31 = false → 64 ≤ fld w 6 0 →
        ∃ u : State, exec (.enumAssign dt .e0 f) s = .next (s.seal dt u)
          ∧ u.bare s' = s' ∧ u.regs = s'.regs ∧ u.chain = s'.chain
          ∧ ∃ r : LinkFrame, u.sent = s'.sent ++ [.link .e0 5 f.src r] ∧ r.tid = f.tid ∧ r.payload = []
            ∧ r.code = BitVec.ofNat 8 (if fld w 6 0 = 64 then cNOROOM else cBADARG))
      ∧ (bit w 31 = true → s'.chain.enumerated = true → 1 ≤ fld w 6 0 → fld w 6 0 ≤ 64 → f.ackreq = false →
        s'.e1.link = true →
        ∃ u : State, exec (.enumFinal dt .e0 f) s = .next (s.seal dt u)
          ∧ u.bare s' = s' ∧ u.regs = s'.regs
          ∧ u.chain = { s'.chain with count := fld w 6 0, ring := bit w 30 }
          ∧ u.sent = s'.sent ++ [.forward .e1 8 { f with hops := f.hops + 1 }]))
    ∧ (∀ n k, s'.InService → s'.eventPort = some p → k = fitting n 352 s'.chain.queue → k ≠ 0 → s'.chain.queue.length ≤ 1024 →
      ∃ u : State, exec (.eventSend dt n) s = .next (s.seal dt u)
        ∧ u.bare s' = s'
        ∧ (∃ r : LinkFrame, u.sent = s'.sent ++ [.link p 6 (s'.peer p) r]
          ∧ r.payload = (s'.chain.queue.take k).flatMap Event.words ∧ r.evt = true
          ∧ r.seq = BitVec.ofNat 16 (s'.link p).txSeq)
        ∧ (u.link p).txSeq = ((s'.link p).txSeq + 1) % 65536
        ∧ (s'.chain.dropped = 0 → u.chain = { s'.chain with queue := s'.chain.queue.drop k } ∧ u.regs = s'.regs)
        ∧ (s'.chain.dropped ≠ 0 → u.chain.dropped = 0 ∧ s'.Causes u 0x0D 1))

/-! ### Register pages -/

/-- Writes and reads of registers (R305, R308, R312, R314 to R317, R319): words are applied in ascending order by the port
that writes them; INT_CAUSE is cleared and a counter zeroed by 1s, what happens at that device time setting, sending its event
and counting after the clear, INT_MASK stores, and EHRn.PEER takes both its words at once; a read of word 0 of a multi-word
value latches the upper words, one of WAIT_MAX clears it, any other plain read changes nothing; INT_FORCE sets assigned causes
only; a soft reset returns the page's mask, key and counters (that what page DRV and page LEARN show through a selector
returns whole is assumption log 143); a page that does not exist counts on page DEV; MTX.PARK stores only masters that have a
path; MASTER_RESET, and a soft reset of page DEV, which resets every master (R302), count a burst they cut off (which beats
there are is the command's operand, or left open, assumption log 45). That REGISTER_WRITE and MULTIWORD_WRITE are neither
answered nor counted as a transaction, and that the latter has SEQ 0, is the model's choice (assumption log 16). -/
def Obligations.RegistersAreWritten : Prop :=
  ∀ (dt : Nat) (p : Port) (s s' : State), s' = s.advance dt → s'.Ready →
    (∀ (seq : BitVec 16) (addr : Fin 131072) (v : Word) (n : Nat) (i : PageInfo), n = 4 * addr.val / 0x1000 →
      pageInfo n = some i →
      (exec (.registerWrite dt p seq addr v) s = .next (s.seal dt (s'.hostWrite ⟨p, seq, none⟩ (4 * addr.val) [v]).1))
      ∧ (4 * addr.val % 0x1000 = 0x010 → ∃ u : State, exec (.registerWrite dt p seq addr v) s = .next (s.seal dt u)
        ∧ u.bare s' = s' ∧ u.sent = s'.sent ∧ (∀ q, u.link q = s'.link q)
        ∧ u.reg (4 * addr.val) = (s'.reg (4 * addr.val) &&& ~~~v) ||| w32 (s'.nowAt (4 * addr.val))
        ∧ s'.RegsBut u (reportRegs n)
        ∧ (s'.chain.withheld = [] → u.chain = s'.chain ∧ s'.RegsBut u [4 * addr.val])
        ∧ ∀ w ∈ s'.chain.withheld, w.time = s'.now → w.page = n → bit v w.bit = true → s'.formed n w.code = true →
          s'.chain.queue.length + s'.chain.withheld.length ≤ 1024 →
          (⟨w.code, 7, 0, s'.epoch.act, s'.now, w.payload, 0⟩ : Event) ∈ u.chain.queue)
      ∧ (4 * addr.val % 0x1000 = 0x014 → exec (.registerWrite dt p seq addr v) s
        = .next (s.seal dt (s'.setReg (4 * addr.val) v)))
      ∧ (∀ r ∈ blockRows n, r.off = 4 * addr.val % 0x1000 → r.counter = true → i.cmd ≠ r.off →
        s'.hookWrite none (4 * addr.val) v = none → bit v 31 = true →
        exec (.registerWrite dt p seq addr v) s
          = .next (s.seal dt (s'.setReg (4 * addr.val) (s'.cleared (4 * addr.val))))))
    ∧ (∀ (addr : Fin 131072) (vs : List Word), (pageInfo (4 * addr.val / 0x1000)).isSome = true →
      4 * addr.val % 0x1000 + 4 * vs.length ≤ 0x1000 →
      exec (.multiwordWrite dt p addr vs) s = .next (s.seal dt (s'.hostWrite ⟨p, 0, none⟩ (4 * addr.val) vs).1)
      ∧ ∀ q lo hi, 4 * addr.val = Reg.EHR_PEER_LO q → vs = [lo, hi] →
        ∃ u : State, exec (.multiwordWrite dt p addr vs) s = .next (s.seal dt u)
          ∧ u.bare s' = s' ∧ u.sent = s'.sent ∧ u.chain = s'.chain
          ∧ u.reg (Reg.EHR_PEER_LO q) = lo ∧ u.reg (Reg.EHR_PEER_HI q) = hi &&& 0xFFFF
          ∧ s'.RegsBut u [Reg.EHR_PEER_LO q, Reg.EHR_PEER_HI q])
    ∧ (∀ (addr : Word) (t : Target), t = (locate addr.toNat).1 → addr.toNat % 4 = 0 →
      (∀ n, groupOf addr.toNat t = some (addr.toNat, n) → s'.unready addr.toNat t = false → t ≠ .nowhere →
        ∃ u : State, exec (.snapshotRead dt p addr) s = .next (s.seal dt u)
          ∧ u = s'.setLink p { s'.link p with snap := (u.link p).snap }
          ∧ ∀ k, k + 1 < n → (u.link p).snap.find? (fun x => x.addr == addr.toNat + 4 * (k + 1))
            = some ⟨addr.toNat + 4 * (k + 1), s'.present (addr.toNat + 4 * (k + 1)) t⟩)
      ∧ (s'.plainWord addr.toNat t = true → t ≠ .nowhere → t ≠ .frames →
        exec (.snapshotRead dt p addr) s = .next (s.seal dt s'))
      ∧ (∀ k, k < 8 → addr.toNat = Reg.MTX_WAIT_MAX_T0 + 4 * k →
        exec (.snapshotRead dt p addr) s = .next (s.seal dt { s' with waits := tset (fun _ => 0) s'.waits k 0 })))
    ∧ (∀ (page : Fin 128) (v : Word), pageInfo page = none →
      exec (.intForce dt page v) s = .next (s.seal dt (s'.count (Reg.base 0 + 0x01C)))
      ∧ exec (.pageSoftReset dt page) s = .next (s.seal dt (s'.count (Reg.base 0 + 0x01C))))
    ∧ (∀ (page : Fin 128) (v : Word) (i : PageInfo), pageInfo page = some i →
      exec (.intForce dt page v) s = .next (s.seal dt (s'.setReg (Reg.base page + 0x010)
        (s'.reg (Reg.base page + 0x010) ||| (v &&& w32 i.cause))))
      ∧ (page.val ≠ 0 → s'.rf (Reg.base page + 0x024) 15 0 = 0x5AFE →
        ∃ u : State, exec (.pageSoftReset dt page) s = .next (s.seal dt u)
          ∧ u.reg (Reg.base page + 0x014) = 0 ∧ u.reg (Reg.base page + 0x024) = 0
          ∧ ((page.val ≠ 3 ∧ page.val ≠ 11 ∧ page.val ≠ 12 ∧ page.val ≠ 120) → u.reg (Reg.base page + 0x010) = 0
            ∧ ∀ r ∈ blockRows page, r.counter = true → u.reg (Reg.base page + r.off) = w32 r.reset)
          ∧ (∀ a, a / 0x1000 ≠ page.val → a ≠ Reg.CHAIN_EVT_DROP_CNT → (page.val = 0x17 → a / 0x1000 ≠ 0x0A) →
            u.reg a = s'.reg a)
          ∧ (page.val = 0x16 → u.drv.scA = [] ∧ u.drv.scB = []) ∧ (page.val = 0x6A → u.obj.cnts = [])
          ∧ u.dev = { s'.dev with pageV := true, page := page.val } ∧ u.epoch = s'.epoch ∧ u.elems = s'.elems ∧ u.mem = s'.mem))
    ∧ (s'.rf (Reg.base 0 + 0x024) 15 0 = 0x5AFE →
      ∃ u : State, exec (.pageSoftReset dt 0) s = .next (s.seal dt u)
        ∧ u.dev.inReset = some 3 ∧ u.dev.cause = 3 ∧ u.dev.softFrom = some s'.elapsed ∧ u.token.holder = none
        ∧ (∀ m, m < 9 → if (s'.burstAt m).isSome then
            s'.Counted u (Reg.MTX_RST_CNT_M0 + 4 * m) ∧ u.causeSet 0x0A 0 = true
          else u.reg (Reg.MTX_RST_CNT_M0 + 4 * m) = s'.reg (Reg.MTX_RST_CNT_M0 + 4 * m)))
    ∧ (∀ v : Word,
      ((∀ t, t < 8 → pathExists (fld v (4 * t + 3) (4 * t)) t = true) →
        exec (.mtxParkWrite dt v) s = .next (s.seal dt (s'.setReg Reg.MTX_PARK v)))
      ∧ ((∃ t, t < 8 ∧ pathExists (fld v (4 * t + 3) (4 * t)) t = false) →
        exec (.mtxParkWrite dt v) s = .next (s.seal dt (s'.count (Reg.base 0x0A + 0x01C)))))
    ∧ ∀ (o : Order) (a0 : Word) (beats : BitVec 16),
      (fld a0 8 0 = 0 → exec (.masterReset dt o a0 beats) s = .next (s.seal dt (s'.complete 0x0A 1 cZERO o)))
      ∧ (fld a0 8 0 % 2 ^ 7 ≠ 0 →
        exec (.masterReset dt o a0 beats) s = .next (s.seal dt (s'.complete 0x0A 1 cBADARG o)))
      ∧ (fld a0 8 0 ≠ 0 → fld a0 8 0 % 2 ^ 7 = 0 →
        ∃ u : State, exec (.masterReset dt o a0 beats) s = .next (s.seal dt (u.complete 0x0A 1 cDONE o))
          ∧ (bit a0 7 = true → ∀ pl, (u.bistOf pl).slice = none)
          ∧ (∀ m, (m = 7 ∨ m = 8) → bit a0 m = true → beats ≠ 0 →
            s'.Counted u (Reg.MTX_RST_CNT_M0 + 4 * m) ∧ u.causeSet 0x0A 0 = true)
          ∧ u.epoch = s'.epoch ∧ u.elems = s'.elems ∧ u.mem = s'.mem)

/-! ### Temperature and power -/

/-- Temperature and power (R326 to R332, R335 to R337, R340): a valid sample is stored with its peak and moves the levels
after eight in a row; the eighth at SHUTDOWN begins a reset of cause 4; eight invalid ones raise SFAULT; level registers
store what stays in order; the power limit steps by 2 W between 40 W and 70 W; an evaluation above the limit marks the
fewest BULK circuits, in ascending order of output, whose credits reach the excess, also while earlier marks still wait
(assumption log 44), and skips once after a release; their release takes them out of the active map and the base. -/
def Obligations.TemperatureSetsTheLimits : Prop :=
  ∀ (dt : Nat) (s s' : State), s' = s.advance dt → s'.InService →
    (∀ (v : Int) (a b : Nat), s'.therm.trip = false → s'.therm.sfault = false → -960 ≤ v → v ≤ 2560 →
      ∃ u : State, exec (.tempSample dt (some v) a b) s = .next (s.seal dt u)
        ∧ u.therm.temp = v ∧ u.therm.peak = max s'.therm.peak v ∧ u.therm.now = min (a + b) 0xFFFF
        ∧ u.therm.heater = min s'.heaterSum 0xFFFF
        ∧ (s'.therm.warn = false →
          (u.therm.warn = true ↔ levelOf (s'.reg Reg.THM_WARN) ≤ v ∧ 8 ≤ s'.therm.wUp + 1))
        ∧ (s'.therm.warn = true →
          (u.therm.warn = false ↔ v < releaseOf (s'.reg Reg.THM_WARN) ∧ 8 ≤ s'.therm.wDn + 1))
        ∧ (s'.therm.thr = false →
          (u.therm.thr = true ↔ levelOf (s'.reg Reg.THM_THROTTLE) ≤ v ∧ 8 ≤ s'.therm.tUp + 1))
        ∧ (s'.therm.thr = true →
          (u.therm.thr = false ↔ v < releaseOf (s'.reg Reg.THM_THROTTLE) ∧ 8 ≤ s'.therm.tDn + 1))
        ∧ (levelOf (s'.reg Reg.THM_SHUTDOWN) ≤ v → 8 ≤ s'.therm.sUp + 1 →
          u.dev.inReset = some 4 ∧ u.therm.trip = true ∧ u.therm.tripped = true ∧ s'.Counted u Reg.THM_TRIP_CNT
            ∧ u.token.holder = none ∧ u.epoch.prep = none)
        ∧ (s'.therm.shut = false → v < levelOf (s'.reg Reg.THM_SHUTDOWN) ∨ s'.therm.sUp + 1 < 8 →
          u.bare s' = { s' with therm := u.therm } ∧ u.sent = s'.sent))
    ∧ (∀ (x : Option Int) (a b : Nat), s'.therm.trip = false → s'.therm.shut = false → s'.therm.sfault = false →
      (∀ v, x = some v → v < -960 ∨ 2560 < v) →
      ∃ u : State, exec (.tempSample dt x a b) s = .next (s.seal dt u)
        ∧ u.bare s' = { s' with therm := u.therm } ∧ u.therm.temp = s'.therm.temp ∧ u.therm.peak = s'.therm.peak
        ∧ (u.therm.sfault = true ↔ 8 ≤ s'.therm.bad + 1) ∧ (8 ≤ s'.therm.bad + 1 → u.causeSet 0x03 2 = true))
    ∧ (∀ v w h u : Word, s'.Ready → w = s'.reg Reg.THM_WARN → h = s'.reg Reg.THM_THROTTLE → u = s'.reg Reg.THM_SHUTDOWN →
      (levelOf (v &&& 0x1FFFFF) < levelOf h → levelOf h < levelOf u →
        exec (.thmLevelWrite dt .warn v) s = .next (s.seal dt (s'.setReg Reg.THM_WARN (v &&& 0x1FFFFF))))
      ∧ (levelOf h ≤ levelOf (v &&& 0x1FFFFF) →
        exec (.thmLevelWrite dt .warn v) s = .next (s.seal dt (s'.count (Reg.base 0x03 + 0x01C))))
      ∧ (levelOf w < levelOf (v &&& 0x1FFFFF) → levelOf (v &&& 0x1FFFFF) < levelOf u →
        exec (.thmLevelWrite dt .throttle v) s
          = .next (s.seal dt (s'.setReg Reg.THM_THROTTLE (v &&& 0x1FFFFF))))
      ∧ (∀ x, x = w32 (at_ 20 16 (max (fld v 20 16) 10) + (if 2080 < levelOf v then 2080 else fld v 15 0)) →
        levelOf w < levelOf h → levelOf h < levelOf x →
        exec (.thmLevelWrite dt .shutdown v) s = .next (s.seal dt (s'.setReg Reg.THM_SHUTDOWN x))))
    ∧ (∀ v : Word, s'.Ready →
      (fld v 1 0 = 3 →
        exec (.pwrModeWrite dt v) s = .next (s.seal dt (s'.count (Reg.base 0x02 + 0x01C))))
      ∧ (fld v 1 0 ≠ 3 →
        exec (.pwrModeWrite dt v) s = .next (s.seal dt (s'.setReg Reg.PWR_CFG (v &&& 7)))))
    ∧ (s'.therm.large = true → ∀ b, b = s'.therm.low →
      s'.therm.limitAt + (if b then us 1000000 else 5 * us 1000000) ≤ s'.elapsed →
      ∃ u : State, exec (.pwrLimit dt) s = .next (s.seal dt u)
        ∧ u.bare s' = { s' with therm := u.therm } ∧ s'.RegsBut u (reportRegs 0x02)
        ∧ u.therm.limit = (if b then max 40 (s'.therm.limit - 2) else min 70 (s'.therm.limit + 2))
        ∧ (u.therm.limit ≠ s'.therm.limit → s'.Causes u 0x02 0))
    ∧ (∀ power, s'.therm.limit < 70 → s'.therm.skip = true →
      ∃ u : State, exec (.bulkEvaluation dt power) s = .next (s.seal dt u)
        ∧ u = { s' with therm := { s'.therm with now := min power 0xFFFF, skip := false } })
    ∧ (∀ power reach, s'.therm.limit < 70 → s'.therm.skip = false →
      reach = (fun m : CMap => decide ((min power 0xFFFF - 100 * s'.therm.limit) * 8 * 2 ^ 32
        ≤ 5 * (m.map fun c => s'.credit c).foldl (· + ·) 0)) →
      ∃ u : State, exec (.bulkEvaluation dt power) s = .next (s.seal dt u)
        ∧ u.bare s' = { s' with therm := u.therm } ∧ u.therm.now = min power 0xFFFF
        ∧ u.therm.limit = s'.therm.limit
        ∧ (min power 0xFFFF ≤ 100 * s'.therm.limit → u.therm.marks = s'.therm.marks)
        ∧ (100 * s'.therm.limit < min power 0xFFFF →
          ∃ l l', s'.epoch.active.filter (fun c => c.cls == 2) = l ++ l' ∧ u.therm.marks = l.map (·.out)
            ∧ (l' ≠ [] → reach l = true) ∧ ∀ m x, l = m ++ [x] → reach m = false))
    ∧ (s'.therm.marks ≠ [] → s'.trans.running = false → s'.epoch.prep = none →
      ∃ u : State, exec (.bulkRelease dt) s = .next (s.seal dt u)
        ∧ u.epoch = { s'.epoch with active := s'.epoch.active.filter fun c => !(s'.therm.marks.contains c.out) }
        ∧ (s'.bell.fulls = [] →
          u.bell.base = releaseFrom s'.bell.base (s'.epoch.active.filter fun c => s'.therm.marks.contains c.out))
        ∧ u.therm.marks = [] ∧ u.therm.skip = true ∧ u.mem = s'.mem)

/-! ### Self-test -/

/-- Self-test (R345 to R349, R355): a slice starts on the next tile of its type where R346 lets it and saves the position and
mode of its pair; it ends with its count, LAST_SLICE (of slices of one device time the last by plane, type and tile,
assumption log 131) and the fold of its bytes into the signature, or past its budget with an abort of cause 1; RUN begins the
runs of its types on a plane in service, and otherwise says why not, with INT_CAUSE bit 1 and event 0x8001 with its code. That
the verdicts come from the readings the command carries, the second of a pair being the repeat, is the model's choice
(assumption log 135), and which run begins first its reading (assumption log 79). -/
def Obligations.SlicesMakeRuns : Prop :=
  ∀ (dt : Nat) (pl : Plane) (s s' : State), s' = s.advance dt →
    (s'.InService → (s'.bistOf pl).slice = none → ∀ t, tilesFrom (s'.bistOf pl).ty (s'.bistOf pl).tile = some t →
      (s'.mayTest pl t = true →
        ∃ u : State, exec (.sliceStart dt pl) s = .next (s.seal dt u)
          ∧ u = { s' with bist := u.bist } ∧ u.bist.job = s'.bist.job
          ∧ u.bistOf pl = { s'.bistOf pl with
            tile := t, slice := some ((s'.bistOf pl).ty, t, s'.rf Reg.BIST_BUDGET 7 0, s'.elapsed)
            got := [], loops := [], turn := none, lim := false
            saved := some ((s'.pair pl t).ptr, ((s'.pair pl t).inForce t).1) }
          ∧ u.bistOf (otherPlane pl) = s'.bistOf (otherPlane pl))
      ∧ ((s'.plane pl).st = .active → (s'.trans.running = true ∨ s'.safe.active = true ∨ s'.drv.nclrLow = true) →
        exec (.sliceStart dt pl) s = .next (s.seal dt s')))
    ∧ (∀ ty t n t0, s'.InService → (s'.bistOf pl).slice = some (ty, t, n, t0) →
      (∀ (l : List (CheckReading × CheckReading)) (v : List Nat), s'.elapsed ≤ t0 + us n →
        v = s'.verdicts pl ty t (l.map (·.1)) (l.map (·.2)) →
        ∃ u : State, exec (.sliceEnd dt pl l) s = .next (s.seal dt u)
          ∧ (u.bistOf pl).slice = none ∧ (u.bistOf pl).endAt = some s'.elapsed
          ∧ s'.Counted u (match pl with | .a => Reg.BIST_SLICE_CNT_A | .b => Reg.BIST_SLICE_CNT_B)
          ∧ (s'.nowAt Reg.BIST_LAST_SLICE ≤ 4096 * planeIdx pl + 1024 * ty + t + 1 → u.reg Reg.BIST_LAST_SLICE
            = w32 (2 ^ 31 + flag 29 (v.any (· != 0)) + flag 28 (pl == .b) + at_ 27 26 ty + at_ 9 0 t))
          ∧ (∀ k, (s'.bistOf pl).ty = ty → (s'.bistOf pl).tile = t → tilesFrom ty (t + 1) = some k →
            (u.bistOf pl).crc = (sliceBytes ty t v).foldl crcByte (s'.bistOf pl).crc ∧ (u.bistOf pl).tile = k)
          ∧ u.epoch = s'.epoch ∧ u.elems = s'.elems ∧ u.mem = s'.mem)
      ∧ (t0 + us n ≤ s'.elapsed →
        ∃ u : State, exec (.sliceBudgetEnd dt pl) s = .next (s.seal dt u)
          ∧ (u.bistOf pl).slice = none ∧ s'.Counted u Reg.BIST_ABORT_CNT
          ∧ (s'.nowAt Reg.BIST_LAST_SLICE ≤ 4096 * planeIdx pl + 1024 * ty + t + 1 → u.reg Reg.BIST_LAST_SLICE
            = w32 (2 ^ 31 + 2 ^ 30 + flag 28 (pl == .b) + at_ 27 26 ty + at_ 25 23 1 + at_ 9 0 t))
          ∧ u.epoch = s'.epoch ∧ u.elems = s'.elems ∧ u.mem = s'.mem))
    ∧ ∀ (o : Order) (a0 a1 : Word), s'.Ready → bit a0 0 = (pl == .b) →
      (∀ code u, u = s'.runDone code o → u.bare s' = s' ∧ ∃ v : State, u = v.complete 0x07 1 code o
        ∧ s'.Causes v 0x07 1 ∧ s'.RegsBut v (reportRegs 0x07)
        ∧ (s'.rb Reg.BIST_CFG 2 = true → s'.Reported v 0x07 0x8001 7 0 s'.epoch.act (pay [code])))
      ∧ ((fld a0 7 4 = 0 ∨ fld a1 7 0 = 0) → exec (.run dt o a0 a1) s = .next (s.seal dt (s'.runDone cZERO o)))
      ∧ (fld a0 7 4 ≠ 0 → fld a1 7 0 ≠ 0 → fld a0 31 8 = 0 →
        ((s'.plane pl).st ≠ .active → (s'.plane pl).st ≠ .standby →
          exec (.run dt o a0 a1) s = .next (s.seal dt (s'.runDone cLOCKED o)))
        ∧ ((s'.plane pl).st = .active ∨ (s'.plane pl).st = .standby →
          (s'.bist.job ≠ none → exec (.run dt o a0 a1) s = .next (s.seal dt (s'.runDone cBUSY o)))
          ∧ (s'.bist.job = none → ∃ (u : State) (j : BistJob), exec (.run dt o a0 a1) s = .next (s.seal dt u)
            ∧ u = { s' with bist := u.bist } ∧ u.bist.job = some j ∧ j.ord = o ∧ j.pl = pl
            ∧ (∀ k, j.runs.count k = if k < 4 ∧ bit a0 (4 + k) = true then fld a1 7 0 else 0)
            ∧ j.runs.head? = some (u.bistOf pl).ty ∧ (u.bistOf pl).tile = 0 ∧ (u.bistOf pl).crc = 0xFFFFFFFF)))

/-! ### The journal -/

/-- The journal (R373, R374, R377, R378): a record writes its open word, then every circuit word of the map it captured, then
its commit word, and nothing else; RECORD waits for a record of the map it asked for, and in state RETURN is LOCKED; WIPE
needs its key and empties the journal, both slots then reading as not valid; AUTO_RESTORE is stored in the register and in the
CONFIG word, and the register keeps its value through a WIPE (assumption log 82). -/
def Obligations.TheJournalRecordsMaps : Prop :=
  ∀ (dt : Nat) (s s' : State), s' = s.advance dt →
    (∀ v : Word, s'.Ready → ∃ u : State, exec (.autoRestoreWrite dt v) s = .next (s.seal dt u)
      ∧ u.bare s' = { s' with mem := u.mem, jrnl := { s'.jrnl with writes := s'.jrnl.writes + 1 } }
      ∧ u.reg Reg.JRNL_AUTO_RESTORE = w32 (fld v 2 0) ∧ s'.RegsBut u [Reg.JRNL_AUTO_RESTORE]
      ∧ autoRestoreReset u.mem = w32 (fld v 2 0)
      ∧ ∀ a, a < configAddr ∨ configAddr + 8 ≤ a → Memory.readByte u.mem a = Memory.readByte s'.mem a)
    ∧ (∀ o : Order, s'.Ready → s'.jrnl.wiping = false → s'.jrnl.orders = [] →
      (s'.lifeState = 3 → exec (.record dt o) s
        = .next (s.seal dt ((s'.setReg (Reg.base 0x09 + 0x024) 0).complete 0x09 2 cLOCKED o)))
      ∧ (s'.lifeState ≠ 3 → ∃ u : State, exec (.record dt o) s = .next (s.seal dt u)
        ∧ u.bare s' = { s' with jrnl := { s'.jrnl with orders := [(o, s'.epoch.active)] } }
        ∧ u.reg (Reg.base 0x09 + 0x024) = 0 ∧ s'.RegsBut u [Reg.base 0x09 + 0x024])
      ∧ (s'.rf (Reg.base 0x09 + 0x024) 15 0 = 0x9E11 → ∃ u : State, exec (.wipe dt o) s = .next (s.seal dt u)
        ∧ u.bare s' = { s' with jrnl := { s'.jrnl with rec_ := none, wiping := true, wipeOrd := some o } }
        ∧ u.reg (Reg.base 0x09 + 0x024) = 0 ∧ s'.RegsBut u [Reg.base 0x09 + 0x024])
      ∧ (s'.rf (Reg.base 0x09 + 0x024) 15 0 ≠ 0x9E11 → exec (.wipe dt o) s
        = .next (s.seal dt ((s'.setReg (Reg.base 0x09 + 0x024) 0).complete 0x09 1 cLOCKED o))))
    ∧ (∀ o : Order, s'.InService → s'.jrnl.wipeOrd = some o →
      ∃ u : State, exec (.wipeDone dt) s = .next (s.seal dt (u.complete 0x09 1 cDONE o))
        ∧ u.mem = Memory.wipe s'.mem jrnlBase jrnlEnd ∧ u.jrnl.wiping = false ∧ u.jrnl.wipeOrd = none
        ∧ u.jrnl.v0 = false ∧ u.jrnl.v1 = false ∧ u.obj = { s'.obj with words := [] }
        ∧ s'.Causes u 0x09 1 ∧ s'.RegsBut u (reportRegs 0x09)
        ∧ s'.Reported u 0x09 0x8201 7 0 s'.epoch.act [])
    ∧ (∀ r k, s'.InService → s'.mayRecord = true → r = s'.jrnl.next →
      (k = match s'.jrnl.slot with | some n => 1 - n | none => 0) →
      ∃ u : State, exec (.journalRecordStart dt) s = .next (s.seal dt u)
        ∧ u = { s' with mem := u.mem, jrnl := u.jrnl }
        ∧ u.jrnl.rec_ = some ⟨r, k, s'.epoch.act, s'.epoch.active⟩ ∧ u.jrnl.rmax = r
        ∧ u.jrnl.startAt = some s'.elapsed
        ∧ u.jrnl.v0 = (s'.jrnl.v0 && k != 0) ∧ u.jrnl.v1 = (s'.jrnl.v1 && k != 1)
        ∧ Memory.readWord u.mem (ringAddr k (ringPos r)) = w32 s'.epoch.act
        ∧ Memory.readWord u.mem (ringAddr k (ringPos r) + 4) = w32 (at_ 30 0 r)
        ∧ ∀ a, a < ringAddr k (ringPos r) ∨ ringAddr k (ringPos r) + 8 ≤ a →
          Memory.readByte u.mem a = Memory.readByte s'.mem a)
    ∧ (∀ r : Rec, s'.InService → s'.jrnl.rec_ = some r →
      ∃ u v : State, exec (.journalRecordEnd dt) s = .next (s.seal dt v)
        ∧ (s'.jrnl.orders = [] → v = u)
        ∧ (∀ o m, s'.jrnl.orders = [(o, m)] → sameWords m r.map = true → v = u.complete 0x09 2 cDONE o)
        ∧ u = { s' with mem := u.mem, jrnl := u.jrnl }
        ∧ u.jrnl.rec_ = none ∧ u.jrnl.newest = r.slot ∧ (r.slot = 0 → u.jrnl.v0 = true) ∧ (r.slot = 1 → u.jrnl.v1 = true)
        ∧ (∀ q, q < 512 → Memory.readWord u.mem (circuitAddr r.slot q + 4) = circuitHigh r.map q)
        ∧ Memory.readWord u.mem (ringAddr r.slot (ringPos r.seq + 1)) = w32 r.epoch
        ∧ Memory.readWord u.mem (ringAddr r.slot (ringPos r.seq + 1) + 4) = w32 (2 ^ 31 + at_ 30 0 r.seq)
        ∧ ∀ a, a < circuitAddr r.slot 0 ∨ circuitAddr r.slot 512 ≤ a →
          a < ringAddr r.slot (ringPos r.seq + 1) ∨ ringAddr r.slot (ringPos r.seq + 1) + 8 ≤ a →
          Memory.readByte u.mem a = Memory.readByte s'.mem a)

/-! ### Resets, the start sequence and the life cycle -/

/-- Resets (R297, R337, R353, R364 to R366, R396): nRESET low takes ports, token and prepared epochs down and holds the
device; CHAIN_RESET with its key answers and begins a reset of cause 5; a reset ends when nothing holds it any more, with
every register and table at its reset value and the journal kept, and in BIST_HOLD where it began there and only POWER_ON or
NRESET ends that (assumption log 64); what falls at the beginning of a reset and what at its end, and that elapsed time
starts at 0 with the latter, are assumption logs 62, 63 and 78. 1,000 valid samples in a row below SHUTDOWN's release end a
thermal shutdown. In a device with power the test access port takes any instruction at any time, IDCODE after its reset, and
a scan delivers its register on TDO: the identification word, the bypass bit, or, under SAMPLE/PRELOAD or EXTEST, the levels
of the lands, which it captures; the port's reset and the one-step scan are assumption logs 85 and 86. -/
def Obligations.ResetsBeginAndEnd : Prop :=
  ∀ (dt : Nat) (s s' : State), s' = s.advance dt → 2 ≤ s'.lifeState →
    (s'.dev.nresetLow = false → ∃ u : State, exec (.nresetFall dt) s = .next (s.seal dt u)
      ∧ u.dev.inReset = some 2 ∧ u.dev.cause = 2 ∧ u.dev.nresetLow = true ∧ u.dev.softFrom = s'.dev.softFrom
      ∧ u.token.holder = none ∧ u.epoch.prep = none ∧ u.epoch.held = none ∧ u.epoch.active = s'.epoch.active
      ∧ u.drv.preset = true ∧ (∀ p, (u.link p).link = false ∧ (u.link p).out = []) ∧ u.regs = s'.regs
      ∧ (s'.jrnl.rec_ = none → s'.jrnl.wiping = false → s'.returnWiping = false → u.mem = s'.mem))
    ∧ ((s'.pla.valid = true ∨ s'.plb.valid = true) → s'.therm.trip = false → s'.drv.nclrLow = false → s'.safe.pin = false →
      (∀ c, s'.dev.inReset = some c → s'.dev.nresetLow = true → s'.dev.softFrom = none →
        ∃ u : State, exec (.nresetRise dt) s = .next (s.seal dt u) ∧ (s'.dev.stateAfter c = 0 → s'.Restarted u c)
          ∧ (s'.dev.stateAfter c = 2 → s'.RestartedHeld u c))
      ∧ (∀ c t, s'.dev.inReset = some c → s'.dev.nresetLow = false → s'.dev.softFrom = some t → t + us 10 ≤ s'.elapsed →
        ∃ u : State, exec (.resetEnd dt) s = .next (s.seal dt u) ∧ (s'.dev.stateAfter c = 0 → s'.Restarted u c)
          ∧ (s'.dev.stateAfter c = 2 → s'.RestartedHeld u c)))
    ∧ (∀ (v : Int) (a b : Nat), s'.dev.inReset = some 4 → s'.therm.trip = true → -960 ≤ v → v ≤ 2560 →
      v < releaseOf (s'.reg Reg.THM_SHUTDOWN) →
      ∃ u : State, exec (.tempSample dt (some v) a b) s = .next (s.seal dt u)
        ∧ (s'.therm.cool + 1 < 1000 → u.dev = s'.dev ∧ u.therm.trip = true ∧ u.therm.cool = s'.therm.cool + 1
          ∧ u.therm.temp = v ∧ u.therm.peak = max s'.therm.peak v)
        ∧ (1000 ≤ s'.therm.cool + 1 → (s'.pla.valid = true ∨ s'.plb.valid = true) → s'.drv.nclrLow = false →
          s'.safe.pin = false → s'.dev.nresetLow = false → s'.dev.softFrom = none → s'.dev.stateAfter 4 = 0 →
          s'.Restarted u 4 ∧ u.therm.restarted = true ∧ u.therm.trip = false))
    ∧ (∀ (o : Order) (a0 : Word), s'.Ready →
      (fld a0 15 0 ≠ 0xC4A1 →
        exec (.chainReset dt o a0) s = .next (s.seal dt (s'.complete 0x0D 1 cBADARG o)))
      ∧ (fld a0 15 0 = 0xC4A1 → ∃ u : State, exec (.chainReset dt o a0) s = .next (s.seal dt u)
        ∧ u.dev.inReset = some 5 ∧ u.dev.cause = 5 ∧ u.dev.softFrom = some s'.elapsed
        ∧ s'.Counted u Reg.DEV_RESET_CNT ∧ u.reg (cmdStatus 0x0D) = w32 (2 ^ 24)
        ∧ u.sent = (s'.complete 0x0D 1 cDONE o).sent ∧ u.chain = s'.chain
        ∧ (∀ p, (u.link p).link = (s'.link p).link) ∧ u.epoch.prep = none ∧ u.epoch.active = s'.epoch.active))
    ∧ (∀ (op : TapOp) (i : TapIr), (op, i) ∈ [(.reset, .idcode), (.bypass, .bypass), (.idcode, .idcode), (.sample, .sample),
        (.extest, .extest)] ∨ (∃ c, op = .other c) ∧ i = .bypass →
      (s'.pla.valid = true ∨ s'.plb.valid = true) →
      ∃ u : State, exec (.testAccessPort dt op) s = .next (s.seal dt u)
        ∧ u = { s' with tap := { s'.tap with ir := i } })
    ∧ (∀ (ins : InLands) (outs : OutLands), (s'.pla.valid = true ∨ s'.plb.valid = true) →
      ∃ u : State, exec (.testAccessPort dt (.scan ins outs)) s = .next (s.seal dt u)
      ∧ u = { s' with
        sent := s'.sent ++ [.tdo (match s'.tap.ir with
          | .idcode => .idcode idcode
          | .bypass => .bypass false
          | .sample | .extest => .boundary ins s'.lands)]
        tap := if s'.tap.ir = .sample ∨ s'.tap.ir = .extest then ⟨s'.tap.ir, ins, s'.lands, outs⟩ else s'.tap }
      ∧ (s'.tap.ir = .extest → s'.dev.nresetLow = true → s'.lands
        = ⟨s'.tap.drive.safeStat, s'.tap.drive.thermTrip, some s'.tap.drive.ppsOut, s'.tap.drive.nint, s'.tap.drive.nfault, none⟩))
    ∧ (s'.pla.valid = false → s'.plb.valid = false →
      (∀ op, exec (.testAccessPort dt op) s = .next (s.seal dt s'))
      ∧ s'.lands = ⟨false, false, none, true, true, none⟩)

/-- The start sequence (R167, R222, R353, R356, R366, R367, R369, R370, R376), its steps in the order of Table START-2 and
each no earlier than there: with the fuse array loaded the presets end once a plane's switches are closed, its words in error
are counted (assumption log 80), and an uncorrectable word leads to BIST_HOLD; with the tables wiped the journal is examined;
warm lasers and the end of loop lock are noted, its lateness reported; once all conditions of R370 hold the device is READY,
reported, and its first sweep begins, and before that it is not. With the marker programmed it stands in DIAG instead, with
no cause, event or sweep (assumption log 18). -/
def Obligations.TheStartReachesReady : Prop :=
  ∀ (dt : Nat) (s s' : State), s' = s.advance dt → s'.InService → s'.dev.state = 0 →
    (∀ corr uncorr, s'.dev.fuseOk = none → us 300 ≤ s'.elapsed → ∃ u : State,
      exec (.fuseLoadDone dt corr uncorr) s = .next (s.seal dt u)
      ∧ u.dev.fuseOk = some (uncorr == []) ∧ (uncorr = [] → u.dev.state = 0
        ∧ u.drv.preset = !(s'.switchesClosed .a || s'.switchesClosed .b))
      ∧ (uncorr ≠ [] → u.dev.state = 2) ∧ u.bist.nCorr = corr.length ∧ u.fuse = s'.fuse ∧ u.mem = s'.mem
      ∧ (∀ w, corr = [w] → uncorr = [] → s'.Counted u Reg.FUSE_ECC_CORR_CNT
        ∧ (s'.nowAt Reg.FUSE_LAST_ECC ≤ w.toNat + 1 → u.reg Reg.FUSE_LAST_ECC = w32 (2 ^ 31 + at_ 13 0 w.toNat))))
    ∧ (s'.dev.fuseOk ≠ none → s'.dev.wiped = false → us 2000 ≤ s'.elapsed →
      ∃ u : State, exec (.tableWipeEnd dt) s = .next (s.seal dt u)
      ∧ u.dev = { s'.dev with wiped := true } ∧ u.obj.ready = true ∧ u.epoch = s'.epoch ∧ u.elems = s'.elems
      ∧ (s'.dev.marker < 5 → (∀ i, i < 16384 → s'.staticUsed i = false) →
        u.bare s' = { s' with
          obj := { s'.obj with ready := true }, dev := { s'.dev with wiped := true }, jrnl := u.jrnl }
        ∧ u.jrnl.v0 = slotValid (s'.latestRing 0) ∧ u.jrnl.v1 = slotValid (s'.latestRing 1)))
    ∧ (s'.dev.wiped = true → us 22000 ≤ s'.elapsed → ∃ u : State, exec (.laserWarmupEnd dt) s = .next (s.seal dt u)
      ∧ u = { s' with dev := { s'.dev with lasers := true } })
    ∧ ((s'.elapsed < us 300 → ∀ corr uncorr, exec (.fuseLoadDone dt corr uncorr) s = .next (s.seal dt s'))
      ∧ (s'.elapsed < us 2000 → exec (.tableWipeEnd dt) s = .next (s.seal dt s'))
      ∧ (s'.elapsed < us 22000 → exec (.laserWarmupEnd dt) s = .next (s.seal dt s'))
      ∧ (s'.elapsed < us 55000 → ∀ pl, exec (.planeStartDone dt pl true) s = .next (s.seal dt s')))
    ∧ (∀ t, s'.dev.lockAt = some t → s'.dev.lockDone = false → t + us 50000 ≤ s'.elapsed →
      ∃ u : State, exec (.lockLate dt) s = .next (s.seal dt u)
        ∧ u.bare s' = { s' with dev := { s'.dev with lockDone := true } }
        ∧ s'.Causes u 0x00 2 ∧ s'.RegsBut u (reportRegs 0x00)
        ∧ s'.Reported u 0x00 0x8302 7 0 s'.epoch.act (pay [s'.unlocked.length]))
    ∧ ((s'.dev.fuseOk = some true ∧ s'.obj.ready = true ∧ s'.token.holder ≠ none
        ∧ (s'.dev.lasers = true ∨ 32 ≤ s'.osc.failed.length) ∧ s'.dev.lockDone = true ∧ s'.therm.shut = false) →
      (s'.dev.marker < 5 → ∃ u : State, exec (.ready dt) s = .next (s.seal dt u)
        ∧ u.bare s' = { s' with
          dev := { s'.dev with state := 1, startNs := s'.elapsed / nsUnit % 2 ^ 32 }
          obj := { s'.obj with sweep := some ⟨s'.nowNs, s'.rf Reg.AGE_INTERVAL 11 0, 0⟩ } }
        ∧ s'.Causes u 0x00 0 ∧ s'.RegsBut u (reportRegs 0x00 ++ reportRegs 0x03)
        ∧ s'.Reported u 0x00 0x8300 7 0 s'.epoch.act (pay [s'.dev.cause]))
      ∧ (5 ≤ s'.dev.marker → ∃ u : State, exec (.ready dt) s = .next (s.seal dt u) ∧ u.dev.state = 3
        ∧ u = { s' with dev := { s'.dev with state := 3, startNs := u.dev.startNs } }))
    ∧ ((s'.dev.fuseOk ≠ some true ∨ s'.obj.ready = false ∨ s'.token.holder = none ∨ s'.dev.lockDone = false
        ∨ s'.therm.shut = true ∨ (s'.dev.lasers = false ∧ s'.osc.failed.length < 32)) →
      exec (.ready dt) s = .next (s.seal dt s'))

/-- The return to the maker (R380): RETURN_ARM with the serial number and its key arms for one second, RETURN_COMMIT through
the same port with the complements starts programming, the marker's end puts the device in RETURN, wipes the journal and
begins a reset of cause 6; a wrong word disarms with BADARG, a late commit with TIMEOUT, and a commit not armed, or with
circuits active, or on another port is LOCKED; a device in RETURN, which the programming of the marker begins (R379),
answers both with LOCKED. That a second commit leaves the instant of the first (assumption log 160), that a LOCKED
commit leaves the arming, and that a lapsed one answers TIMEOUT once and LOCKED from then on, is the model's choice (assumption
log 58). -/
def Obligations.ReturnIsOrderedTwice : Prop :=
  ∀ (dt : Nat) (s s' : State), s' = s.advance dt →
    (∀ (o : Order) (a0 a1 : Word), s'.Ready →
      (s'.lifeState = 2 →
        ((a0 = s'.serialLo ∧ fld a1 15 0 = 0x4C43) →
          ∃ u : State, exec (.returnArm dt o a0 a1) s = .next (s.seal dt (u.complete 0x00 1 cDONE o))
            ∧ u.bare s' = { s' with dev := { s'.dev with armed := some (o.port, s'.elapsed + us 1000000) } }
            ∧ s'.Causes u 0x00 1 ∧ s'.RegsBut u (reportRegs 0x00)
            ∧ s'.Reported u 0x00 0x8301 7 0 s'.epoch.act [])
        ∧ (a0 ≠ s'.serialLo ∨ fld a1 15 0 ≠ 0x4C43 → exec (.returnArm dt o a0 a1) s
          = .next (s.seal dt ({ s' with dev := { s'.dev with armed := none } }.complete 0x00 1 cBADARG o))))
      ∧ (s'.dev.armed = none →
        exec (.returnCommit dt o a0 a1) s = .next (s.seal dt (s'.complete 0x00 2 cLOCKED o)))
      ∧ (∀ p t, s'.dev.armed = some (p, t) →
        (p ≠ o.port ∨ s'.epoch.active ≠ [] ∨ s'.epoch.prep ≠ none ∨ s'.lifeState = 3 →
          exec (.returnCommit dt o a0 a1) s = .next (s.seal dt (s'.complete 0x00 2 cLOCKED o)))
        ∧ (p = o.port → s'.epoch.active = [] → s'.epoch.prep = none → s'.lifeState ≠ 3 →
          (t ≤ s'.elapsed → exec (.returnCommit dt o a0 a1) s
            = .next (s.seal dt ({ s' with dev := { s'.dev with armed := none } }.complete 0x00 2 cTIMEOUT o)))
          ∧ (s'.elapsed < t → a0 = ~~~s'.serialLo → fld a1 15 0 = 0xB3BC → exec (.returnCommit dt o a0 a1) s
            = .next (s.seal dt
              ({ s' with dev := { s'.dev with
                armed := none, returning := true
                returnAt := if s'.dev.returning then s'.dev.returnAt else s'.elapsed } }.complete
                0x00 2 cDONE o)))
          ∧ (s'.elapsed < t → (a0 ≠ ~~~s'.serialLo ∨ fld a1 15 0 ≠ 0xB3BC) → exec (.returnCommit dt o a0 a1) s
            = .next (s.seal dt ({ s' with dev := { s'.dev with armed := none } }.complete 0x00 2 cBADARG o))))))
    ∧ (s'.InService → s'.dev.state = 3 ∨ s'.dev.state = 1 ∧ s'.lifeState = 3 → ∀ (o : Order) (a0 a1 : Word),
      exec (.returnArm dt o a0 a1) s = .next (s.seal dt (s'.complete 0x00 1 cLOCKED o)))
    ∧ (s'.InService →
      (∀ p t, s'.dev.armed = some (p, t) → t ≤ s'.elapsed → ∃ u : State,
        exec (.returnArmExpiry dt) s = .next (s.seal dt u)
          ∧ u = { s' with dev := { s'.dev with armed := some (p, 0) } })
      ∧ (s'.dev.returning = true → ∃ u : State, exec (.returnMarkerDone dt) s = .next (s.seal dt u)
        ∧ u.dev.marker = 8 ∧ u.dev.inReset = some 6 ∧ u.dev.softFrom = some s'.elapsed ∧ u.dev.returning = false
        ∧ u.mem = Memory.wipe s'.mem jrnlBase jrnlEnd ∧ s'.Counted u Reg.DEV_RESET_CNT))
end

