-- ==== Sys2Proof/Laws/State.lean ====
section
/-!
SUPPORT. What each update of the state leaves alone: one lemma per field per update, all by computation.
-/

namespace Sys2Proof.Machine

@[simp] theorem State.setReg_mem (s : State) (a : Nat) (v : Word) : (s.setReg a v).mem = s.mem := rfl
@[simp] theorem State.setReg_fuse (s : State) (a : Nat) (v : Word) : (s.setReg a v).fuse = s.fuse := rfl
@[simp] theorem State.setReg_fuseUpset (s : State) (a : Nat) (v : Word) : (s.setReg a v).fuseUpset = s.fuseUpset := rfl
@[simp] theorem State.setReg_clock (s : State) (a : Nat) (v : Word) : (s.setReg a v).clock = s.clock := rfl
@[simp] theorem State.setReg_cells (s : State) (a : Nat) (v : Word) : (s.setReg a v).cells = s.cells := rfl
@[simp] theorem State.setReg_bell (s : State) (a : Nat) (v : Word) : (s.setReg a v).bell = s.bell := rfl
@[simp] theorem State.setReg_epoch (s : State) (a : Nat) (v : Word) : (s.setReg a v).epoch = s.epoch := rfl
@[simp] theorem State.setReg_elems (s : State) (a : Nat) (v : Word) : (s.setReg a v).elems = s.elems := rfl
@[simp] theorem State.setReg_lps (s : State) (a : Nat) (v : Word) : (s.setReg a v).lps = s.lps := rfl
@[simp] theorem State.setReg_trans (s : State) (a : Nat) (v : Word) : (s.setReg a v).trans = s.trans := rfl
@[simp] theorem State.setReg_drv (s : State) (a : Nat) (v : Word) : (s.setReg a v).drv = s.drv := rfl
@[simp] theorem State.setReg_traces (s : State) (a : Nat) (v : Word) : (s.setReg a v).traces = s.traces := rfl
@[simp] theorem State.setReg_tiles (s : State) (a : Nat) (v : Word) : (s.setReg a v).tiles = s.tiles := rfl
@[simp] theorem State.setReg_accs (s : State) (a : Nat) (v : Word) : (s.setReg a v).accs = s.accs := rfl
@[simp] theorem State.setReg_haccs (s : State) (a : Nat) (v : Word) : (s.setReg a v).haccs = s.haccs := rfl
@[simp] theorem State.setReg_pairs (s : State) (a : Nat) (v : Word) : (s.setReg a v).pairs = s.pairs := rfl
@[simp] theorem State.setReg_conv (s : State) (a : Nat) (v : Word) : (s.setReg a v).conv = s.conv := rfl
@[simp] theorem State.setReg_pla (s : State) (a : Nat) (v : Word) : (s.setReg a v).pla = s.pla := rfl
@[simp] theorem State.setReg_plb (s : State) (a : Nat) (v : Word) : (s.setReg a v).plb = s.plb := rfl
@[simp] theorem State.setReg_token (s : State) (a : Nat) (v : Word) : (s.setReg a v).token = s.token := rfl
@[simp] theorem State.setReg_safe (s : State) (a : Nat) (v : Word) : (s.setReg a v).safe = s.safe := rfl
@[simp] theorem State.setReg_therm (s : State) (a : Nat) (v : Word) : (s.setReg a v).therm = s.therm := rfl
@[simp] theorem State.setReg_osc (s : State) (a : Nat) (v : Word) : (s.setReg a v).osc = s.osc := rfl
@[simp] theorem State.setReg_sched (s : State) (a : Nat) (v : Word) : (s.setReg a v).sched = s.sched := rfl
@[simp] theorem State.setReg_obj (s : State) (a : Nat) (v : Word) : (s.setReg a v).obj = s.obj := rfl
@[simp] theorem State.setReg_time (s : State) (a : Nat) (v : Word) : (s.setReg a v).time = s.time := rfl
@[simp] theorem State.setReg_dev (s : State) (a : Nat) (v : Word) : (s.setReg a v).dev = s.dev := rfl
@[simp] theorem State.setReg_jrnl (s : State) (a : Nat) (v : Word) : (s.setReg a v).jrnl = s.jrnl := rfl
@[simp] theorem State.setReg_bist (s : State) (a : Nat) (v : Word) : (s.setReg a v).bist = s.bist := rfl
@[simp] theorem State.setReg_tap (s : State) (a : Nat) (v : Word) : (s.setReg a v).tap = s.tap := rfl
@[simp] theorem State.setReg_e0 (s : State) (a : Nat) (v : Word) : (s.setReg a v).e0 = s.e0 := rfl
@[simp] theorem State.setReg_e1 (s : State) (a : Nat) (v : Word) : (s.setReg a v).e1 = s.e1 := rfl
@[simp] theorem State.setReg_chain (s : State) (a : Nat) (v : Word) : (s.setReg a v).chain = s.chain := rfl
@[simp] theorem State.setReg_nint (s : State) (a : Nat) (v : Word) : (s.setReg a v).nint = s.nint := rfl
@[simp] theorem State.setReg_sent (s : State) (a : Nat) (v : Word) : (s.setReg a v).sent = s.sent := rfl
@[simp] theorem State.setReg_pending (s : State) (a : Nat) (v : Word) : (s.setReg a v).pending = s.pending := rfl
@[simp] theorem State.setReg_stamps (s : State) (a : Nat) (v : Word) : (s.setReg a v).stamps = s.stamps := rfl
@[simp] theorem State.setReg_waits (s : State) (a : Nat) (v : Word) : (s.setReg a v).waits = s.waits := rfl

@[simp] theorem State.elapse_regs (s : State) (dt : Nat) : (s.elapse dt).regs = s.regs := rfl
@[simp] theorem State.elapse_mem (s : State) (dt : Nat) : (s.elapse dt).mem = s.mem := rfl
@[simp] theorem State.elapse_fuse (s : State) (dt : Nat) : (s.elapse dt).fuse = s.fuse := rfl
@[simp] theorem State.elapse_fuseUpset (s : State) (dt : Nat) : (s.elapse dt).fuseUpset = s.fuseUpset := rfl
@[simp] theorem State.elapse_cells (s : State) (dt : Nat) : (s.elapse dt).cells = s.cells := rfl
@[simp] theorem State.elapse_bell (s : State) (dt : Nat) : (s.elapse dt).bell = s.bell := rfl
@[simp] theorem State.elapse_epoch (s : State) (dt : Nat) : (s.elapse dt).epoch = s.epoch := rfl
@[simp] theorem State.elapse_elems (s : State) (dt : Nat) : (s.elapse dt).elems = s.elems := rfl
@[simp] theorem State.elapse_lps (s : State) (dt : Nat) : (s.elapse dt).lps = s.lps := rfl
@[simp] theorem State.elapse_trans (s : State) (dt : Nat) : (s.elapse dt).trans = s.trans := rfl
@[simp] theorem State.elapse_drv (s : State) (dt : Nat) : (s.elapse dt).drv = s.drv := rfl
@[simp] theorem State.elapse_traces (s : State) (dt : Nat) : (s.elapse dt).traces = s.traces := rfl
@[simp] theorem State.elapse_tiles (s : State) (dt : Nat) : (s.elapse dt).tiles = s.tiles := rfl
@[simp] theorem State.elapse_accs (s : State) (dt : Nat) : (s.elapse dt).accs = s.accs := rfl
@[simp] theorem State.elapse_haccs (s : State) (dt : Nat) : (s.elapse dt).haccs = s.haccs := rfl
@[simp] theorem State.elapse_pairs (s : State) (dt : Nat) : (s.elapse dt).pairs = s.pairs := rfl
@[simp] theorem State.elapse_conv (s : State) (dt : Nat) : (s.elapse dt).conv = s.conv := rfl
@[simp] theorem State.elapse_pla (s : State) (dt : Nat) : (s.elapse dt).pla = s.pla := rfl
@[simp] theorem State.elapse_plb (s : State) (dt : Nat) : (s.elapse dt).plb = s.plb := rfl
@[simp] theorem State.elapse_token (s : State) (dt : Nat) : (s.elapse dt).token = s.token := rfl
@[simp] theorem State.elapse_safe (s : State) (dt : Nat) : (s.elapse dt).safe = s.safe := rfl
@[simp] theorem State.elapse_therm (s : State) (dt : Nat) : (s.elapse dt).therm = s.therm := rfl
@[simp] theorem State.elapse_osc (s : State) (dt : Nat) : (s.elapse dt).osc = s.osc := rfl
@[simp] theorem State.elapse_sched (s : State) (dt : Nat) : (s.elapse dt).sched = s.sched := rfl
@[simp] theorem State.elapse_obj (s : State) (dt : Nat) : (s.elapse dt).obj = s.obj := rfl
@[simp] theorem State.elapse_time (s : State) (dt : Nat) : (s.elapse dt).time = s.time := rfl
@[simp] theorem State.elapse_dev (s : State) (dt : Nat) : (s.elapse dt).dev = s.dev := rfl
@[simp] theorem State.elapse_jrnl (s : State) (dt : Nat) : (s.elapse dt).jrnl = s.jrnl := rfl
@[simp] theorem State.elapse_bist (s : State) (dt : Nat) : (s.elapse dt).bist = s.bist := rfl
@[simp] theorem State.elapse_tap (s : State) (dt : Nat) : (s.elapse dt).tap = s.tap := rfl
@[simp] theorem State.elapse_e0 (s : State) (dt : Nat) : (s.elapse dt).e0 = s.e0 := rfl
@[simp] theorem State.elapse_e1 (s : State) (dt : Nat) : (s.elapse dt).e1 = s.e1 := rfl
@[simp] theorem State.elapse_chain (s : State) (dt : Nat) : (s.elapse dt).chain = s.chain := rfl
@[simp] theorem State.elapse_nint (s : State) (dt : Nat) : (s.elapse dt).nint = s.nint := rfl
@[simp] theorem State.elapse_sent (s : State) (dt : Nat) : (s.elapse dt).sent = s.sent := rfl
@[simp] theorem State.elapse_pending (s : State) (dt : Nat) : (s.elapse dt).pending = s.pending := rfl
@[simp] theorem State.elapse_stamps (s : State) (dt : Nat) : (s.elapse dt).stamps = s.stamps := rfl
@[simp] theorem State.elapse_waits (s : State) (dt : Nat) : (s.elapse dt).waits = s.waits := rfl

@[simp] theorem State.setRate_regs (s : State) (r : Int) : (s.setRate r).regs = s.regs := rfl
@[simp] theorem State.setRate_mem (s : State) (r : Int) : (s.setRate r).mem = s.mem := rfl
@[simp] theorem State.setRate_fuse (s : State) (r : Int) : (s.setRate r).fuse = s.fuse := rfl
@[simp] theorem State.setRate_fuseUpset (s : State) (r : Int) : (s.setRate r).fuseUpset = s.fuseUpset := rfl
@[simp] theorem State.setRate_cells (s : State) (r : Int) : (s.setRate r).cells = s.cells := rfl
@[simp] theorem State.setRate_bell (s : State) (r : Int) : (s.setRate r).bell = s.bell := rfl
@[simp] theorem State.setRate_epoch (s : State) (r : Int) : (s.setRate r).epoch = s.epoch := rfl
@[simp] theorem State.setRate_elems (s : State) (r : Int) : (s.setRate r).elems = s.elems := rfl
@[simp] theorem State.setRate_lps (s : State) (r : Int) : (s.setRate r).lps = s.lps := rfl
@[simp] theorem State.setRate_trans (s : State) (r : Int) : (s.setRate r).trans = s.trans := rfl
@[simp] theorem State.setRate_drv (s : State) (r : Int) : (s.setRate r).drv = s.drv := rfl
@[simp] theorem State.setRate_traces (s : State) (r : Int) : (s.setRate r).traces = s.traces := rfl
@[simp] theorem State.setRate_tiles (s : State) (r : Int) : (s.setRate r).tiles = s.tiles := rfl
@[simp] theorem State.setRate_accs (s : State) (r : Int) : (s.setRate r).accs = s.accs := rfl
@[simp] theorem State.setRate_haccs (s : State) (r : Int) : (s.setRate r).haccs = s.haccs := rfl
@[simp] theorem State.setRate_pairs (s : State) (r : Int) : (s.setRate r).pairs = s.pairs := rfl
@[simp] theorem State.setRate_conv (s : State) (r : Int) : (s.setRate r).conv = s.conv := rfl
@[simp] theorem State.setRate_pla (s : State) (r : Int) : (s.setRate r).pla = s.pla := rfl
@[simp] theorem State.setRate_plb (s : State) (r : Int) : (s.setRate r).plb = s.plb := rfl
@[simp] theorem State.setRate_token (s : State) (r : Int) : (s.setRate r).token = s.token := rfl
@[simp] theorem State.setRate_safe (s : State) (r : Int) : (s.setRate r).safe = s.safe := rfl
@[simp] theorem State.setRate_therm (s : State) (r : Int) : (s.setRate r).therm = s.therm := rfl
@[simp] theorem State.setRate_osc (s : State) (r : Int) : (s.setRate r).osc = s.osc := rfl
@[simp] theorem State.setRate_sched (s : State) (r : Int) : (s.setRate r).sched = s.sched := rfl
@[simp] theorem State.setRate_obj (s : State) (r : Int) : (s.setRate r).obj = s.obj := rfl
@[simp] theorem State.setRate_time (s : State) (r : Int) : (s.setRate r).time = s.time := rfl
@[simp] theorem State.setRate_dev (s : State) (r : Int) : (s.setRate r).dev = s.dev := rfl
@[simp] theorem State.setRate_jrnl (s : State) (r : Int) : (s.setRate r).jrnl = s.jrnl := rfl
@[simp] theorem State.setRate_bist (s : State) (r : Int) : (s.setRate r).bist = s.bist := rfl
@[simp] theorem State.setRate_tap (s : State) (r : Int) : (s.setRate r).tap = s.tap := rfl
@[simp] theorem State.setRate_e0 (s : State) (r : Int) : (s.setRate r).e0 = s.e0 := rfl
@[simp] theorem State.setRate_e1 (s : State) (r : Int) : (s.setRate r).e1 = s.e1 := rfl
@[simp] theorem State.setRate_chain (s : State) (r : Int) : (s.setRate r).chain = s.chain := rfl
@[simp] theorem State.setRate_nint (s : State) (r : Int) : (s.setRate r).nint = s.nint := rfl
@[simp] theorem State.setRate_sent (s : State) (r : Int) : (s.setRate r).sent = s.sent := rfl
@[simp] theorem State.setRate_pending (s : State) (r : Int) : (s.setRate r).pending = s.pending := rfl
@[simp] theorem State.setRate_stamps (s : State) (r : Int) : (s.setRate r).stamps = s.stamps := rfl
@[simp] theorem State.setRate_waits (s : State) (r : Int) : (s.setRate r).waits = s.waits := rfl

@[simp] theorem State.setLink_regs (s : State) (p : Port) (l : LinkPort) : (s.setLink p l).regs = s.regs := by cases p <;> rfl
@[simp] theorem State.setLink_mem (s : State) (p : Port) (l : LinkPort) : (s.setLink p l).mem = s.mem := by cases p <;> rfl
@[simp] theorem State.setLink_fuse (s : State) (p : Port) (l : LinkPort) : (s.setLink p l).fuse = s.fuse := by cases p <;> rfl
@[simp] theorem State.setLink_fuseUpset (s : State) (p : Port) (l : LinkPort) : (s.setLink p l).fuseUpset = s.fuseUpset := by cases p <;> rfl
@[simp] theorem State.setLink_clock (s : State) (p : Port) (l : LinkPort) : (s.setLink p l).clock = s.clock := by cases p <;> rfl
@[simp] theorem State.setLink_cells (s : State) (p : Port) (l : LinkPort) : (s.setLink p l).cells = s.cells := by cases p <;> rfl
@[simp] theorem State.setLink_bell (s : State) (p : Port) (l : LinkPort) : (s.setLink p l).bell = s.bell := by cases p <;> rfl
@[simp] theorem State.setLink_epoch (s : State) (p : Port) (l : LinkPort) : (s.setLink p l).epoch = s.epoch := by cases p <;> rfl
@[simp] theorem State.setLink_elems (s : State) (p : Port) (l : LinkPort) : (s.setLink p l).elems = s.elems := by cases p <;> rfl
@[simp] theorem State.setLink_lps (s : State) (p : Port) (l : LinkPort) : (s.setLink p l).lps = s.lps := by cases p <;> rfl
@[simp] theorem State.setLink_trans (s : State) (p : Port) (l : LinkPort) : (s.setLink p l).trans = s.trans := by cases p <;> rfl
@[simp] theorem State.setLink_drv (s : State) (p : Port) (l : LinkPort) : (s.setLink p l).drv = s.drv := by cases p <;> rfl
@[simp] theorem State.setLink_traces (s : State) (p : Port) (l : LinkPort) : (s.setLink p l).traces = s.traces := by cases p <;> rfl
@[simp] theorem State.setLink_tiles (s : State) (p : Port) (l : LinkPort) : (s.setLink p l).tiles = s.tiles := by cases p <;> rfl
@[simp] theorem State.setLink_accs (s : State) (p : Port) (l : LinkPort) : (s.setLink p l).accs = s.accs := by cases p <;> rfl
@[simp] theorem State.setLink_haccs (s : State) (p : Port) (l : LinkPort) : (s.setLink p l).haccs = s.haccs := by cases p <;> rfl
@[simp] theorem State.setLink_pairs (s : State) (p : Port) (l : LinkPort) : (s.setLink p l).pairs = s.pairs := by cases p <;> rfl
@[simp] theorem State.setLink_conv (s : State) (p : Port) (l : LinkPort) : (s.setLink p l).conv = s.conv := by cases p <;> rfl
@[simp] theorem State.setLink_pla (s : State) (p : Port) (l : LinkPort) : (s.setLink p l).pla = s.pla := by cases p <;> rfl
@[simp] theorem State.setLink_plb (s : State) (p : Port) (l : LinkPort) : (s.setLink p l).plb = s.plb := by cases p <;> rfl
@[simp] theorem State.setLink_token (s : State) (p : Port) (l : LinkPort) : (s.setLink p l).token = s.token := by cases p <;> rfl
@[simp] theorem State.setLink_safe (s : State) (p : Port) (l : LinkPort) : (s.setLink p l).safe = s.safe := by cases p <;> rfl
@[simp] theorem State.setLink_therm (s : State) (p : Port) (l : LinkPort) : (s.setLink p l).therm = s.therm := by cases p <;> rfl
@[simp] theorem State.setLink_osc (s : State) (p : Port) (l : LinkPort) : (s.setLink p l).osc = s.osc := by cases p <;> rfl
@[simp] theorem State.setLink_sched (s : State) (p : Port) (l : LinkPort) : (s.setLink p l).sched = s.sched := by cases p <;> rfl
@[simp] theorem State.setLink_obj (s : State) (p : Port) (l : LinkPort) : (s.setLink p l).obj = s.obj := by cases p <;> rfl
@[simp] theorem State.setLink_time (s : State) (p : Port) (l : LinkPort) : (s.setLink p l).time = s.time := by cases p <;> rfl
@[simp] theorem State.setLink_dev (s : State) (p : Port) (l : LinkPort) : (s.setLink p l).dev = s.dev := by cases p <;> rfl
@[simp] theorem State.setLink_jrnl (s : State) (p : Port) (l : LinkPort) : (s.setLink p l).jrnl = s.jrnl := by cases p <;> rfl
@[simp] theorem State.setLink_bist (s : State) (p : Port) (l : LinkPort) : (s.setLink p l).bist = s.bist := by cases p <;> rfl
@[simp] theorem State.setLink_tap (s : State) (p : Port) (l : LinkPort) : (s.setLink p l).tap = s.tap := by cases p <;> rfl
@[simp] theorem State.setLink_chain (s : State) (p : Port) (l : LinkPort) : (s.setLink p l).chain = s.chain := by cases p <;> rfl
@[simp] theorem State.setLink_nint (s : State) (p : Port) (l : LinkPort) : (s.setLink p l).nint = s.nint := by cases p <;> rfl
@[simp] theorem State.setLink_sent (s : State) (p : Port) (l : LinkPort) : (s.setLink p l).sent = s.sent := by cases p <;> rfl
@[simp] theorem State.setLink_pending (s : State) (p : Port) (l : LinkPort) : (s.setLink p l).pending = s.pending := by cases p <;> rfl
@[simp] theorem State.setLink_stamps (s : State) (p : Port) (l : LinkPort) : (s.setLink p l).stamps = s.stamps := by cases p <;> rfl
@[simp] theorem State.setLink_waits (s : State) (p : Port) (l : LinkPort) : (s.setLink p l).waits = s.waits := by cases p <;> rfl

@[simp] theorem State.updLink_regs (s : State) (p : Port) (f : LinkPort → LinkPort) : (s.updLink p f).regs = s.regs := by cases p <;> rfl
@[simp] theorem State.updLink_mem (s : State) (p : Port) (f : LinkPort → LinkPort) : (s.updLink p f).mem = s.mem := by cases p <;> rfl
@[simp] theorem State.updLink_fuse (s : State) (p : Port) (f : LinkPort → LinkPort) : (s.updLink p f).fuse = s.fuse := by cases p <;> rfl
@[simp] theorem State.updLink_fuseUpset (s : State) (p : Port) (f : LinkPort → LinkPort) : (s.updLink p f).fuseUpset = s.fuseUpset := by cases p <;> rfl
@[simp] theorem State.updLink_clock (s : State) (p : Port) (f : LinkPort → LinkPort) : (s.updLink p f).clock = s.clock := by cases p <;> rfl
@[simp] theorem State.updLink_cells (s : State) (p : Port) (f : LinkPort → LinkPort) : (s.updLink p f).cells = s.cells := by cases p <;> rfl
@[simp] theorem State.updLink_bell (s : State) (p : Port) (f : LinkPort → LinkPort) : (s.updLink p f).bell = s.bell := by cases p <;> rfl
@[simp] theorem State.updLink_epoch (s : State) (p : Port) (f : LinkPort → LinkPort) : (s.updLink p f).epoch = s.epoch := by cases p <;> rfl
@[simp] theorem State.updLink_elems (s : State) (p : Port) (f : LinkPort → LinkPort) : (s.updLink p f).elems = s.elems := by cases p <;> rfl
@[simp] theorem State.updLink_lps (s : State) (p : Port) (f : LinkPort → LinkPort) : (s.updLink p f).lps = s.lps := by cases p <;> rfl
@[simp] theorem State.updLink_trans (s : State) (p : Port) (f : LinkPort → LinkPort) : (s.updLink p f).trans = s.trans := by cases p <;> rfl
@[simp] theorem State.updLink_drv (s : State) (p : Port) (f : LinkPort → LinkPort) : (s.updLink p f).drv = s.drv := by cases p <;> rfl
@[simp] theorem State.updLink_traces (s : State) (p : Port) (f : LinkPort → LinkPort) : (s.updLink p f).traces = s.traces := by cases p <;> rfl
@[simp] theorem State.updLink_tiles (s : State) (p : Port) (f : LinkPort → LinkPort) : (s.updLink p f).tiles = s.tiles := by cases p <;> rfl
@[simp] theorem State.updLink_accs (s : State) (p : Port) (f : LinkPort → LinkPort) : (s.updLink p f).accs = s.accs := by cases p <;> rfl
@[simp] theorem State.updLink_haccs (s : State) (p : Port) (f : LinkPort → LinkPort) : (s.updLink p f).haccs = s.haccs := by cases p <;> rfl
@[simp] theorem State.updLink_pairs (s : State) (p : Port) (f : LinkPort → LinkPort) : (s.updLink p f).pairs = s.pairs := by cases p <;> rfl
@[simp] theorem State.updLink_conv (s : State) (p : Port) (f : LinkPort → LinkPort) : (s.updLink p f).conv = s.conv := by cases p <;> rfl
@[simp] theorem State.updLink_pla (s : State) (p : Port) (f : LinkPort → LinkPort) : (s.updLink p f).pla = s.pla := by cases p <;> rfl
@[simp] theorem State.updLink_plb (s : State) (p : Port) (f : LinkPort → LinkPort) : (s.updLink p f).plb = s.plb := by cases p <;> rfl
@[simp] theorem State.updLink_token (s : State) (p : Port) (f : LinkPort → LinkPort) : (s.updLink p f).token = s.token := by cases p <;> rfl
@[simp] theorem State.updLink_safe (s : State) (p : Port) (f : LinkPort → LinkPort) : (s.updLink p f).safe = s.safe := by cases p <;> rfl
@[simp] theorem State.updLink_therm (s : State) (p : Port) (f : LinkPort → LinkPort) : (s.updLink p f).therm = s.therm := by cases p <;> rfl
@[simp] theorem State.updLink_osc (s : State) (p : Port) (f : LinkPort → LinkPort) : (s.updLink p f).osc = s.osc := by cases p <;> rfl
@[simp] theorem State.updLink_sched (s : State) (p : Port) (f : LinkPort → LinkPort) : (s.updLink p f).sched = s.sched := by cases p <;> rfl
@[simp] theorem State.updLink_obj (s : State) (p : Port) (f : LinkPort → LinkPort) : (s.updLink p f).obj = s.obj := by cases p <;> rfl
@[simp] theorem State.updLink_time (s : State) (p : Port) (f : LinkPort → LinkPort) : (s.updLink p f).time = s.time := by cases p <;> rfl
@[simp] theorem State.updLink_dev (s : State) (p : Port) (f : LinkPort → LinkPort) : (s.updLink p f).dev = s.dev := by cases p <;> rfl
@[simp] theorem State.updLink_jrnl (s : State) (p : Port) (f : LinkPort → LinkPort) : (s.updLink p f).jrnl = s.jrnl := by cases p <;> rfl
@[simp] theorem State.updLink_bist (s : State) (p : Port) (f : LinkPort → LinkPort) : (s.updLink p f).bist = s.bist := by cases p <;> rfl
@[simp] theorem State.updLink_tap (s : State) (p : Port) (f : LinkPort → LinkPort) : (s.updLink p f).tap = s.tap := by cases p <;> rfl
@[simp] theorem State.updLink_chain (s : State) (p : Port) (f : LinkPort → LinkPort) : (s.updLink p f).chain = s.chain := by cases p <;> rfl
@[simp] theorem State.updLink_nint (s : State) (p : Port) (f : LinkPort → LinkPort) : (s.updLink p f).nint = s.nint := by cases p <;> rfl
@[simp] theorem State.updLink_sent (s : State) (p : Port) (f : LinkPort → LinkPort) : (s.updLink p f).sent = s.sent := by cases p <;> rfl
@[simp] theorem State.updLink_pending (s : State) (p : Port) (f : LinkPort → LinkPort) : (s.updLink p f).pending = s.pending := by cases p <;> rfl
@[simp] theorem State.updLink_stamps (s : State) (p : Port) (f : LinkPort → LinkPort) : (s.updLink p f).stamps = s.stamps := by cases p <;> rfl
@[simp] theorem State.updLink_waits (s : State) (p : Port) (f : LinkPort → LinkPort) : (s.updLink p f).waits = s.waits := by cases p <;> rfl

@[simp] theorem State.setPlane_regs (s : State) (pl : Plane) (r : PlaneRec) : (s.setPlane pl r).regs = s.regs := by cases pl <;> rfl
@[simp] theorem State.setPlane_mem (s : State) (pl : Plane) (r : PlaneRec) : (s.setPlane pl r).mem = s.mem := by cases pl <;> rfl
@[simp] theorem State.setPlane_fuse (s : State) (pl : Plane) (r : PlaneRec) : (s.setPlane pl r).fuse = s.fuse := by cases pl <;> rfl
@[simp] theorem State.setPlane_fuseUpset (s : State) (pl : Plane) (r : PlaneRec) : (s.setPlane pl r).fuseUpset = s.fuseUpset := by cases pl <;> rfl
@[simp] theorem State.setPlane_clock (s : State) (pl : Plane) (r : PlaneRec) : (s.setPlane pl r).clock = s.clock := by cases pl <;> rfl
@[simp] theorem State.setPlane_cells (s : State) (pl : Plane) (r : PlaneRec) : (s.setPlane pl r).cells = s.cells := by cases pl <;> rfl
@[simp] theorem State.setPlane_bell (s : State) (pl : Plane) (r : PlaneRec) : (s.setPlane pl r).bell = s.bell := by cases pl <;> rfl
@[simp] theorem State.setPlane_epoch (s : State) (pl : Plane) (r : PlaneRec) : (s.setPlane pl r).epoch = s.epoch := by cases pl <;> rfl
@[simp] theorem State.setPlane_elems (s : State) (pl : Plane) (r : PlaneRec) : (s.setPlane pl r).elems = s.elems := by cases pl <;> rfl
@[simp] theorem State.setPlane_lps (s : State) (pl : Plane) (r : PlaneRec) : (s.setPlane pl r).lps = s.lps := by cases pl <;> rfl
@[simp] theorem State.setPlane_trans (s : State) (pl : Plane) (r : PlaneRec) : (s.setPlane pl r).trans = s.trans := by cases pl <;> rfl
@[simp] theorem State.setPlane_drv (s : State) (pl : Plane) (r : PlaneRec) : (s.setPlane pl r).drv = s.drv := by cases pl <;> rfl
@[simp] theorem State.setPlane_traces (s : State) (pl : Plane) (r : PlaneRec) : (s.setPlane pl r).traces = s.traces := by cases pl <;> rfl
@[simp] theorem State.setPlane_tiles (s : State) (pl : Plane) (r : PlaneRec) : (s.setPlane pl r).tiles = s.tiles := by cases pl <;> rfl
@[simp] theorem State.setPlane_accs (s : State) (pl : Plane) (r : PlaneRec) : (s.setPlane pl r).accs = s.accs := by cases pl <;> rfl
@[simp] theorem State.setPlane_haccs (s : State) (pl : Plane) (r : PlaneRec) : (s.setPlane pl r).haccs = s.haccs := by cases pl <;> rfl
@[simp] theorem State.setPlane_pairs (s : State) (pl : Plane) (r : PlaneRec) : (s.setPlane pl r).pairs = s.pairs := by cases pl <;> rfl
@[simp] theorem State.setPlane_conv (s : State) (pl : Plane) (r : PlaneRec) : (s.setPlane pl r).conv = s.conv := by cases pl <;> rfl
@[simp] theorem State.setPlane_token (s : State) (pl : Plane) (r : PlaneRec) : (s.setPlane pl r).token = s.token := by cases pl <;> rfl
@[simp] theorem State.setPlane_safe (s : State) (pl : Plane) (r : PlaneRec) : (s.setPlane pl r).safe = s.safe := by cases pl <;> rfl
@[simp] theorem State.setPlane_therm (s : State) (pl : Plane) (r : PlaneRec) : (s.setPlane pl r).therm = s.therm := by cases pl <;> rfl
@[simp] theorem State.setPlane_osc (s : State) (pl : Plane) (r : PlaneRec) : (s.setPlane pl r).osc = s.osc := by cases pl <;> rfl
@[simp] theorem State.setPlane_sched (s : State) (pl : Plane) (r : PlaneRec) : (s.setPlane pl r).sched = s.sched := by cases pl <;> rfl
@[simp] theorem State.setPlane_obj (s : State) (pl : Plane) (r : PlaneRec) : (s.setPlane pl r).obj = s.obj := by cases pl <;> rfl
@[simp] theorem State.setPlane_time (s : State) (pl : Plane) (r : PlaneRec) : (s.setPlane pl r).time = s.time := by cases pl <;> rfl
@[simp] theorem State.setPlane_dev (s : State) (pl : Plane) (r : PlaneRec) : (s.setPlane pl r).dev = s.dev := by cases pl <;> rfl
@[simp] theorem State.setPlane_jrnl (s : State) (pl : Plane) (r : PlaneRec) : (s.setPlane pl r).jrnl = s.jrnl := by cases pl <;> rfl
@[simp] theorem State.setPlane_bist (s : State) (pl : Plane) (r : PlaneRec) : (s.setPlane pl r).bist = s.bist := by cases pl <;> rfl
@[simp] theorem State.setPlane_tap (s : State) (pl : Plane) (r : PlaneRec) : (s.setPlane pl r).tap = s.tap := by cases pl <;> rfl
@[simp] theorem State.setPlane_e0 (s : State) (pl : Plane) (r : PlaneRec) : (s.setPlane pl r).e0 = s.e0 := by cases pl <;> rfl
@[simp] theorem State.setPlane_e1 (s : State) (pl : Plane) (r : PlaneRec) : (s.setPlane pl r).e1 = s.e1 := by cases pl <;> rfl
@[simp] theorem State.setPlane_chain (s : State) (pl : Plane) (r : PlaneRec) : (s.setPlane pl r).chain = s.chain := by cases pl <;> rfl
@[simp] theorem State.setPlane_nint (s : State) (pl : Plane) (r : PlaneRec) : (s.setPlane pl r).nint = s.nint := by cases pl <;> rfl
@[simp] theorem State.setPlane_sent (s : State) (pl : Plane) (r : PlaneRec) : (s.setPlane pl r).sent = s.sent := by cases pl <;> rfl
@[simp] theorem State.setPlane_pending (s : State) (pl : Plane) (r : PlaneRec) : (s.setPlane pl r).pending = s.pending := by cases pl <;> rfl
@[simp] theorem State.setPlane_stamps (s : State) (pl : Plane) (r : PlaneRec) : (s.setPlane pl r).stamps = s.stamps := by cases pl <;> rfl
@[simp] theorem State.setPlane_waits (s : State) (pl : Plane) (r : PlaneRec) : (s.setPlane pl r).waits = s.waits := by cases pl <;> rfl

@[simp] theorem State.updPlane_regs (s : State) (pl : Plane) (f : PlaneRec → PlaneRec) : (s.updPlane pl f).regs = s.regs := by cases pl <;> rfl
@[simp] theorem State.updPlane_mem (s : State) (pl : Plane) (f : PlaneRec → PlaneRec) : (s.updPlane pl f).mem = s.mem := by cases pl <;> rfl
@[simp] theorem State.updPlane_fuse (s : State) (pl : Plane) (f : PlaneRec → PlaneRec) : (s.updPlane pl f).fuse = s.fuse := by cases pl <;> rfl
@[simp] theorem State.updPlane_fuseUpset (s : State) (pl : Plane) (f : PlaneRec → PlaneRec) : (s.updPlane pl f).fuseUpset = s.fuseUpset := by cases pl <;> rfl
@[simp] theorem State.updPlane_clock (s : State) (pl : Plane) (f : PlaneRec → PlaneRec) : (s.updPlane pl f).clock = s.clock := by cases pl <;> rfl
@[simp] theorem State.updPlane_cells (s : State) (pl : Plane) (f : PlaneRec → PlaneRec) : (s.updPlane pl f).cells = s.cells := by cases pl <;> rfl
@[simp] theorem State.updPlane_bell (s : State) (pl : Plane) (f : PlaneRec → PlaneRec) : (s.updPlane pl f).bell = s.bell := by cases pl <;> rfl
@[simp] theorem State.updPlane_epoch (s : State) (pl : Plane) (f : PlaneRec → PlaneRec) : (s.updPlane pl f).epoch = s.epoch := by cases pl <;> rfl
@[simp] theorem State.updPlane_elems (s : State) (pl : Plane) (f : PlaneRec → PlaneRec) : (s.updPlane pl f).elems = s.elems := by cases pl <;> rfl
@[simp] theorem State.updPlane_lps (s : State) (pl : Plane) (f : PlaneRec → PlaneRec) : (s.updPlane pl f).lps = s.lps := by cases pl <;> rfl
@[simp] theorem State.updPlane_trans (s : State) (pl : Plane) (f : PlaneRec → PlaneRec) : (s.updPlane pl f).trans = s.trans := by cases pl <;> rfl
@[simp] theorem State.updPlane_drv (s : State) (pl : Plane) (f : PlaneRec → PlaneRec) : (s.updPlane pl f).drv = s.drv := by cases pl <;> rfl
@[simp] theorem State.updPlane_traces (s : State) (pl : Plane) (f : PlaneRec → PlaneRec) : (s.updPlane pl f).traces = s.traces := by cases pl <;> rfl
@[simp] theorem State.updPlane_tiles (s : State) (pl : Plane) (f : PlaneRec → PlaneRec) : (s.updPlane pl f).tiles = s.tiles := by cases pl <;> rfl
@[simp] theorem State.updPlane_accs (s : State) (pl : Plane) (f : PlaneRec → PlaneRec) : (s.updPlane pl f).accs = s.accs := by cases pl <;> rfl
@[simp] theorem State.updPlane_haccs (s : State) (pl : Plane) (f : PlaneRec → PlaneRec) : (s.updPlane pl f).haccs = s.haccs := by cases pl <;> rfl
@[simp] theorem State.updPlane_pairs (s : State) (pl : Plane) (f : PlaneRec → PlaneRec) : (s.updPlane pl f).pairs = s.pairs := by cases pl <;> rfl
@[simp] theorem State.updPlane_conv (s : State) (pl : Plane) (f : PlaneRec → PlaneRec) : (s.updPlane pl f).conv = s.conv := by cases pl <;> rfl
@[simp] theorem State.updPlane_token (s : State) (pl : Plane) (f : PlaneRec → PlaneRec) : (s.updPlane pl f).token = s.token := by cases pl <;> rfl
@[simp] theorem State.updPlane_safe (s : State) (pl : Plane) (f : PlaneRec → PlaneRec) : (s.updPlane pl f).safe = s.safe := by cases pl <;> rfl
@[simp] theorem State.updPlane_therm (s : State) (pl : Plane) (f : PlaneRec → PlaneRec) : (s.updPlane pl f).therm = s.therm := by cases pl <;> rfl
@[simp] theorem State.updPlane_osc (s : State) (pl : Plane) (f : PlaneRec → PlaneRec) : (s.updPlane pl f).osc = s.osc := by cases pl <;> rfl
@[simp] theorem State.updPlane_sched (s : State) (pl : Plane) (f : PlaneRec → PlaneRec) : (s.updPlane pl f).sched = s.sched := by cases pl <;> rfl
@[simp] theorem State.updPlane_obj (s : State) (pl : Plane) (f : PlaneRec → PlaneRec) : (s.updPlane pl f).obj = s.obj := by cases pl <;> rfl
@[simp] theorem State.updPlane_time (s : State) (pl : Plane) (f : PlaneRec → PlaneRec) : (s.updPlane pl f).time = s.time := by cases pl <;> rfl
@[simp] theorem State.updPlane_dev (s : State) (pl : Plane) (f : PlaneRec → PlaneRec) : (s.updPlane pl f).dev = s.dev := by cases pl <;> rfl
@[simp] theorem State.updPlane_jrnl (s : State) (pl : Plane) (f : PlaneRec → PlaneRec) : (s.updPlane pl f).jrnl = s.jrnl := by cases pl <;> rfl
@[simp] theorem State.updPlane_bist (s : State) (pl : Plane) (f : PlaneRec → PlaneRec) : (s.updPlane pl f).bist = s.bist := by cases pl <;> rfl
@[simp] theorem State.updPlane_tap (s : State) (pl : Plane) (f : PlaneRec → PlaneRec) : (s.updPlane pl f).tap = s.tap := by cases pl <;> rfl
@[simp] theorem State.updPlane_e0 (s : State) (pl : Plane) (f : PlaneRec → PlaneRec) : (s.updPlane pl f).e0 = s.e0 := by cases pl <;> rfl
@[simp] theorem State.updPlane_e1 (s : State) (pl : Plane) (f : PlaneRec → PlaneRec) : (s.updPlane pl f).e1 = s.e1 := by cases pl <;> rfl
@[simp] theorem State.updPlane_chain (s : State) (pl : Plane) (f : PlaneRec → PlaneRec) : (s.updPlane pl f).chain = s.chain := by cases pl <;> rfl
@[simp] theorem State.updPlane_nint (s : State) (pl : Plane) (f : PlaneRec → PlaneRec) : (s.updPlane pl f).nint = s.nint := by cases pl <;> rfl
@[simp] theorem State.updPlane_sent (s : State) (pl : Plane) (f : PlaneRec → PlaneRec) : (s.updPlane pl f).sent = s.sent := by cases pl <;> rfl
@[simp] theorem State.updPlane_pending (s : State) (pl : Plane) (f : PlaneRec → PlaneRec) : (s.updPlane pl f).pending = s.pending := by cases pl <;> rfl
@[simp] theorem State.updPlane_stamps (s : State) (pl : Plane) (f : PlaneRec → PlaneRec) : (s.updPlane pl f).stamps = s.stamps := by cases pl <;> rfl
@[simp] theorem State.updPlane_waits (s : State) (pl : Plane) (f : PlaneRec → PlaneRec) : (s.updPlane pl f).waits = s.waits := by cases pl <;> rfl

@[simp] theorem State.updBist_regs (s : State) (pl : Plane) (f : BistPlane → BistPlane) : (s.updBist pl f).regs = s.regs := by cases pl <;> rfl
@[simp] theorem State.updBist_mem (s : State) (pl : Plane) (f : BistPlane → BistPlane) : (s.updBist pl f).mem = s.mem := by cases pl <;> rfl
@[simp] theorem State.updBist_fuse (s : State) (pl : Plane) (f : BistPlane → BistPlane) : (s.updBist pl f).fuse = s.fuse := by cases pl <;> rfl
@[simp] theorem State.updBist_fuseUpset (s : State) (pl : Plane) (f : BistPlane → BistPlane) : (s.updBist pl f).fuseUpset = s.fuseUpset := by cases pl <;> rfl
@[simp] theorem State.updBist_clock (s : State) (pl : Plane) (f : BistPlane → BistPlane) : (s.updBist pl f).clock = s.clock := by cases pl <;> rfl
@[simp] theorem State.updBist_cells (s : State) (pl : Plane) (f : BistPlane → BistPlane) : (s.updBist pl f).cells = s.cells := by cases pl <;> rfl
@[simp] theorem State.updBist_bell (s : State) (pl : Plane) (f : BistPlane → BistPlane) : (s.updBist pl f).bell = s.bell := by cases pl <;> rfl
@[simp] theorem State.updBist_epoch (s : State) (pl : Plane) (f : BistPlane → BistPlane) : (s.updBist pl f).epoch = s.epoch := by cases pl <;> rfl
@[simp] theorem State.updBist_elems (s : State) (pl : Plane) (f : BistPlane → BistPlane) : (s.updBist pl f).elems = s.elems := by cases pl <;> rfl
@[simp] theorem State.updBist_lps (s : State) (pl : Plane) (f : BistPlane → BistPlane) : (s.updBist pl f).lps = s.lps := by cases pl <;> rfl
@[simp] theorem State.updBist_trans (s : State) (pl : Plane) (f : BistPlane → BistPlane) : (s.updBist pl f).trans = s.trans := by cases pl <;> rfl
@[simp] theorem State.updBist_drv (s : State) (pl : Plane) (f : BistPlane → BistPlane) : (s.updBist pl f).drv = s.drv := by cases pl <;> rfl
@[simp] theorem State.updBist_traces (s : State) (pl : Plane) (f : BistPlane → BistPlane) : (s.updBist pl f).traces = s.traces := by cases pl <;> rfl
@[simp] theorem State.updBist_tiles (s : State) (pl : Plane) (f : BistPlane → BistPlane) : (s.updBist pl f).tiles = s.tiles := by cases pl <;> rfl
@[simp] theorem State.updBist_accs (s : State) (pl : Plane) (f : BistPlane → BistPlane) : (s.updBist pl f).accs = s.accs := by cases pl <;> rfl
@[simp] theorem State.updBist_haccs (s : State) (pl : Plane) (f : BistPlane → BistPlane) : (s.updBist pl f).haccs = s.haccs := by cases pl <;> rfl
@[simp] theorem State.updBist_pairs (s : State) (pl : Plane) (f : BistPlane → BistPlane) : (s.updBist pl f).pairs = s.pairs := by cases pl <;> rfl
@[simp] theorem State.updBist_conv (s : State) (pl : Plane) (f : BistPlane → BistPlane) : (s.updBist pl f).conv = s.conv := by cases pl <;> rfl
@[simp] theorem State.updBist_pla (s : State) (pl : Plane) (f : BistPlane → BistPlane) : (s.updBist pl f).pla = s.pla := by cases pl <;> rfl
@[simp] theorem State.updBist_plb (s : State) (pl : Plane) (f : BistPlane → BistPlane) : (s.updBist pl f).plb = s.plb := by cases pl <;> rfl
@[simp] theorem State.updBist_token (s : State) (pl : Plane) (f : BistPlane → BistPlane) : (s.updBist pl f).token = s.token := by cases pl <;> rfl
@[simp] theorem State.updBist_safe (s : State) (pl : Plane) (f : BistPlane → BistPlane) : (s.updBist pl f).safe = s.safe := by cases pl <;> rfl
@[simp] theorem State.updBist_therm (s : State) (pl : Plane) (f : BistPlane → BistPlane) : (s.updBist pl f).therm = s.therm := by cases pl <;> rfl
@[simp] theorem State.updBist_osc (s : State) (pl : Plane) (f : BistPlane → BistPlane) : (s.updBist pl f).osc = s.osc := by cases pl <;> rfl
@[simp] theorem State.updBist_sched (s : State) (pl : Plane) (f : BistPlane → BistPlane) : (s.updBist pl f).sched = s.sched := by cases pl <;> rfl
@[simp] theorem State.updBist_obj (s : State) (pl : Plane) (f : BistPlane → BistPlane) : (s.updBist pl f).obj = s.obj := by cases pl <;> rfl
@[simp] theorem State.updBist_time (s : State) (pl : Plane) (f : BistPlane → BistPlane) : (s.updBist pl f).time = s.time := by cases pl <;> rfl
@[simp] theorem State.updBist_dev (s : State) (pl : Plane) (f : BistPlane → BistPlane) : (s.updBist pl f).dev = s.dev := by cases pl <;> rfl
@[simp] theorem State.updBist_jrnl (s : State) (pl : Plane) (f : BistPlane → BistPlane) : (s.updBist pl f).jrnl = s.jrnl := by cases pl <;> rfl
@[simp] theorem State.updBist_tap (s : State) (pl : Plane) (f : BistPlane → BistPlane) : (s.updBist pl f).tap = s.tap := by cases pl <;> rfl
@[simp] theorem State.updBist_e0 (s : State) (pl : Plane) (f : BistPlane → BistPlane) : (s.updBist pl f).e0 = s.e0 := by cases pl <;> rfl
@[simp] theorem State.updBist_e1 (s : State) (pl : Plane) (f : BistPlane → BistPlane) : (s.updBist pl f).e1 = s.e1 := by cases pl <;> rfl
@[simp] theorem State.updBist_chain (s : State) (pl : Plane) (f : BistPlane → BistPlane) : (s.updBist pl f).chain = s.chain := by cases pl <;> rfl
@[simp] theorem State.updBist_nint (s : State) (pl : Plane) (f : BistPlane → BistPlane) : (s.updBist pl f).nint = s.nint := by cases pl <;> rfl
@[simp] theorem State.updBist_sent (s : State) (pl : Plane) (f : BistPlane → BistPlane) : (s.updBist pl f).sent = s.sent := by cases pl <;> rfl
@[simp] theorem State.updBist_pending (s : State) (pl : Plane) (f : BistPlane → BistPlane) : (s.updBist pl f).pending = s.pending := by cases pl <;> rfl
@[simp] theorem State.updBist_stamps (s : State) (pl : Plane) (f : BistPlane → BistPlane) : (s.updBist pl f).stamps = s.stamps := by cases pl <;> rfl
@[simp] theorem State.updBist_waits (s : State) (pl : Plane) (f : BistPlane → BistPlane) : (s.updBist pl f).waits = s.waits := by cases pl <;> rfl

@[simp] theorem State.setJob_regs (s : State) (j : Option BistJob) : (s.setJob j).regs = s.regs := rfl
@[simp] theorem State.setJob_mem (s : State) (j : Option BistJob) : (s.setJob j).mem = s.mem := rfl
@[simp] theorem State.setJob_fuse (s : State) (j : Option BistJob) : (s.setJob j).fuse = s.fuse := rfl
@[simp] theorem State.setJob_fuseUpset (s : State) (j : Option BistJob) : (s.setJob j).fuseUpset = s.fuseUpset := rfl
@[simp] theorem State.setJob_clock (s : State) (j : Option BistJob) : (s.setJob j).clock = s.clock := rfl
@[simp] theorem State.setJob_cells (s : State) (j : Option BistJob) : (s.setJob j).cells = s.cells := rfl
@[simp] theorem State.setJob_bell (s : State) (j : Option BistJob) : (s.setJob j).bell = s.bell := rfl
@[simp] theorem State.setJob_epoch (s : State) (j : Option BistJob) : (s.setJob j).epoch = s.epoch := rfl
@[simp] theorem State.setJob_elems (s : State) (j : Option BistJob) : (s.setJob j).elems = s.elems := rfl
@[simp] theorem State.setJob_lps (s : State) (j : Option BistJob) : (s.setJob j).lps = s.lps := rfl
@[simp] theorem State.setJob_trans (s : State) (j : Option BistJob) : (s.setJob j).trans = s.trans := rfl
@[simp] theorem State.setJob_drv (s : State) (j : Option BistJob) : (s.setJob j).drv = s.drv := rfl
@[simp] theorem State.setJob_traces (s : State) (j : Option BistJob) : (s.setJob j).traces = s.traces := rfl
@[simp] theorem State.setJob_tiles (s : State) (j : Option BistJob) : (s.setJob j).tiles = s.tiles := rfl
@[simp] theorem State.setJob_accs (s : State) (j : Option BistJob) : (s.setJob j).accs = s.accs := rfl
@[simp] theorem State.setJob_haccs (s : State) (j : Option BistJob) : (s.setJob j).haccs = s.haccs := rfl
@[simp] theorem State.setJob_pairs (s : State) (j : Option BistJob) : (s.setJob j).pairs = s.pairs := rfl
@[simp] theorem State.setJob_conv (s : State) (j : Option BistJob) : (s.setJob j).conv = s.conv := rfl
@[simp] theorem State.setJob_pla (s : State) (j : Option BistJob) : (s.setJob j).pla = s.pla := rfl
@[simp] theorem State.setJob_plb (s : State) (j : Option BistJob) : (s.setJob j).plb = s.plb := rfl
@[simp] theorem State.setJob_token (s : State) (j : Option BistJob) : (s.setJob j).token = s.token := rfl
@[simp] theorem State.setJob_safe (s : State) (j : Option BistJob) : (s.setJob j).safe = s.safe := rfl
@[simp] theorem State.setJob_therm (s : State) (j : Option BistJob) : (s.setJob j).therm = s.therm := rfl
@[simp] theorem State.setJob_osc (s : State) (j : Option BistJob) : (s.setJob j).osc = s.osc := rfl
@[simp] theorem State.setJob_sched (s : State) (j : Option BistJob) : (s.setJob j).sched = s.sched := rfl
@[simp] theorem State.setJob_obj (s : State) (j : Option BistJob) : (s.setJob j).obj = s.obj := rfl
@[simp] theorem State.setJob_time (s : State) (j : Option BistJob) : (s.setJob j).time = s.time := rfl
@[simp] theorem State.setJob_dev (s : State) (j : Option BistJob) : (s.setJob j).dev = s.dev := rfl
@[simp] theorem State.setJob_jrnl (s : State) (j : Option BistJob) : (s.setJob j).jrnl = s.jrnl := rfl
@[simp] theorem State.setJob_tap (s : State) (j : Option BistJob) : (s.setJob j).tap = s.tap := rfl
@[simp] theorem State.setJob_e0 (s : State) (j : Option BistJob) : (s.setJob j).e0 = s.e0 := rfl
@[simp] theorem State.setJob_e1 (s : State) (j : Option BistJob) : (s.setJob j).e1 = s.e1 := rfl
@[simp] theorem State.setJob_chain (s : State) (j : Option BistJob) : (s.setJob j).chain = s.chain := rfl
@[simp] theorem State.setJob_nint (s : State) (j : Option BistJob) : (s.setJob j).nint = s.nint := rfl
@[simp] theorem State.setJob_sent (s : State) (j : Option BistJob) : (s.setJob j).sent = s.sent := rfl
@[simp] theorem State.setJob_pending (s : State) (j : Option BistJob) : (s.setJob j).pending = s.pending := rfl
@[simp] theorem State.setJob_stamps (s : State) (j : Option BistJob) : (s.setJob j).stamps = s.stamps := rfl
@[simp] theorem State.setJob_waits (s : State) (j : Option BistJob) : (s.setJob j).waits = s.waits := rfl

@[simp] theorem State.updElem_regs (s : State) (e : Nat) (f : Elem → Elem) : (s.updElem e f).regs = s.regs := rfl
@[simp] theorem State.updElem_mem (s : State) (e : Nat) (f : Elem → Elem) : (s.updElem e f).mem = s.mem := rfl
@[simp] theorem State.updElem_fuse (s : State) (e : Nat) (f : Elem → Elem) : (s.updElem e f).fuse = s.fuse := rfl
@[simp] theorem State.updElem_fuseUpset (s : State) (e : Nat) (f : Elem → Elem) : (s.updElem e f).fuseUpset = s.fuseUpset := rfl
@[simp] theorem State.updElem_clock (s : State) (e : Nat) (f : Elem → Elem) : (s.updElem e f).clock = s.clock := rfl
@[simp] theorem State.updElem_cells (s : State) (e : Nat) (f : Elem → Elem) : (s.updElem e f).cells = s.cells := rfl
@[simp] theorem State.updElem_bell (s : State) (e : Nat) (f : Elem → Elem) : (s.updElem e f).bell = s.bell := rfl
@[simp] theorem State.updElem_epoch (s : State) (e : Nat) (f : Elem → Elem) : (s.updElem e f).epoch = s.epoch := rfl
@[simp] theorem State.updElem_lps (s : State) (e : Nat) (f : Elem → Elem) : (s.updElem e f).lps = s.lps := rfl
@[simp] theorem State.updElem_trans (s : State) (e : Nat) (f : Elem → Elem) : (s.updElem e f).trans = s.trans := rfl
@[simp] theorem State.updElem_drv (s : State) (e : Nat) (f : Elem → Elem) : (s.updElem e f).drv = s.drv := rfl
@[simp] theorem State.updElem_traces (s : State) (e : Nat) (f : Elem → Elem) : (s.updElem e f).traces = s.traces := rfl
@[simp] theorem State.updElem_tiles (s : State) (e : Nat) (f : Elem → Elem) : (s.updElem e f).tiles = s.tiles := rfl
@[simp] theorem State.updElem_accs (s : State) (e : Nat) (f : Elem → Elem) : (s.updElem e f).accs = s.accs := rfl
@[simp] theorem State.updElem_haccs (s : State) (e : Nat) (f : Elem → Elem) : (s.updElem e f).haccs = s.haccs := rfl
@[simp] theorem State.updElem_pairs (s : State) (e : Nat) (f : Elem → Elem) : (s.updElem e f).pairs = s.pairs := rfl
@[simp] theorem State.updElem_conv (s : State) (e : Nat) (f : Elem → Elem) : (s.updElem e f).conv = s.conv := rfl
@[simp] theorem State.updElem_pla (s : State) (e : Nat) (f : Elem → Elem) : (s.updElem e f).pla = s.pla := rfl
@[simp] theorem State.updElem_plb (s : State) (e : Nat) (f : Elem → Elem) : (s.updElem e f).plb = s.plb := rfl
@[simp] theorem State.updElem_token (s : State) (e : Nat) (f : Elem → Elem) : (s.updElem e f).token = s.token := rfl
@[simp] theorem State.updElem_safe (s : State) (e : Nat) (f : Elem → Elem) : (s.updElem e f).safe = s.safe := rfl
@[simp] theorem State.updElem_therm (s : State) (e : Nat) (f : Elem → Elem) : (s.updElem e f).therm = s.therm := rfl
@[simp] theorem State.updElem_osc (s : State) (e : Nat) (f : Elem → Elem) : (s.updElem e f).osc = s.osc := rfl
@[simp] theorem State.updElem_sched (s : State) (e : Nat) (f : Elem → Elem) : (s.updElem e f).sched = s.sched := rfl
@[simp] theorem State.updElem_obj (s : State) (e : Nat) (f : Elem → Elem) : (s.updElem e f).obj = s.obj := rfl
@[simp] theorem State.updElem_time (s : State) (e : Nat) (f : Elem → Elem) : (s.updElem e f).time = s.time := rfl
@[simp] theorem State.updElem_dev (s : State) (e : Nat) (f : Elem → Elem) : (s.updElem e f).dev = s.dev := rfl
@[simp] theorem State.updElem_jrnl (s : State) (e : Nat) (f : Elem → Elem) : (s.updElem e f).jrnl = s.jrnl := rfl
@[simp] theorem State.updElem_bist (s : State) (e : Nat) (f : Elem → Elem) : (s.updElem e f).bist = s.bist := rfl
@[simp] theorem State.updElem_tap (s : State) (e : Nat) (f : Elem → Elem) : (s.updElem e f).tap = s.tap := rfl
@[simp] theorem State.updElem_e0 (s : State) (e : Nat) (f : Elem → Elem) : (s.updElem e f).e0 = s.e0 := rfl
@[simp] theorem State.updElem_e1 (s : State) (e : Nat) (f : Elem → Elem) : (s.updElem e f).e1 = s.e1 := rfl
@[simp] theorem State.updElem_chain (s : State) (e : Nat) (f : Elem → Elem) : (s.updElem e f).chain = s.chain := rfl
@[simp] theorem State.updElem_nint (s : State) (e : Nat) (f : Elem → Elem) : (s.updElem e f).nint = s.nint := rfl
@[simp] theorem State.updElem_sent (s : State) (e : Nat) (f : Elem → Elem) : (s.updElem e f).sent = s.sent := rfl
@[simp] theorem State.updElem_pending (s : State) (e : Nat) (f : Elem → Elem) : (s.updElem e f).pending = s.pending := rfl
@[simp] theorem State.updElem_stamps (s : State) (e : Nat) (f : Elem → Elem) : (s.updElem e f).stamps = s.stamps := rfl
@[simp] theorem State.updElem_waits (s : State) (e : Nat) (f : Elem → Elem) : (s.updElem e f).waits = s.waits := rfl

@[simp] theorem State.updLp_regs (s : State) (pl : Plane) (e : Nat) (f : Lp → Lp) : (s.updLp pl e f).regs = s.regs := rfl
@[simp] theorem State.updLp_mem (s : State) (pl : Plane) (e : Nat) (f : Lp → Lp) : (s.updLp pl e f).mem = s.mem := rfl
@[simp] theorem State.updLp_fuse (s : State) (pl : Plane) (e : Nat) (f : Lp → Lp) : (s.updLp pl e f).fuse = s.fuse := rfl
@[simp] theorem State.updLp_fuseUpset (s : State) (pl : Plane) (e : Nat) (f : Lp → Lp) : (s.updLp pl e f).fuseUpset = s.fuseUpset := rfl
@[simp] theorem State.updLp_clock (s : State) (pl : Plane) (e : Nat) (f : Lp → Lp) : (s.updLp pl e f).clock = s.clock := rfl
@[simp] theorem State.updLp_cells (s : State) (pl : Plane) (e : Nat) (f : Lp → Lp) : (s.updLp pl e f).cells = s.cells := rfl
@[simp] theorem State.updLp_bell (s : State) (pl : Plane) (e : Nat) (f : Lp → Lp) : (s.updLp pl e f).bell = s.bell := rfl
@[simp] theorem State.updLp_epoch (s : State) (pl : Plane) (e : Nat) (f : Lp → Lp) : (s.updLp pl e f).epoch = s.epoch := rfl
@[simp] theorem State.updLp_elems (s : State) (pl : Plane) (e : Nat) (f : Lp → Lp) : (s.updLp pl e f).elems = s.elems := rfl
@[simp] theorem State.updLp_trans (s : State) (pl : Plane) (e : Nat) (f : Lp → Lp) : (s.updLp pl e f).trans = s.trans := rfl
@[simp] theorem State.updLp_drv (s : State) (pl : Plane) (e : Nat) (f : Lp → Lp) : (s.updLp pl e f).drv = s.drv := rfl
@[simp] theorem State.updLp_traces (s : State) (pl : Plane) (e : Nat) (f : Lp → Lp) : (s.updLp pl e f).traces = s.traces := rfl
@[simp] theorem State.updLp_tiles (s : State) (pl : Plane) (e : Nat) (f : Lp → Lp) : (s.updLp pl e f).tiles = s.tiles := rfl
@[simp] theorem State.updLp_accs (s : State) (pl : Plane) (e : Nat) (f : Lp → Lp) : (s.updLp pl e f).accs = s.accs := rfl
@[simp] theorem State.updLp_haccs (s : State) (pl : Plane) (e : Nat) (f : Lp → Lp) : (s.updLp pl e f).haccs = s.haccs := rfl
@[simp] theorem State.updLp_pairs (s : State) (pl : Plane) (e : Nat) (f : Lp → Lp) : (s.updLp pl e f).pairs = s.pairs := rfl
@[simp] theorem State.updLp_conv (s : State) (pl : Plane) (e : Nat) (f : Lp → Lp) : (s.updLp pl e f).conv = s.conv := rfl
@[simp] theorem State.updLp_pla (s : State) (pl : Plane) (e : Nat) (f : Lp → Lp) : (s.updLp pl e f).pla = s.pla := rfl
@[simp] theorem State.updLp_plb (s : State) (pl : Plane) (e : Nat) (f : Lp → Lp) : (s.updLp pl e f).plb = s.plb := rfl
@[simp] theorem State.updLp_token (s : State) (pl : Plane) (e : Nat) (f : Lp → Lp) : (s.updLp pl e f).token = s.token := rfl
@[simp] theorem State.updLp_safe (s : State) (pl : Plane) (e : Nat) (f : Lp → Lp) : (s.updLp pl e f).safe = s.safe := rfl
@[simp] theorem State.updLp_therm (s : State) (pl : Plane) (e : Nat) (f : Lp → Lp) : (s.updLp pl e f).therm = s.therm := rfl
@[simp] theorem State.updLp_osc (s : State) (pl : Plane) (e : Nat) (f : Lp → Lp) : (s.updLp pl e f).osc = s.osc := rfl
@[simp] theorem State.updLp_sched (s : State) (pl : Plane) (e : Nat) (f : Lp → Lp) : (s.updLp pl e f).sched = s.sched := rfl
@[simp] theorem State.updLp_obj (s : State) (pl : Plane) (e : Nat) (f : Lp → Lp) : (s.updLp pl e f).obj = s.obj := rfl
@[simp] theorem State.updLp_time (s : State) (pl : Plane) (e : Nat) (f : Lp → Lp) : (s.updLp pl e f).time = s.time := rfl
@[simp] theorem State.updLp_dev (s : State) (pl : Plane) (e : Nat) (f : Lp → Lp) : (s.updLp pl e f).dev = s.dev := rfl
@[simp] theorem State.updLp_jrnl (s : State) (pl : Plane) (e : Nat) (f : Lp → Lp) : (s.updLp pl e f).jrnl = s.jrnl := rfl
@[simp] theorem State.updLp_bist (s : State) (pl : Plane) (e : Nat) (f : Lp → Lp) : (s.updLp pl e f).bist = s.bist := rfl
@[simp] theorem State.updLp_tap (s : State) (pl : Plane) (e : Nat) (f : Lp → Lp) : (s.updLp pl e f).tap = s.tap := rfl
@[simp] theorem State.updLp_e0 (s : State) (pl : Plane) (e : Nat) (f : Lp → Lp) : (s.updLp pl e f).e0 = s.e0 := rfl
@[simp] theorem State.updLp_e1 (s : State) (pl : Plane) (e : Nat) (f : Lp → Lp) : (s.updLp pl e f).e1 = s.e1 := rfl
@[simp] theorem State.updLp_chain (s : State) (pl : Plane) (e : Nat) (f : Lp → Lp) : (s.updLp pl e f).chain = s.chain := rfl
@[simp] theorem State.updLp_nint (s : State) (pl : Plane) (e : Nat) (f : Lp → Lp) : (s.updLp pl e f).nint = s.nint := rfl
@[simp] theorem State.updLp_sent (s : State) (pl : Plane) (e : Nat) (f : Lp → Lp) : (s.updLp pl e f).sent = s.sent := rfl
@[simp] theorem State.updLp_pending (s : State) (pl : Plane) (e : Nat) (f : Lp → Lp) : (s.updLp pl e f).pending = s.pending := rfl
@[simp] theorem State.updLp_stamps (s : State) (pl : Plane) (e : Nat) (f : Lp → Lp) : (s.updLp pl e f).stamps = s.stamps := rfl
@[simp] theorem State.updLp_waits (s : State) (pl : Plane) (e : Nat) (f : Lp → Lp) : (s.updLp pl e f).waits = s.waits := rfl

@[simp] theorem State.updCell_regs (s : State) (c : Nat) (f : CellRec → CellRec) : (s.updCell c f).regs = s.regs := rfl
@[simp] theorem State.updCell_mem (s : State) (c : Nat) (f : CellRec → CellRec) : (s.updCell c f).mem = s.mem := rfl
@[simp] theorem State.updCell_fuse (s : State) (c : Nat) (f : CellRec → CellRec) : (s.updCell c f).fuse = s.fuse := rfl
@[simp] theorem State.updCell_fuseUpset (s : State) (c : Nat) (f : CellRec → CellRec) : (s.updCell c f).fuseUpset = s.fuseUpset := rfl
@[simp] theorem State.updCell_clock (s : State) (c : Nat) (f : CellRec → CellRec) : (s.updCell c f).clock = s.clock := rfl
@[simp] theorem State.updCell_bell (s : State) (c : Nat) (f : CellRec → CellRec) : (s.updCell c f).bell = s.bell := rfl
@[simp] theorem State.updCell_epoch (s : State) (c : Nat) (f : CellRec → CellRec) : (s.updCell c f).epoch = s.epoch := rfl
@[simp] theorem State.updCell_elems (s : State) (c : Nat) (f : CellRec → CellRec) : (s.updCell c f).elems = s.elems := rfl
@[simp] theorem State.updCell_lps (s : State) (c : Nat) (f : CellRec → CellRec) : (s.updCell c f).lps = s.lps := rfl
@[simp] theorem State.updCell_trans (s : State) (c : Nat) (f : CellRec → CellRec) : (s.updCell c f).trans = s.trans := rfl
@[simp] theorem State.updCell_drv (s : State) (c : Nat) (f : CellRec → CellRec) : (s.updCell c f).drv = s.drv := rfl
@[simp] theorem State.updCell_traces (s : State) (c : Nat) (f : CellRec → CellRec) : (s.updCell c f).traces = s.traces := rfl
@[simp] theorem State.updCell_tiles (s : State) (c : Nat) (f : CellRec → CellRec) : (s.updCell c f).tiles = s.tiles := rfl
@[simp] theorem State.updCell_accs (s : State) (c : Nat) (f : CellRec → CellRec) : (s.updCell c f).accs = s.accs := rfl
@[simp] theorem State.updCell_haccs (s : State) (c : Nat) (f : CellRec → CellRec) : (s.updCell c f).haccs = s.haccs := rfl
@[simp] theorem State.updCell_pairs (s : State) (c : Nat) (f : CellRec → CellRec) : (s.updCell c f).pairs = s.pairs := rfl
@[simp] theorem State.updCell_conv (s : State) (c : Nat) (f : CellRec → CellRec) : (s.updCell c f).conv = s.conv := rfl
@[simp] theorem State.updCell_pla (s : State) (c : Nat) (f : CellRec → CellRec) : (s.updCell c f).pla = s.pla := rfl
@[simp] theorem State.updCell_plb (s : State) (c : Nat) (f : CellRec → CellRec) : (s.updCell c f).plb = s.plb := rfl
@[simp] theorem State.updCell_token (s : State) (c : Nat) (f : CellRec → CellRec) : (s.updCell c f).token = s.token := rfl
@[simp] theorem State.updCell_safe (s : State) (c : Nat) (f : CellRec → CellRec) : (s.updCell c f).safe = s.safe := rfl
@[simp] theorem State.updCell_therm (s : State) (c : Nat) (f : CellRec → CellRec) : (s.updCell c f).therm = s.therm := rfl
@[simp] theorem State.updCell_osc (s : State) (c : Nat) (f : CellRec → CellRec) : (s.updCell c f).osc = s.osc := rfl
@[simp] theorem State.updCell_sched (s : State) (c : Nat) (f : CellRec → CellRec) : (s.updCell c f).sched = s.sched := rfl
@[simp] theorem State.updCell_obj (s : State) (c : Nat) (f : CellRec → CellRec) : (s.updCell c f).obj = s.obj := rfl
@[simp] theorem State.updCell_time (s : State) (c : Nat) (f : CellRec → CellRec) : (s.updCell c f).time = s.time := rfl
@[simp] theorem State.updCell_dev (s : State) (c : Nat) (f : CellRec → CellRec) : (s.updCell c f).dev = s.dev := rfl
@[simp] theorem State.updCell_jrnl (s : State) (c : Nat) (f : CellRec → CellRec) : (s.updCell c f).jrnl = s.jrnl := rfl
@[simp] theorem State.updCell_bist (s : State) (c : Nat) (f : CellRec → CellRec) : (s.updCell c f).bist = s.bist := rfl
@[simp] theorem State.updCell_tap (s : State) (c : Nat) (f : CellRec → CellRec) : (s.updCell c f).tap = s.tap := rfl
@[simp] theorem State.updCell_e0 (s : State) (c : Nat) (f : CellRec → CellRec) : (s.updCell c f).e0 = s.e0 := rfl
@[simp] theorem State.updCell_e1 (s : State) (c : Nat) (f : CellRec → CellRec) : (s.updCell c f).e1 = s.e1 := rfl
@[simp] theorem State.updCell_chain (s : State) (c : Nat) (f : CellRec → CellRec) : (s.updCell c f).chain = s.chain := rfl
@[simp] theorem State.updCell_nint (s : State) (c : Nat) (f : CellRec → CellRec) : (s.updCell c f).nint = s.nint := rfl
@[simp] theorem State.updCell_sent (s : State) (c : Nat) (f : CellRec → CellRec) : (s.updCell c f).sent = s.sent := rfl
@[simp] theorem State.updCell_pending (s : State) (c : Nat) (f : CellRec → CellRec) : (s.updCell c f).pending = s.pending := rfl
@[simp] theorem State.updCell_stamps (s : State) (c : Nat) (f : CellRec → CellRec) : (s.updCell c f).stamps = s.stamps := rfl
@[simp] theorem State.updCell_waits (s : State) (c : Nat) (f : CellRec → CellRec) : (s.updCell c f).waits = s.waits := rfl

@[simp] theorem State.updPair_regs (s : State) (pl : Plane) (t : Nat) (f : Pair → Pair) : (s.updPair pl t f).regs = s.regs := rfl
@[simp] theorem State.updPair_mem (s : State) (pl : Plane) (t : Nat) (f : Pair → Pair) : (s.updPair pl t f).mem = s.mem := rfl
@[simp] theorem State.updPair_fuse (s : State) (pl : Plane) (t : Nat) (f : Pair → Pair) : (s.updPair pl t f).fuse = s.fuse := rfl
@[simp] theorem State.updPair_fuseUpset (s : State) (pl : Plane) (t : Nat) (f : Pair → Pair) : (s.updPair pl t f).fuseUpset = s.fuseUpset := rfl
@[simp] theorem State.updPair_clock (s : State) (pl : Plane) (t : Nat) (f : Pair → Pair) : (s.updPair pl t f).clock = s.clock := rfl
@[simp] theorem State.updPair_cells (s : State) (pl : Plane) (t : Nat) (f : Pair → Pair) : (s.updPair pl t f).cells = s.cells := rfl
@[simp] theorem State.updPair_bell (s : State) (pl : Plane) (t : Nat) (f : Pair → Pair) : (s.updPair pl t f).bell = s.bell := rfl
@[simp] theorem State.updPair_epoch (s : State) (pl : Plane) (t : Nat) (f : Pair → Pair) : (s.updPair pl t f).epoch = s.epoch := rfl
@[simp] theorem State.updPair_elems (s : State) (pl : Plane) (t : Nat) (f : Pair → Pair) : (s.updPair pl t f).elems = s.elems := rfl
@[simp] theorem State.updPair_lps (s : State) (pl : Plane) (t : Nat) (f : Pair → Pair) : (s.updPair pl t f).lps = s.lps := rfl
@[simp] theorem State.updPair_trans (s : State) (pl : Plane) (t : Nat) (f : Pair → Pair) : (s.updPair pl t f).trans = s.trans := rfl
@[simp] theorem State.updPair_drv (s : State) (pl : Plane) (t : Nat) (f : Pair → Pair) : (s.updPair pl t f).drv = s.drv := rfl
@[simp] theorem State.updPair_traces (s : State) (pl : Plane) (t : Nat) (f : Pair → Pair) : (s.updPair pl t f).traces = s.traces := rfl
@[simp] theorem State.updPair_tiles (s : State) (pl : Plane) (t : Nat) (f : Pair → Pair) : (s.updPair pl t f).tiles = s.tiles := rfl
@[simp] theorem State.updPair_accs (s : State) (pl : Plane) (t : Nat) (f : Pair → Pair) : (s.updPair pl t f).accs = s.accs := rfl
@[simp] theorem State.updPair_haccs (s : State) (pl : Plane) (t : Nat) (f : Pair → Pair) : (s.updPair pl t f).haccs = s.haccs := rfl
@[simp] theorem State.updPair_conv (s : State) (pl : Plane) (t : Nat) (f : Pair → Pair) : (s.updPair pl t f).conv = s.conv := rfl
@[simp] theorem State.updPair_pla (s : State) (pl : Plane) (t : Nat) (f : Pair → Pair) : (s.updPair pl t f).pla = s.pla := rfl
@[simp] theorem State.updPair_plb (s : State) (pl : Plane) (t : Nat) (f : Pair → Pair) : (s.updPair pl t f).plb = s.plb := rfl
@[simp] theorem State.updPair_token (s : State) (pl : Plane) (t : Nat) (f : Pair → Pair) : (s.updPair pl t f).token = s.token := rfl
@[simp] theorem State.updPair_safe (s : State) (pl : Plane) (t : Nat) (f : Pair → Pair) : (s.updPair pl t f).safe = s.safe := rfl
@[simp] theorem State.updPair_therm (s : State) (pl : Plane) (t : Nat) (f : Pair → Pair) : (s.updPair pl t f).therm = s.therm := rfl
@[simp] theorem State.updPair_osc (s : State) (pl : Plane) (t : Nat) (f : Pair → Pair) : (s.updPair pl t f).osc = s.osc := rfl
@[simp] theorem State.updPair_sched (s : State) (pl : Plane) (t : Nat) (f : Pair → Pair) : (s.updPair pl t f).sched = s.sched := rfl
@[simp] theorem State.updPair_obj (s : State) (pl : Plane) (t : Nat) (f : Pair → Pair) : (s.updPair pl t f).obj = s.obj := rfl
@[simp] theorem State.updPair_time (s : State) (pl : Plane) (t : Nat) (f : Pair → Pair) : (s.updPair pl t f).time = s.time := rfl
@[simp] theorem State.updPair_dev (s : State) (pl : Plane) (t : Nat) (f : Pair → Pair) : (s.updPair pl t f).dev = s.dev := rfl
@[simp] theorem State.updPair_jrnl (s : State) (pl : Plane) (t : Nat) (f : Pair → Pair) : (s.updPair pl t f).jrnl = s.jrnl := rfl
@[simp] theorem State.updPair_bist (s : State) (pl : Plane) (t : Nat) (f : Pair → Pair) : (s.updPair pl t f).bist = s.bist := rfl
@[simp] theorem State.updPair_tap (s : State) (pl : Plane) (t : Nat) (f : Pair → Pair) : (s.updPair pl t f).tap = s.tap := rfl
@[simp] theorem State.updPair_e0 (s : State) (pl : Plane) (t : Nat) (f : Pair → Pair) : (s.updPair pl t f).e0 = s.e0 := rfl
@[simp] theorem State.updPair_e1 (s : State) (pl : Plane) (t : Nat) (f : Pair → Pair) : (s.updPair pl t f).e1 = s.e1 := rfl
@[simp] theorem State.updPair_chain (s : State) (pl : Plane) (t : Nat) (f : Pair → Pair) : (s.updPair pl t f).chain = s.chain := rfl
@[simp] theorem State.updPair_nint (s : State) (pl : Plane) (t : Nat) (f : Pair → Pair) : (s.updPair pl t f).nint = s.nint := rfl
@[simp] theorem State.updPair_sent (s : State) (pl : Plane) (t : Nat) (f : Pair → Pair) : (s.updPair pl t f).sent = s.sent := rfl
@[simp] theorem State.updPair_pending (s : State) (pl : Plane) (t : Nat) (f : Pair → Pair) : (s.updPair pl t f).pending = s.pending := rfl
@[simp] theorem State.updPair_stamps (s : State) (pl : Plane) (t : Nat) (f : Pair → Pair) : (s.updPair pl t f).stamps = s.stamps := rfl
@[simp] theorem State.updPair_waits (s : State) (pl : Plane) (t : Nat) (f : Pair → Pair) : (s.updPair pl t f).waits = s.waits := rfl

@[simp] theorem State.updTile_regs (s : State) (t : Nat) (f : TileRec → TileRec) : (s.updTile t f).regs = s.regs := rfl
@[simp] theorem State.updTile_mem (s : State) (t : Nat) (f : TileRec → TileRec) : (s.updTile t f).mem = s.mem := rfl
@[simp] theorem State.updTile_fuse (s : State) (t : Nat) (f : TileRec → TileRec) : (s.updTile t f).fuse = s.fuse := rfl
@[simp] theorem State.updTile_fuseUpset (s : State) (t : Nat) (f : TileRec → TileRec) : (s.updTile t f).fuseUpset = s.fuseUpset := rfl
@[simp] theorem State.updTile_clock (s : State) (t : Nat) (f : TileRec → TileRec) : (s.updTile t f).clock = s.clock := rfl
@[simp] theorem State.updTile_cells (s : State) (t : Nat) (f : TileRec → TileRec) : (s.updTile t f).cells = s.cells := rfl
@[simp] theorem State.updTile_bell (s : State) (t : Nat) (f : TileRec → TileRec) : (s.updTile t f).bell = s.bell := rfl
@[simp] theorem State.updTile_epoch (s : State) (t : Nat) (f : TileRec → TileRec) : (s.updTile t f).epoch = s.epoch := rfl
@[simp] theorem State.updTile_elems (s : State) (t : Nat) (f : TileRec → TileRec) : (s.updTile t f).elems = s.elems := rfl
@[simp] theorem State.updTile_lps (s : State) (t : Nat) (f : TileRec → TileRec) : (s.updTile t f).lps = s.lps := rfl
@[simp] theorem State.updTile_trans (s : State) (t : Nat) (f : TileRec → TileRec) : (s.updTile t f).trans = s.trans := rfl
@[simp] theorem State.updTile_drv (s : State) (t : Nat) (f : TileRec → TileRec) : (s.updTile t f).drv = s.drv := rfl
@[simp] theorem State.updTile_traces (s : State) (t : Nat) (f : TileRec → TileRec) : (s.updTile t f).traces = s.traces := rfl
@[simp] theorem State.updTile_accs (s : State) (t : Nat) (f : TileRec → TileRec) : (s.updTile t f).accs = s.accs := rfl
@[simp] theorem State.updTile_haccs (s : State) (t : Nat) (f : TileRec → TileRec) : (s.updTile t f).haccs = s.haccs := rfl
@[simp] theorem State.updTile_pairs (s : State) (t : Nat) (f : TileRec → TileRec) : (s.updTile t f).pairs = s.pairs := rfl
@[simp] theorem State.updTile_conv (s : State) (t : Nat) (f : TileRec → TileRec) : (s.updTile t f).conv = s.conv := rfl
@[simp] theorem State.updTile_pla (s : State) (t : Nat) (f : TileRec → TileRec) : (s.updTile t f).pla = s.pla := rfl
@[simp] theorem State.updTile_plb (s : State) (t : Nat) (f : TileRec → TileRec) : (s.updTile t f).plb = s.plb := rfl
@[simp] theorem State.updTile_token (s : State) (t : Nat) (f : TileRec → TileRec) : (s.updTile t f).token = s.token := rfl
@[simp] theorem State.updTile_safe (s : State) (t : Nat) (f : TileRec → TileRec) : (s.updTile t f).safe = s.safe := rfl
@[simp] theorem State.updTile_therm (s : State) (t : Nat) (f : TileRec → TileRec) : (s.updTile t f).therm = s.therm := rfl
@[simp] theorem State.updTile_osc (s : State) (t : Nat) (f : TileRec → TileRec) : (s.updTile t f).osc = s.osc := rfl
@[simp] theorem State.updTile_sched (s : State) (t : Nat) (f : TileRec → TileRec) : (s.updTile t f).sched = s.sched := rfl
@[simp] theorem State.updTile_obj (s : State) (t : Nat) (f : TileRec → TileRec) : (s.updTile t f).obj = s.obj := rfl
@[simp] theorem State.updTile_time (s : State) (t : Nat) (f : TileRec → TileRec) : (s.updTile t f).time = s.time := rfl
@[simp] theorem State.updTile_dev (s : State) (t : Nat) (f : TileRec → TileRec) : (s.updTile t f).dev = s.dev := rfl
@[simp] theorem State.updTile_jrnl (s : State) (t : Nat) (f : TileRec → TileRec) : (s.updTile t f).jrnl = s.jrnl := rfl
@[simp] theorem State.updTile_bist (s : State) (t : Nat) (f : TileRec → TileRec) : (s.updTile t f).bist = s.bist := rfl
@[simp] theorem State.updTile_tap (s : State) (t : Nat) (f : TileRec → TileRec) : (s.updTile t f).tap = s.tap := rfl
@[simp] theorem State.updTile_e0 (s : State) (t : Nat) (f : TileRec → TileRec) : (s.updTile t f).e0 = s.e0 := rfl
@[simp] theorem State.updTile_e1 (s : State) (t : Nat) (f : TileRec → TileRec) : (s.updTile t f).e1 = s.e1 := rfl
@[simp] theorem State.updTile_chain (s : State) (t : Nat) (f : TileRec → TileRec) : (s.updTile t f).chain = s.chain := rfl
@[simp] theorem State.updTile_nint (s : State) (t : Nat) (f : TileRec → TileRec) : (s.updTile t f).nint = s.nint := rfl
@[simp] theorem State.updTile_sent (s : State) (t : Nat) (f : TileRec → TileRec) : (s.updTile t f).sent = s.sent := rfl
@[simp] theorem State.updTile_pending (s : State) (t : Nat) (f : TileRec → TileRec) : (s.updTile t f).pending = s.pending := rfl
@[simp] theorem State.updTile_stamps (s : State) (t : Nat) (f : TileRec → TileRec) : (s.updTile t f).stamps = s.stamps := rfl
@[simp] theorem State.updTile_waits (s : State) (t : Nat) (f : TileRec → TileRec) : (s.updTile t f).waits = s.waits := rfl

@[simp] theorem State.updTrace_regs (s : State) (k : Nat) (f : TraceCh → TraceCh) : (s.updTrace k f).regs = s.regs := rfl
@[simp] theorem State.updTrace_mem (s : State) (k : Nat) (f : TraceCh → TraceCh) : (s.updTrace k f).mem = s.mem := rfl
@[simp] theorem State.updTrace_fuse (s : State) (k : Nat) (f : TraceCh → TraceCh) : (s.updTrace k f).fuse = s.fuse := rfl
@[simp] theorem State.updTrace_fuseUpset (s : State) (k : Nat) (f : TraceCh → TraceCh) : (s.updTrace k f).fuseUpset = s.fuseUpset := rfl
@[simp] theorem State.updTrace_clock (s : State) (k : Nat) (f : TraceCh → TraceCh) : (s.updTrace k f).clock = s.clock := rfl
@[simp] theorem State.updTrace_cells (s : State) (k : Nat) (f : TraceCh → TraceCh) : (s.updTrace k f).cells = s.cells := rfl
@[simp] theorem State.updTrace_bell (s : State) (k : Nat) (f : TraceCh → TraceCh) : (s.updTrace k f).bell = s.bell := rfl
@[simp] theorem State.updTrace_epoch (s : State) (k : Nat) (f : TraceCh → TraceCh) : (s.updTrace k f).epoch = s.epoch := rfl
@[simp] theorem State.updTrace_elems (s : State) (k : Nat) (f : TraceCh → TraceCh) : (s.updTrace k f).elems = s.elems := rfl
@[simp] theorem State.updTrace_lps (s : State) (k : Nat) (f : TraceCh → TraceCh) : (s.updTrace k f).lps = s.lps := rfl
@[simp] theorem State.updTrace_trans (s : State) (k : Nat) (f : TraceCh → TraceCh) : (s.updTrace k f).trans = s.trans := rfl
@[simp] theorem State.updTrace_drv (s : State) (k : Nat) (f : TraceCh → TraceCh) : (s.updTrace k f).drv = s.drv := rfl
@[simp] theorem State.updTrace_tiles (s : State) (k : Nat) (f : TraceCh → TraceCh) : (s.updTrace k f).tiles = s.tiles := rfl
@[simp] theorem State.updTrace_accs (s : State) (k : Nat) (f : TraceCh → TraceCh) : (s.updTrace k f).accs = s.accs := rfl
@[simp] theorem State.updTrace_haccs (s : State) (k : Nat) (f : TraceCh → TraceCh) : (s.updTrace k f).haccs = s.haccs := rfl
@[simp] theorem State.updTrace_pairs (s : State) (k : Nat) (f : TraceCh → TraceCh) : (s.updTrace k f).pairs = s.pairs := rfl
@[simp] theorem State.updTrace_conv (s : State) (k : Nat) (f : TraceCh → TraceCh) : (s.updTrace k f).conv = s.conv := rfl
@[simp] theorem State.updTrace_pla (s : State) (k : Nat) (f : TraceCh → TraceCh) : (s.updTrace k f).pla = s.pla := rfl
@[simp] theorem State.updTrace_plb (s : State) (k : Nat) (f : TraceCh → TraceCh) : (s.updTrace k f).plb = s.plb := rfl
@[simp] theorem State.updTrace_token (s : State) (k : Nat) (f : TraceCh → TraceCh) : (s.updTrace k f).token = s.token := rfl
@[simp] theorem State.updTrace_safe (s : State) (k : Nat) (f : TraceCh → TraceCh) : (s.updTrace k f).safe = s.safe := rfl
@[simp] theorem State.updTrace_therm (s : State) (k : Nat) (f : TraceCh → TraceCh) : (s.updTrace k f).therm = s.therm := rfl
@[simp] theorem State.updTrace_osc (s : State) (k : Nat) (f : TraceCh → TraceCh) : (s.updTrace k f).osc = s.osc := rfl
@[simp] theorem State.updTrace_sched (s : State) (k : Nat) (f : TraceCh → TraceCh) : (s.updTrace k f).sched = s.sched := rfl
@[simp] theorem State.updTrace_obj (s : State) (k : Nat) (f : TraceCh → TraceCh) : (s.updTrace k f).obj = s.obj := rfl
@[simp] theorem State.updTrace_time (s : State) (k : Nat) (f : TraceCh → TraceCh) : (s.updTrace k f).time = s.time := rfl
@[simp] theorem State.updTrace_dev (s : State) (k : Nat) (f : TraceCh → TraceCh) : (s.updTrace k f).dev = s.dev := rfl
@[simp] theorem State.updTrace_jrnl (s : State) (k : Nat) (f : TraceCh → TraceCh) : (s.updTrace k f).jrnl = s.jrnl := rfl
@[simp] theorem State.updTrace_bist (s : State) (k : Nat) (f : TraceCh → TraceCh) : (s.updTrace k f).bist = s.bist := rfl
@[simp] theorem State.updTrace_tap (s : State) (k : Nat) (f : TraceCh → TraceCh) : (s.updTrace k f).tap = s.tap := rfl
@[simp] theorem State.updTrace_e0 (s : State) (k : Nat) (f : TraceCh → TraceCh) : (s.updTrace k f).e0 = s.e0 := rfl
@[simp] theorem State.updTrace_e1 (s : State) (k : Nat) (f : TraceCh → TraceCh) : (s.updTrace k f).e1 = s.e1 := rfl
@[simp] theorem State.updTrace_chain (s : State) (k : Nat) (f : TraceCh → TraceCh) : (s.updTrace k f).chain = s.chain := rfl
@[simp] theorem State.updTrace_nint (s : State) (k : Nat) (f : TraceCh → TraceCh) : (s.updTrace k f).nint = s.nint := rfl
@[simp] theorem State.updTrace_sent (s : State) (k : Nat) (f : TraceCh → TraceCh) : (s.updTrace k f).sent = s.sent := rfl
@[simp] theorem State.updTrace_pending (s : State) (k : Nat) (f : TraceCh → TraceCh) : (s.updTrace k f).pending = s.pending := rfl
@[simp] theorem State.updTrace_stamps (s : State) (k : Nat) (f : TraceCh → TraceCh) : (s.updTrace k f).stamps = s.stamps := rfl
@[simp] theorem State.updTrace_waits (s : State) (k : Nat) (f : TraceCh → TraceCh) : (s.updTrace k f).waits = s.waits := rfl

@[simp] theorem State.updTrans_regs (s : State) (f : Trans → Trans) : (s.updTrans f).regs = s.regs := rfl
@[simp] theorem State.updTrans_mem (s : State) (f : Trans → Trans) : (s.updTrans f).mem = s.mem := rfl
@[simp] theorem State.updTrans_fuse (s : State) (f : Trans → Trans) : (s.updTrans f).fuse = s.fuse := rfl
@[simp] theorem State.updTrans_fuseUpset (s : State) (f : Trans → Trans) : (s.updTrans f).fuseUpset = s.fuseUpset := rfl
@[simp] theorem State.updTrans_clock (s : State) (f : Trans → Trans) : (s.updTrans f).clock = s.clock := rfl
@[simp] theorem State.updTrans_cells (s : State) (f : Trans → Trans) : (s.updTrans f).cells = s.cells := rfl
@[simp] theorem State.updTrans_bell (s : State) (f : Trans → Trans) : (s.updTrans f).bell = s.bell := rfl
@[simp] theorem State.updTrans_epoch (s : State) (f : Trans → Trans) : (s.updTrans f).epoch = s.epoch := rfl
@[simp] theorem State.updTrans_elems (s : State) (f : Trans → Trans) : (s.updTrans f).elems = s.elems := rfl
@[simp] theorem State.updTrans_lps (s : State) (f : Trans → Trans) : (s.updTrans f).lps = s.lps := rfl
@[simp] theorem State.updTrans_drv (s : State) (f : Trans → Trans) : (s.updTrans f).drv = s.drv := rfl
@[simp] theorem State.updTrans_traces (s : State) (f : Trans → Trans) : (s.updTrans f).traces = s.traces := rfl
@[simp] theorem State.updTrans_tiles (s : State) (f : Trans → Trans) : (s.updTrans f).tiles = s.tiles := rfl
@[simp] theorem State.updTrans_accs (s : State) (f : Trans → Trans) : (s.updTrans f).accs = s.accs := rfl
@[simp] theorem State.updTrans_haccs (s : State) (f : Trans → Trans) : (s.updTrans f).haccs = s.haccs := rfl
@[simp] theorem State.updTrans_pairs (s : State) (f : Trans → Trans) : (s.updTrans f).pairs = s.pairs := rfl
@[simp] theorem State.updTrans_conv (s : State) (f : Trans → Trans) : (s.updTrans f).conv = s.conv := rfl
@[simp] theorem State.updTrans_pla (s : State) (f : Trans → Trans) : (s.updTrans f).pla = s.pla := rfl
@[simp] theorem State.updTrans_plb (s : State) (f : Trans → Trans) : (s.updTrans f).plb = s.plb := rfl
@[simp] theorem State.updTrans_token (s : State) (f : Trans → Trans) : (s.updTrans f).token = s.token := rfl
@[simp] theorem State.updTrans_safe (s : State) (f : Trans → Trans) : (s.updTrans f).safe = s.safe := rfl
@[simp] theorem State.updTrans_therm (s : State) (f : Trans → Trans) : (s.updTrans f).therm = s.therm := rfl
@[simp] theorem State.updTrans_osc (s : State) (f : Trans → Trans) : (s.updTrans f).osc = s.osc := rfl
@[simp] theorem State.updTrans_sched (s : State) (f : Trans → Trans) : (s.updTrans f).sched = s.sched := rfl
@[simp] theorem State.updTrans_obj (s : State) (f : Trans → Trans) : (s.updTrans f).obj = s.obj := rfl
@[simp] theorem State.updTrans_time (s : State) (f : Trans → Trans) : (s.updTrans f).time = s.time := rfl
@[simp] theorem State.updTrans_dev (s : State) (f : Trans → Trans) : (s.updTrans f).dev = s.dev := rfl
@[simp] theorem State.updTrans_jrnl (s : State) (f : Trans → Trans) : (s.updTrans f).jrnl = s.jrnl := rfl
@[simp] theorem State.updTrans_bist (s : State) (f : Trans → Trans) : (s.updTrans f).bist = s.bist := rfl
@[simp] theorem State.updTrans_tap (s : State) (f : Trans → Trans) : (s.updTrans f).tap = s.tap := rfl
@[simp] theorem State.updTrans_e0 (s : State) (f : Trans → Trans) : (s.updTrans f).e0 = s.e0 := rfl
@[simp] theorem State.updTrans_e1 (s : State) (f : Trans → Trans) : (s.updTrans f).e1 = s.e1 := rfl
@[simp] theorem State.updTrans_chain (s : State) (f : Trans → Trans) : (s.updTrans f).chain = s.chain := rfl
@[simp] theorem State.updTrans_nint (s : State) (f : Trans → Trans) : (s.updTrans f).nint = s.nint := rfl
@[simp] theorem State.updTrans_sent (s : State) (f : Trans → Trans) : (s.updTrans f).sent = s.sent := rfl
@[simp] theorem State.updTrans_pending (s : State) (f : Trans → Trans) : (s.updTrans f).pending = s.pending := rfl
@[simp] theorem State.updTrans_stamps (s : State) (f : Trans → Trans) : (s.updTrans f).stamps = s.stamps := rfl
@[simp] theorem State.updTrans_waits (s : State) (f : Trans → Trans) : (s.updTrans f).waits = s.waits := rfl
@[simp] theorem State.updTrans_trans (s : State) (f : Trans → Trans) : (s.updTrans f).trans = f s.trans := rfl

@[simp] theorem State.updDrv_regs (s : State) (f : Drive → Drive) : (s.updDrv f).regs = s.regs := rfl
@[simp] theorem State.updDrv_mem (s : State) (f : Drive → Drive) : (s.updDrv f).mem = s.mem := rfl
@[simp] theorem State.updDrv_fuse (s : State) (f : Drive → Drive) : (s.updDrv f).fuse = s.fuse := rfl
@[simp] theorem State.updDrv_fuseUpset (s : State) (f : Drive → Drive) : (s.updDrv f).fuseUpset = s.fuseUpset := rfl
@[simp] theorem State.updDrv_clock (s : State) (f : Drive → Drive) : (s.updDrv f).clock = s.clock := rfl
@[simp] theorem State.updDrv_cells (s : State) (f : Drive → Drive) : (s.updDrv f).cells = s.cells := rfl
@[simp] theorem State.updDrv_bell (s : State) (f : Drive → Drive) : (s.updDrv f).bell = s.bell := rfl
@[simp] theorem State.updDrv_epoch (s : State) (f : Drive → Drive) : (s.updDrv f).epoch = s.epoch := rfl
@[simp] theorem State.updDrv_elems (s : State) (f : Drive → Drive) : (s.updDrv f).elems = s.elems := rfl
@[simp] theorem State.updDrv_lps (s : State) (f : Drive → Drive) : (s.updDrv f).lps = s.lps := rfl
@[simp] theorem State.updDrv_trans (s : State) (f : Drive → Drive) : (s.updDrv f).trans = s.trans := rfl
@[simp] theorem State.updDrv_traces (s : State) (f : Drive → Drive) : (s.updDrv f).traces = s.traces := rfl
@[simp] theorem State.updDrv_tiles (s : State) (f : Drive → Drive) : (s.updDrv f).tiles = s.tiles := rfl
@[simp] theorem State.updDrv_accs (s : State) (f : Drive → Drive) : (s.updDrv f).accs = s.accs := rfl
@[simp] theorem State.updDrv_haccs (s : State) (f : Drive → Drive) : (s.updDrv f).haccs = s.haccs := rfl
@[simp] theorem State.updDrv_pairs (s : State) (f : Drive → Drive) : (s.updDrv f).pairs = s.pairs := rfl
@[simp] theorem State.updDrv_conv (s : State) (f : Drive → Drive) : (s.updDrv f).conv = s.conv := rfl
@[simp] theorem State.updDrv_pla (s : State) (f : Drive → Drive) : (s.updDrv f).pla = s.pla := rfl
@[simp] theorem State.updDrv_plb (s : State) (f : Drive → Drive) : (s.updDrv f).plb = s.plb := rfl
@[simp] theorem State.updDrv_token (s : State) (f : Drive → Drive) : (s.updDrv f).token = s.token := rfl
@[simp] theorem State.updDrv_safe (s : State) (f : Drive → Drive) : (s.updDrv f).safe = s.safe := rfl
@[simp] theorem State.updDrv_therm (s : State) (f : Drive → Drive) : (s.updDrv f).therm = s.therm := rfl
@[simp] theorem State.updDrv_osc (s : State) (f : Drive → Drive) : (s.updDrv f).osc = s.osc := rfl
@[simp] theorem State.updDrv_sched (s : State) (f : Drive → Drive) : (s.updDrv f).sched = s.sched := rfl
@[simp] theorem State.updDrv_obj (s : State) (f : Drive → Drive) : (s.updDrv f).obj = s.obj := rfl
@[simp] theorem State.updDrv_time (s : State) (f : Drive → Drive) : (s.updDrv f).time = s.time := rfl
@[simp] theorem State.updDrv_dev (s : State) (f : Drive → Drive) : (s.updDrv f).dev = s.dev := rfl
@[simp] theorem State.updDrv_jrnl (s : State) (f : Drive → Drive) : (s.updDrv f).jrnl = s.jrnl := rfl
@[simp] theorem State.updDrv_bist (s : State) (f : Drive → Drive) : (s.updDrv f).bist = s.bist := rfl
@[simp] theorem State.updDrv_tap (s : State) (f : Drive → Drive) : (s.updDrv f).tap = s.tap := rfl
@[simp] theorem State.updDrv_e0 (s : State) (f : Drive → Drive) : (s.updDrv f).e0 = s.e0 := rfl
@[simp] theorem State.updDrv_e1 (s : State) (f : Drive → Drive) : (s.updDrv f).e1 = s.e1 := rfl
@[simp] theorem State.updDrv_chain (s : State) (f : Drive → Drive) : (s.updDrv f).chain = s.chain := rfl
@[simp] theorem State.updDrv_nint (s : State) (f : Drive → Drive) : (s.updDrv f).nint = s.nint := rfl
@[simp] theorem State.updDrv_sent (s : State) (f : Drive → Drive) : (s.updDrv f).sent = s.sent := rfl
@[simp] theorem State.updDrv_pending (s : State) (f : Drive → Drive) : (s.updDrv f).pending = s.pending := rfl
@[simp] theorem State.updDrv_stamps (s : State) (f : Drive → Drive) : (s.updDrv f).stamps = s.stamps := rfl
@[simp] theorem State.updDrv_waits (s : State) (f : Drive → Drive) : (s.updDrv f).waits = s.waits := rfl
@[simp] theorem State.updDrv_drv (s : State) (f : Drive → Drive) : (s.updDrv f).drv = f s.drv := rfl

@[simp] theorem State.updSafe_regs (s : State) (f : SafeSt → SafeSt) : (s.updSafe f).regs = s.regs := rfl
@[simp] theorem State.updSafe_mem (s : State) (f : SafeSt → SafeSt) : (s.updSafe f).mem = s.mem := rfl
@[simp] theorem State.updSafe_fuse (s : State) (f : SafeSt → SafeSt) : (s.updSafe f).fuse = s.fuse := rfl
@[simp] theorem State.updSafe_fuseUpset (s : State) (f : SafeSt → SafeSt) : (s.updSafe f).fuseUpset = s.fuseUpset := rfl
@[simp] theorem State.updSafe_clock (s : State) (f : SafeSt → SafeSt) : (s.updSafe f).clock = s.clock := rfl
@[simp] theorem State.updSafe_cells (s : State) (f : SafeSt → SafeSt) : (s.updSafe f).cells = s.cells := rfl
@[simp] theorem State.updSafe_bell (s : State) (f : SafeSt → SafeSt) : (s.updSafe f).bell = s.bell := rfl
@[simp] theorem State.updSafe_epoch (s : State) (f : SafeSt → SafeSt) : (s.updSafe f).epoch = s.epoch := rfl
@[simp] theorem State.updSafe_elems (s : State) (f : SafeSt → SafeSt) : (s.updSafe f).elems = s.elems := rfl
@[simp] theorem State.updSafe_lps (s : State) (f : SafeSt → SafeSt) : (s.updSafe f).lps = s.lps := rfl
@[simp] theorem State.updSafe_trans (s : State) (f : SafeSt → SafeSt) : (s.updSafe f).trans = s.trans := rfl
@[simp] theorem State.updSafe_drv (s : State) (f : SafeSt → SafeSt) : (s.updSafe f).drv = s.drv := rfl
@[simp] theorem State.updSafe_traces (s : State) (f : SafeSt → SafeSt) : (s.updSafe f).traces = s.traces := rfl
@[simp] theorem State.updSafe_tiles (s : State) (f : SafeSt → SafeSt) : (s.updSafe f).tiles = s.tiles := rfl
@[simp] theorem State.updSafe_accs (s : State) (f : SafeSt → SafeSt) : (s.updSafe f).accs = s.accs := rfl
@[simp] theorem State.updSafe_haccs (s : State) (f : SafeSt → SafeSt) : (s.updSafe f).haccs = s.haccs := rfl
@[simp] theorem State.updSafe_pairs (s : State) (f : SafeSt → SafeSt) : (s.updSafe f).pairs = s.pairs := rfl
@[simp] theorem State.updSafe_conv (s : State) (f : SafeSt → SafeSt) : (s.updSafe f).conv = s.conv := rfl
@[simp] theorem State.updSafe_pla (s : State) (f : SafeSt → SafeSt) : (s.updSafe f).pla = s.pla := rfl
@[simp] theorem State.updSafe_plb (s : State) (f : SafeSt → SafeSt) : (s.updSafe f).plb = s.plb := rfl
@[simp] theorem State.updSafe_token (s : State) (f : SafeSt → SafeSt) : (s.updSafe f).token = s.token := rfl
@[simp] theorem State.updSafe_therm (s : State) (f : SafeSt → SafeSt) : (s.updSafe f).therm = s.therm := rfl
@[simp] theorem State.updSafe_osc (s : State) (f : SafeSt → SafeSt) : (s.updSafe f).osc = s.osc := rfl
@[simp] theorem State.updSafe_sched (s : State) (f : SafeSt → SafeSt) : (s.updSafe f).sched = s.sched := rfl
@[simp] theorem State.updSafe_obj (s : State) (f : SafeSt → SafeSt) : (s.updSafe f).obj = s.obj := rfl
@[simp] theorem State.updSafe_time (s : State) (f : SafeSt → SafeSt) : (s.updSafe f).time = s.time := rfl
@[simp] theorem State.updSafe_dev (s : State) (f : SafeSt → SafeSt) : (s.updSafe f).dev = s.dev := rfl
@[simp] theorem State.updSafe_jrnl (s : State) (f : SafeSt → SafeSt) : (s.updSafe f).jrnl = s.jrnl := rfl
@[simp] theorem State.updSafe_bist (s : State) (f : SafeSt → SafeSt) : (s.updSafe f).bist = s.bist := rfl
@[simp] theorem State.updSafe_tap (s : State) (f : SafeSt → SafeSt) : (s.updSafe f).tap = s.tap := rfl
@[simp] theorem State.updSafe_e0 (s : State) (f : SafeSt → SafeSt) : (s.updSafe f).e0 = s.e0 := rfl
@[simp] theorem State.updSafe_e1 (s : State) (f : SafeSt → SafeSt) : (s.updSafe f).e1 = s.e1 := rfl
@[simp] theorem State.updSafe_chain (s : State) (f : SafeSt → SafeSt) : (s.updSafe f).chain = s.chain := rfl
@[simp] theorem State.updSafe_nint (s : State) (f : SafeSt → SafeSt) : (s.updSafe f).nint = s.nint := rfl
@[simp] theorem State.updSafe_sent (s : State) (f : SafeSt → SafeSt) : (s.updSafe f).sent = s.sent := rfl
@[simp] theorem State.updSafe_pending (s : State) (f : SafeSt → SafeSt) : (s.updSafe f).pending = s.pending := rfl
@[simp] theorem State.updSafe_stamps (s : State) (f : SafeSt → SafeSt) : (s.updSafe f).stamps = s.stamps := rfl
@[simp] theorem State.updSafe_waits (s : State) (f : SafeSt → SafeSt) : (s.updSafe f).waits = s.waits := rfl
@[simp] theorem State.updSafe_safe (s : State) (f : SafeSt → SafeSt) : (s.updSafe f).safe = f s.safe := rfl

@[simp] theorem State.updToken_regs (s : State) (f : TokenSt → TokenSt) : (s.updToken f).regs = s.regs := rfl
@[simp] theorem State.updToken_mem (s : State) (f : TokenSt → TokenSt) : (s.updToken f).mem = s.mem := rfl
@[simp] theorem State.updToken_fuse (s : State) (f : TokenSt → TokenSt) : (s.updToken f).fuse = s.fuse := rfl
@[simp] theorem State.updToken_fuseUpset (s : State) (f : TokenSt → TokenSt) : (s.updToken f).fuseUpset = s.fuseUpset := rfl
@[simp] theorem State.updToken_clock (s : State) (f : TokenSt → TokenSt) : (s.updToken f).clock = s.clock := rfl
@[simp] theorem State.updToken_cells (s : State) (f : TokenSt → TokenSt) : (s.updToken f).cells = s.cells := rfl
@[simp] theorem State.updToken_bell (s : State) (f : TokenSt → TokenSt) : (s.updToken f).bell = s.bell := rfl
@[simp] theorem State.updToken_epoch (s : State) (f : TokenSt → TokenSt) : (s.updToken f).epoch = s.epoch := rfl
@[simp] theorem State.updToken_elems (s : State) (f : TokenSt → TokenSt) : (s.updToken f).elems = s.elems := rfl
@[simp] theorem State.updToken_lps (s : State) (f : TokenSt → TokenSt) : (s.updToken f).lps = s.lps := rfl
@[simp] theorem State.updToken_trans (s : State) (f : TokenSt → TokenSt) : (s.updToken f).trans = s.trans := rfl
@[simp] theorem State.updToken_drv (s : State) (f : TokenSt → TokenSt) : (s.updToken f).drv = s.drv := rfl
@[simp] theorem State.updToken_traces (s : State) (f : TokenSt → TokenSt) : (s.updToken f).traces = s.traces := rfl
@[simp] theorem State.updToken_tiles (s : State) (f : TokenSt → TokenSt) : (s.updToken f).tiles = s.tiles := rfl
@[simp] theorem State.updToken_accs (s : State) (f : TokenSt → TokenSt) : (s.updToken f).accs = s.accs := rfl
@[simp] theorem State.updToken_haccs (s : State) (f : TokenSt → TokenSt) : (s.updToken f).haccs = s.haccs := rfl
@[simp] theorem State.updToken_pairs (s : State) (f : TokenSt → TokenSt) : (s.updToken f).pairs = s.pairs := rfl
@[simp] theorem State.updToken_conv (s : State) (f : TokenSt → TokenSt) : (s.updToken f).conv = s.conv := rfl
@[simp] theorem State.updToken_pla (s : State) (f : TokenSt → TokenSt) : (s.updToken f).pla = s.pla := rfl
@[simp] theorem State.updToken_plb (s : State) (f : TokenSt → TokenSt) : (s.updToken f).plb = s.plb := rfl
@[simp] theorem State.updToken_safe (s : State) (f : TokenSt → TokenSt) : (s.updToken f).safe = s.safe := rfl
@[simp] theorem State.updToken_therm (s : State) (f : TokenSt → TokenSt) : (s.updToken f).therm = s.therm := rfl
@[simp] theorem State.updToken_osc (s : State) (f : TokenSt → TokenSt) : (s.updToken f).osc = s.osc := rfl
@[simp] theorem State.updToken_sched (s : State) (f : TokenSt → TokenSt) : (s.updToken f).sched = s.sched := rfl
@[simp] theorem State.updToken_obj (s : State) (f : TokenSt → TokenSt) : (s.updToken f).obj = s.obj := rfl
@[simp] theorem State.updToken_time (s : State) (f : TokenSt → TokenSt) : (s.updToken f).time = s.time := rfl
@[simp] theorem State.updToken_dev (s : State) (f : TokenSt → TokenSt) : (s.updToken f).dev = s.dev := rfl
@[simp] theorem State.updToken_jrnl (s : State) (f : TokenSt → TokenSt) : (s.updToken f).jrnl = s.jrnl := rfl
@[simp] theorem State.updToken_bist (s : State) (f : TokenSt → TokenSt) : (s.updToken f).bist = s.bist := rfl
@[simp] theorem State.updToken_tap (s : State) (f : TokenSt → TokenSt) : (s.updToken f).tap = s.tap := rfl
@[simp] theorem State.updToken_e0 (s : State) (f : TokenSt → TokenSt) : (s.updToken f).e0 = s.e0 := rfl
@[simp] theorem State.updToken_e1 (s : State) (f : TokenSt → TokenSt) : (s.updToken f).e1 = s.e1 := rfl
@[simp] theorem State.updToken_chain (s : State) (f : TokenSt → TokenSt) : (s.updToken f).chain = s.chain := rfl
@[simp] theorem State.updToken_nint (s : State) (f : TokenSt → TokenSt) : (s.updToken f).nint = s.nint := rfl
@[simp] theorem State.updToken_sent (s : State) (f : TokenSt → TokenSt) : (s.updToken f).sent = s.sent := rfl
@[simp] theorem State.updToken_pending (s : State) (f : TokenSt → TokenSt) : (s.updToken f).pending = s.pending := rfl
@[simp] theorem State.updToken_stamps (s : State) (f : TokenSt → TokenSt) : (s.updToken f).stamps = s.stamps := rfl
@[simp] theorem State.updToken_waits (s : State) (f : TokenSt → TokenSt) : (s.updToken f).waits = s.waits := rfl
@[simp] theorem State.updToken_token (s : State) (f : TokenSt → TokenSt) : (s.updToken f).token = f s.token := rfl

@[simp] theorem State.updConv_regs (s : State) (f : ConvSt → ConvSt) : (s.updConv f).regs = s.regs := rfl
@[simp] theorem State.updConv_mem (s : State) (f : ConvSt → ConvSt) : (s.updConv f).mem = s.mem := rfl
@[simp] theorem State.updConv_fuse (s : State) (f : ConvSt → ConvSt) : (s.updConv f).fuse = s.fuse := rfl
@[simp] theorem State.updConv_fuseUpset (s : State) (f : ConvSt → ConvSt) : (s.updConv f).fuseUpset = s.fuseUpset := rfl
@[simp] theorem State.updConv_clock (s : State) (f : ConvSt → ConvSt) : (s.updConv f).clock = s.clock := rfl
@[simp] theorem State.updConv_cells (s : State) (f : ConvSt → ConvSt) : (s.updConv f).cells = s.cells := rfl
@[simp] theorem State.updConv_bell (s : State) (f : ConvSt → ConvSt) : (s.updConv f).bell = s.bell := rfl
@[simp] theorem State.updConv_epoch (s : State) (f : ConvSt → ConvSt) : (s.updConv f).epoch = s.epoch := rfl
@[simp] theorem State.updConv_elems (s : State) (f : ConvSt → ConvSt) : (s.updConv f).elems = s.elems := rfl
@[simp] theorem State.updConv_lps (s : State) (f : ConvSt → ConvSt) : (s.updConv f).lps = s.lps := rfl
@[simp] theorem State.updConv_trans (s : State) (f : ConvSt → ConvSt) : (s.updConv f).trans = s.trans := rfl
@[simp] theorem State.updConv_drv (s : State) (f : ConvSt → ConvSt) : (s.updConv f).drv = s.drv := rfl
@[simp] theorem State.updConv_traces (s : State) (f : ConvSt → ConvSt) : (s.updConv f).traces = s.traces := rfl
@[simp] theorem State.updConv_tiles (s : State) (f : ConvSt → ConvSt) : (s.updConv f).tiles = s.tiles := rfl
@[simp] theorem State.updConv_accs (s : State) (f : ConvSt → ConvSt) : (s.updConv f).accs = s.accs := rfl
@[simp] theorem State.updConv_haccs (s : State) (f : ConvSt → ConvSt) : (s.updConv f).haccs = s.haccs := rfl
@[simp] theorem State.updConv_pairs (s : State) (f : ConvSt → ConvSt) : (s.updConv f).pairs = s.pairs := rfl
@[simp] theorem State.updConv_pla (s : State) (f : ConvSt → ConvSt) : (s.updConv f).pla = s.pla := rfl
@[simp] theorem State.updConv_plb (s : State) (f : ConvSt → ConvSt) : (s.updConv f).plb = s.plb := rfl
@[simp] theorem State.updConv_token (s : State) (f : ConvSt → ConvSt) : (s.updConv f).token = s.token := rfl
@[simp] theorem State.updConv_safe (s : State) (f : ConvSt → ConvSt) : (s.updConv f).safe = s.safe := rfl
@[simp] theorem State.updConv_therm (s : State) (f : ConvSt → ConvSt) : (s.updConv f).therm = s.therm := rfl
@[simp] theorem State.updConv_osc (s : State) (f : ConvSt → ConvSt) : (s.updConv f).osc = s.osc := rfl
@[simp] theorem State.updConv_sched (s : State) (f : ConvSt → ConvSt) : (s.updConv f).sched = s.sched := rfl
@[simp] theorem State.updConv_obj (s : State) (f : ConvSt → ConvSt) : (s.updConv f).obj = s.obj := rfl
@[simp] theorem State.updConv_time (s : State) (f : ConvSt → ConvSt) : (s.updConv f).time = s.time := rfl
@[simp] theorem State.updConv_dev (s : State) (f : ConvSt → ConvSt) : (s.updConv f).dev = s.dev := rfl
@[simp] theorem State.updConv_jrnl (s : State) (f : ConvSt → ConvSt) : (s.updConv f).jrnl = s.jrnl := rfl
@[simp] theorem State.updConv_bist (s : State) (f : ConvSt → ConvSt) : (s.updConv f).bist = s.bist := rfl
@[simp] theorem State.updConv_tap (s : State) (f : ConvSt → ConvSt) : (s.updConv f).tap = s.tap := rfl
@[simp] theorem State.updConv_e0 (s : State) (f : ConvSt → ConvSt) : (s.updConv f).e0 = s.e0 := rfl
@[simp] theorem State.updConv_e1 (s : State) (f : ConvSt → ConvSt) : (s.updConv f).e1 = s.e1 := rfl
@[simp] theorem State.updConv_chain (s : State) (f : ConvSt → ConvSt) : (s.updConv f).chain = s.chain := rfl
@[simp] theorem State.updConv_nint (s : State) (f : ConvSt → ConvSt) : (s.updConv f).nint = s.nint := rfl
@[simp] theorem State.updConv_sent (s : State) (f : ConvSt → ConvSt) : (s.updConv f).sent = s.sent := rfl
@[simp] theorem State.updConv_pending (s : State) (f : ConvSt → ConvSt) : (s.updConv f).pending = s.pending := rfl
@[simp] theorem State.updConv_stamps (s : State) (f : ConvSt → ConvSt) : (s.updConv f).stamps = s.stamps := rfl
@[simp] theorem State.updConv_waits (s : State) (f : ConvSt → ConvSt) : (s.updConv f).waits = s.waits := rfl
@[simp] theorem State.updConv_conv (s : State) (f : ConvSt → ConvSt) : (s.updConv f).conv = f s.conv := rfl

@[simp] theorem State.updJrnl_regs (s : State) (f : JrnlSt → JrnlSt) : (s.updJrnl f).regs = s.regs := rfl
@[simp] theorem State.updJrnl_mem (s : State) (f : JrnlSt → JrnlSt) : (s.updJrnl f).mem = s.mem := rfl
@[simp] theorem State.updJrnl_fuse (s : State) (f : JrnlSt → JrnlSt) : (s.updJrnl f).fuse = s.fuse := rfl
@[simp] theorem State.updJrnl_fuseUpset (s : State) (f : JrnlSt → JrnlSt) : (s.updJrnl f).fuseUpset = s.fuseUpset := rfl
@[simp] theorem State.updJrnl_clock (s : State) (f : JrnlSt → JrnlSt) : (s.updJrnl f).clock = s.clock := rfl
@[simp] theorem State.updJrnl_cells (s : State) (f : JrnlSt → JrnlSt) : (s.updJrnl f).cells = s.cells := rfl
@[simp] theorem State.updJrnl_bell (s : State) (f : JrnlSt → JrnlSt) : (s.updJrnl f).bell = s.bell := rfl
@[simp] theorem State.updJrnl_epoch (s : State) (f : JrnlSt → JrnlSt) : (s.updJrnl f).epoch = s.epoch := rfl
@[simp] theorem State.updJrnl_elems (s : State) (f : JrnlSt → JrnlSt) : (s.updJrnl f).elems = s.elems := rfl
@[simp] theorem State.updJrnl_lps (s : State) (f : JrnlSt → JrnlSt) : (s.updJrnl f).lps = s.lps := rfl
@[simp] theorem State.updJrnl_trans (s : State) (f : JrnlSt → JrnlSt) : (s.updJrnl f).trans = s.trans := rfl
@[simp] theorem State.updJrnl_drv (s : State) (f : JrnlSt → JrnlSt) : (s.updJrnl f).drv = s.drv := rfl
@[simp] theorem State.updJrnl_traces (s : State) (f : JrnlSt → JrnlSt) : (s.updJrnl f).traces = s.traces := rfl
@[simp] theorem State.updJrnl_tiles (s : State) (f : JrnlSt → JrnlSt) : (s.updJrnl f).tiles = s.tiles := rfl
@[simp] theorem State.updJrnl_accs (s : State) (f : JrnlSt → JrnlSt) : (s.updJrnl f).accs = s.accs := rfl
@[simp] theorem State.updJrnl_haccs (s : State) (f : JrnlSt → JrnlSt) : (s.updJrnl f).haccs = s.haccs := rfl
@[simp] theorem State.updJrnl_pairs (s : State) (f : JrnlSt → JrnlSt) : (s.updJrnl f).pairs = s.pairs := rfl
@[simp] theorem State.updJrnl_conv (s : State) (f : JrnlSt → JrnlSt) : (s.updJrnl f).conv = s.conv := rfl
@[simp] theorem State.updJrnl_pla (s : State) (f : JrnlSt → JrnlSt) : (s.updJrnl f).pla = s.pla := rfl
@[simp] theorem State.updJrnl_plb (s : State) (f : JrnlSt → JrnlSt) : (s.updJrnl f).plb = s.plb := rfl
@[simp] theorem State.updJrnl_token (s : State) (f : JrnlSt → JrnlSt) : (s.updJrnl f).token = s.token := rfl
@[simp] theorem State.updJrnl_safe (s : State) (f : JrnlSt → JrnlSt) : (s.updJrnl f).safe = s.safe := rfl
@[simp] theorem State.updJrnl_therm (s : State) (f : JrnlSt → JrnlSt) : (s.updJrnl f).therm = s.therm := rfl
@[simp] theorem State.updJrnl_osc (s : State) (f : JrnlSt → JrnlSt) : (s.updJrnl f).osc = s.osc := rfl
@[simp] theorem State.updJrnl_sched (s : State) (f : JrnlSt → JrnlSt) : (s.updJrnl f).sched = s.sched := rfl
@[simp] theorem State.updJrnl_obj (s : State) (f : JrnlSt → JrnlSt) : (s.updJrnl f).obj = s.obj := rfl
@[simp] theorem State.updJrnl_time (s : State) (f : JrnlSt → JrnlSt) : (s.updJrnl f).time = s.time := rfl
@[simp] theorem State.updJrnl_dev (s : State) (f : JrnlSt → JrnlSt) : (s.updJrnl f).dev = s.dev := rfl
@[simp] theorem State.updJrnl_bist (s : State) (f : JrnlSt → JrnlSt) : (s.updJrnl f).bist = s.bist := rfl
@[simp] theorem State.updJrnl_tap (s : State) (f : JrnlSt → JrnlSt) : (s.updJrnl f).tap = s.tap := rfl
@[simp] theorem State.updJrnl_e0 (s : State) (f : JrnlSt → JrnlSt) : (s.updJrnl f).e0 = s.e0 := rfl
@[simp] theorem State.updJrnl_e1 (s : State) (f : JrnlSt → JrnlSt) : (s.updJrnl f).e1 = s.e1 := rfl
@[simp] theorem State.updJrnl_chain (s : State) (f : JrnlSt → JrnlSt) : (s.updJrnl f).chain = s.chain := rfl
@[simp] theorem State.updJrnl_nint (s : State) (f : JrnlSt → JrnlSt) : (s.updJrnl f).nint = s.nint := rfl
@[simp] theorem State.updJrnl_sent (s : State) (f : JrnlSt → JrnlSt) : (s.updJrnl f).sent = s.sent := rfl
@[simp] theorem State.updJrnl_pending (s : State) (f : JrnlSt → JrnlSt) : (s.updJrnl f).pending = s.pending := rfl
@[simp] theorem State.updJrnl_stamps (s : State) (f : JrnlSt → JrnlSt) : (s.updJrnl f).stamps = s.stamps := rfl
@[simp] theorem State.updJrnl_waits (s : State) (f : JrnlSt → JrnlSt) : (s.updJrnl f).waits = s.waits := rfl
@[simp] theorem State.updJrnl_jrnl (s : State) (f : JrnlSt → JrnlSt) : (s.updJrnl f).jrnl = f s.jrnl := rfl

@[simp] theorem State.updObj_regs (s : State) (f : ObjSt → ObjSt) : (s.updObj f).regs = s.regs := rfl
@[simp] theorem State.updObj_mem (s : State) (f : ObjSt → ObjSt) : (s.updObj f).mem = s.mem := rfl
@[simp] theorem State.updObj_fuse (s : State) (f : ObjSt → ObjSt) : (s.updObj f).fuse = s.fuse := rfl
@[simp] theorem State.updObj_fuseUpset (s : State) (f : ObjSt → ObjSt) : (s.updObj f).fuseUpset = s.fuseUpset := rfl
@[simp] theorem State.updObj_clock (s : State) (f : ObjSt → ObjSt) : (s.updObj f).clock = s.clock := rfl
@[simp] theorem State.updObj_cells (s : State) (f : ObjSt → ObjSt) : (s.updObj f).cells = s.cells := rfl
@[simp] theorem State.updObj_bell (s : State) (f : ObjSt → ObjSt) : (s.updObj f).bell = s.bell := rfl
@[simp] theorem State.updObj_epoch (s : State) (f : ObjSt → ObjSt) : (s.updObj f).epoch = s.epoch := rfl
@[simp] theorem State.updObj_elems (s : State) (f : ObjSt → ObjSt) : (s.updObj f).elems = s.elems := rfl
@[simp] theorem State.updObj_lps (s : State) (f : ObjSt → ObjSt) : (s.updObj f).lps = s.lps := rfl
@[simp] theorem State.updObj_trans (s : State) (f : ObjSt → ObjSt) : (s.updObj f).trans = s.trans := rfl
@[simp] theorem State.updObj_drv (s : State) (f : ObjSt → ObjSt) : (s.updObj f).drv = s.drv := rfl
@[simp] theorem State.updObj_traces (s : State) (f : ObjSt → ObjSt) : (s.updObj f).traces = s.traces := rfl
@[simp] theorem State.updObj_tiles (s : State) (f : ObjSt → ObjSt) : (s.updObj f).tiles = s.tiles := rfl
@[simp] theorem State.updObj_accs (s : State) (f : ObjSt → ObjSt) : (s.updObj f).accs = s.accs := rfl
@[simp] theorem State.updObj_haccs (s : State) (f : ObjSt → ObjSt) : (s.updObj f).haccs = s.haccs := rfl
@[simp] theorem State.updObj_pairs (s : State) (f : ObjSt → ObjSt) : (s.updObj f).pairs = s.pairs := rfl
@[simp] theorem State.updObj_conv (s : State) (f : ObjSt → ObjSt) : (s.updObj f).conv = s.conv := rfl
@[simp] theorem State.updObj_pla (s : State) (f : ObjSt → ObjSt) : (s.updObj f).pla = s.pla := rfl
@[simp] theorem State.updObj_plb (s : State) (f : ObjSt → ObjSt) : (s.updObj f).plb = s.plb := rfl
@[simp] theorem State.updObj_token (s : State) (f : ObjSt → ObjSt) : (s.updObj f).token = s.token := rfl
@[simp] theorem State.updObj_safe (s : State) (f : ObjSt → ObjSt) : (s.updObj f).safe = s.safe := rfl
@[simp] theorem State.updObj_therm (s : State) (f : ObjSt → ObjSt) : (s.updObj f).therm = s.therm := rfl
@[simp] theorem State.updObj_osc (s : State) (f : ObjSt → ObjSt) : (s.updObj f).osc = s.osc := rfl
@[simp] theorem State.updObj_sched (s : State) (f : ObjSt → ObjSt) : (s.updObj f).sched = s.sched := rfl
@[simp] theorem State.updObj_time (s : State) (f : ObjSt → ObjSt) : (s.updObj f).time = s.time := rfl
@[simp] theorem State.updObj_dev (s : State) (f : ObjSt → ObjSt) : (s.updObj f).dev = s.dev := rfl
@[simp] theorem State.updObj_jrnl (s : State) (f : ObjSt → ObjSt) : (s.updObj f).jrnl = s.jrnl := rfl
@[simp] theorem State.updObj_bist (s : State) (f : ObjSt → ObjSt) : (s.updObj f).bist = s.bist := rfl
@[simp] theorem State.updObj_tap (s : State) (f : ObjSt → ObjSt) : (s.updObj f).tap = s.tap := rfl
@[simp] theorem State.updObj_e0 (s : State) (f : ObjSt → ObjSt) : (s.updObj f).e0 = s.e0 := rfl
@[simp] theorem State.updObj_e1 (s : State) (f : ObjSt → ObjSt) : (s.updObj f).e1 = s.e1 := rfl
@[simp] theorem State.updObj_chain (s : State) (f : ObjSt → ObjSt) : (s.updObj f).chain = s.chain := rfl
@[simp] theorem State.updObj_nint (s : State) (f : ObjSt → ObjSt) : (s.updObj f).nint = s.nint := rfl
@[simp] theorem State.updObj_sent (s : State) (f : ObjSt → ObjSt) : (s.updObj f).sent = s.sent := rfl
@[simp] theorem State.updObj_pending (s : State) (f : ObjSt → ObjSt) : (s.updObj f).pending = s.pending := rfl
@[simp] theorem State.updObj_stamps (s : State) (f : ObjSt → ObjSt) : (s.updObj f).stamps = s.stamps := rfl
@[simp] theorem State.updObj_waits (s : State) (f : ObjSt → ObjSt) : (s.updObj f).waits = s.waits := rfl
@[simp] theorem State.updObj_obj (s : State) (f : ObjSt → ObjSt) : (s.updObj f).obj = f s.obj := rfl

@[simp] theorem State.updDev_regs (s : State) (f : DevSt → DevSt) : (s.updDev f).regs = s.regs := rfl
@[simp] theorem State.updDev_mem (s : State) (f : DevSt → DevSt) : (s.updDev f).mem = s.mem := rfl
@[simp] theorem State.updDev_fuse (s : State) (f : DevSt → DevSt) : (s.updDev f).fuse = s.fuse := rfl
@[simp] theorem State.updDev_fuseUpset (s : State) (f : DevSt → DevSt) : (s.updDev f).fuseUpset = s.fuseUpset := rfl
@[simp] theorem State.updDev_clock (s : State) (f : DevSt → DevSt) : (s.updDev f).clock = s.clock := rfl
@[simp] theorem State.updDev_cells (s : State) (f : DevSt → DevSt) : (s.updDev f).cells = s.cells := rfl
@[simp] theorem State.updDev_bell (s : State) (f : DevSt → DevSt) : (s.updDev f).bell = s.bell := rfl
@[simp] theorem State.updDev_epoch (s : State) (f : DevSt → DevSt) : (s.updDev f).epoch = s.epoch := rfl
@[simp] theorem State.updDev_elems (s : State) (f : DevSt → DevSt) : (s.updDev f).elems = s.elems := rfl
@[simp] theorem State.updDev_lps (s : State) (f : DevSt → DevSt) : (s.updDev f).lps = s.lps := rfl
@[simp] theorem State.updDev_trans (s : State) (f : DevSt → DevSt) : (s.updDev f).trans = s.trans := rfl
@[simp] theorem State.updDev_drv (s : State) (f : DevSt → DevSt) : (s.updDev f).drv = s.drv := rfl
@[simp] theorem State.updDev_traces (s : State) (f : DevSt → DevSt) : (s.updDev f).traces = s.traces := rfl
@[simp] theorem State.updDev_tiles (s : State) (f : DevSt → DevSt) : (s.updDev f).tiles = s.tiles := rfl
@[simp] theorem State.updDev_accs (s : State) (f : DevSt → DevSt) : (s.updDev f).accs = s.accs := rfl
@[simp] theorem State.updDev_haccs (s : State) (f : DevSt → DevSt) : (s.updDev f).haccs = s.haccs := rfl
@[simp] theorem State.updDev_pairs (s : State) (f : DevSt → DevSt) : (s.updDev f).pairs = s.pairs := rfl
@[simp] theorem State.updDev_conv (s : State) (f : DevSt → DevSt) : (s.updDev f).conv = s.conv := rfl
@[simp] theorem State.updDev_pla (s : State) (f : DevSt → DevSt) : (s.updDev f).pla = s.pla := rfl
@[simp] theorem State.updDev_plb (s : State) (f : DevSt → DevSt) : (s.updDev f).plb = s.plb := rfl
@[simp] theorem State.updDev_token (s : State) (f : DevSt → DevSt) : (s.updDev f).token = s.token := rfl
@[simp] theorem State.updDev_safe (s : State) (f : DevSt → DevSt) : (s.updDev f).safe = s.safe := rfl
@[simp] theorem State.updDev_therm (s : State) (f : DevSt → DevSt) : (s.updDev f).therm = s.therm := rfl
@[simp] theorem State.updDev_osc (s : State) (f : DevSt → DevSt) : (s.updDev f).osc = s.osc := rfl
@[simp] theorem State.updDev_sched (s : State) (f : DevSt → DevSt) : (s.updDev f).sched = s.sched := rfl
@[simp] theorem State.updDev_obj (s : State) (f : DevSt → DevSt) : (s.updDev f).obj = s.obj := rfl
@[simp] theorem State.updDev_time (s : State) (f : DevSt → DevSt) : (s.updDev f).time = s.time := rfl
@[simp] theorem State.updDev_jrnl (s : State) (f : DevSt → DevSt) : (s.updDev f).jrnl = s.jrnl := rfl
@[simp] theorem State.updDev_bist (s : State) (f : DevSt → DevSt) : (s.updDev f).bist = s.bist := rfl
@[simp] theorem State.updDev_tap (s : State) (f : DevSt → DevSt) : (s.updDev f).tap = s.tap := rfl
@[simp] theorem State.updDev_e0 (s : State) (f : DevSt → DevSt) : (s.updDev f).e0 = s.e0 := rfl
@[simp] theorem State.updDev_e1 (s : State) (f : DevSt → DevSt) : (s.updDev f).e1 = s.e1 := rfl
@[simp] theorem State.updDev_chain (s : State) (f : DevSt → DevSt) : (s.updDev f).chain = s.chain := rfl
@[simp] theorem State.updDev_nint (s : State) (f : DevSt → DevSt) : (s.updDev f).nint = s.nint := rfl
@[simp] theorem State.updDev_sent (s : State) (f : DevSt → DevSt) : (s.updDev f).sent = s.sent := rfl
@[simp] theorem State.updDev_pending (s : State) (f : DevSt → DevSt) : (s.updDev f).pending = s.pending := rfl
@[simp] theorem State.updDev_stamps (s : State) (f : DevSt → DevSt) : (s.updDev f).stamps = s.stamps := rfl
@[simp] theorem State.updDev_waits (s : State) (f : DevSt → DevSt) : (s.updDev f).waits = s.waits := rfl
@[simp] theorem State.updDev_dev (s : State) (f : DevSt → DevSt) : (s.updDev f).dev = f s.dev := rfl

@[simp] theorem State.updSched_regs (s : State) (f : SchedSt → SchedSt) : (s.updSched f).regs = s.regs := rfl
@[simp] theorem State.updSched_mem (s : State) (f : SchedSt → SchedSt) : (s.updSched f).mem = s.mem := rfl
@[simp] theorem State.updSched_fuse (s : State) (f : SchedSt → SchedSt) : (s.updSched f).fuse = s.fuse := rfl
@[simp] theorem State.updSched_fuseUpset (s : State) (f : SchedSt → SchedSt) : (s.updSched f).fuseUpset = s.fuseUpset := rfl
@[simp] theorem State.updSched_clock (s : State) (f : SchedSt → SchedSt) : (s.updSched f).clock = s.clock := rfl
@[simp] theorem State.updSched_cells (s : State) (f : SchedSt → SchedSt) : (s.updSched f).cells = s.cells := rfl
@[simp] theorem State.updSched_bell (s : State) (f : SchedSt → SchedSt) : (s.updSched f).bell = s.bell := rfl
@[simp] theorem State.updSched_epoch (s : State) (f : SchedSt → SchedSt) : (s.updSched f).epoch = s.epoch := rfl
@[simp] theorem State.updSched_elems (s : State) (f : SchedSt → SchedSt) : (s.updSched f).elems = s.elems := rfl
@[simp] theorem State.updSched_lps (s : State) (f : SchedSt → SchedSt) : (s.updSched f).lps = s.lps := rfl
@[simp] theorem State.updSched_trans (s : State) (f : SchedSt → SchedSt) : (s.updSched f).trans = s.trans := rfl
@[simp] theorem State.updSched_drv (s : State) (f : SchedSt → SchedSt) : (s.updSched f).drv = s.drv := rfl
@[simp] theorem State.updSched_traces (s : State) (f : SchedSt → SchedSt) : (s.updSched f).traces = s.traces := rfl
@[simp] theorem State.updSched_tiles (s : State) (f : SchedSt → SchedSt) : (s.updSched f).tiles = s.tiles := rfl
@[simp] theorem State.updSched_accs (s : State) (f : SchedSt → SchedSt) : (s.updSched f).accs = s.accs := rfl
@[simp] theorem State.updSched_haccs (s : State) (f : SchedSt → SchedSt) : (s.updSched f).haccs = s.haccs := rfl
@[simp] theorem State.updSched_pairs (s : State) (f : SchedSt → SchedSt) : (s.updSched f).pairs = s.pairs := rfl
@[simp] theorem State.updSched_conv (s : State) (f : SchedSt → SchedSt) : (s.updSched f).conv = s.conv := rfl
@[simp] theorem State.updSched_pla (s : State) (f : SchedSt → SchedSt) : (s.updSched f).pla = s.pla := rfl
@[simp] theorem State.updSched_plb (s : State) (f : SchedSt → SchedSt) : (s.updSched f).plb = s.plb := rfl
@[simp] theorem State.updSched_token (s : State) (f : SchedSt → SchedSt) : (s.updSched f).token = s.token := rfl
@[simp] theorem State.updSched_safe (s : State) (f : SchedSt → SchedSt) : (s.updSched f).safe = s.safe := rfl
@[simp] theorem State.updSched_therm (s : State) (f : SchedSt → SchedSt) : (s.updSched f).therm = s.therm := rfl
@[simp] theorem State.updSched_osc (s : State) (f : SchedSt → SchedSt) : (s.updSched f).osc = s.osc := rfl
@[simp] theorem State.updSched_obj (s : State) (f : SchedSt → SchedSt) : (s.updSched f).obj = s.obj := rfl
@[simp] theorem State.updSched_time (s : State) (f : SchedSt → SchedSt) : (s.updSched f).time = s.time := rfl
@[simp] theorem State.updSched_dev (s : State) (f : SchedSt → SchedSt) : (s.updSched f).dev = s.dev := rfl
@[simp] theorem State.updSched_jrnl (s : State) (f : SchedSt → SchedSt) : (s.updSched f).jrnl = s.jrnl := rfl
@[simp] theorem State.updSched_bist (s : State) (f : SchedSt → SchedSt) : (s.updSched f).bist = s.bist := rfl
@[simp] theorem State.updSched_tap (s : State) (f : SchedSt → SchedSt) : (s.updSched f).tap = s.tap := rfl
@[simp] theorem State.updSched_e0 (s : State) (f : SchedSt → SchedSt) : (s.updSched f).e0 = s.e0 := rfl
@[simp] theorem State.updSched_e1 (s : State) (f : SchedSt → SchedSt) : (s.updSched f).e1 = s.e1 := rfl
@[simp] theorem State.updSched_chain (s : State) (f : SchedSt → SchedSt) : (s.updSched f).chain = s.chain := rfl
@[simp] theorem State.updSched_nint (s : State) (f : SchedSt → SchedSt) : (s.updSched f).nint = s.nint := rfl
@[simp] theorem State.updSched_sent (s : State) (f : SchedSt → SchedSt) : (s.updSched f).sent = s.sent := rfl
@[simp] theorem State.updSched_pending (s : State) (f : SchedSt → SchedSt) : (s.updSched f).pending = s.pending := rfl
@[simp] theorem State.updSched_stamps (s : State) (f : SchedSt → SchedSt) : (s.updSched f).stamps = s.stamps := rfl
@[simp] theorem State.updSched_waits (s : State) (f : SchedSt → SchedSt) : (s.updSched f).waits = s.waits := rfl
@[simp] theorem State.updSched_sched (s : State) (f : SchedSt → SchedSt) : (s.updSched f).sched = f s.sched := rfl

@[simp] theorem State.updOsc_regs (s : State) (f : OscSt → OscSt) : (s.updOsc f).regs = s.regs := rfl
@[simp] theorem State.updOsc_mem (s : State) (f : OscSt → OscSt) : (s.updOsc f).mem = s.mem := rfl
@[simp] theorem State.updOsc_fuse (s : State) (f : OscSt → OscSt) : (s.updOsc f).fuse = s.fuse := rfl
@[simp] theorem State.updOsc_fuseUpset (s : State) (f : OscSt → OscSt) : (s.updOsc f).fuseUpset = s.fuseUpset := rfl
@[simp] theorem State.updOsc_clock (s : State) (f : OscSt → OscSt) : (s.updOsc f).clock = s.clock := rfl
@[simp] theorem State.updOsc_cells (s : State) (f : OscSt → OscSt) : (s.updOsc f).cells = s.cells := rfl
@[simp] theorem State.updOsc_bell (s : State) (f : OscSt → OscSt) : (s.updOsc f).bell = s.bell := rfl
@[simp] theorem State.updOsc_epoch (s : State) (f : OscSt → OscSt) : (s.updOsc f).epoch = s.epoch := rfl
@[simp] theorem State.updOsc_elems (s : State) (f : OscSt → OscSt) : (s.updOsc f).elems = s.elems := rfl
@[simp] theorem State.updOsc_lps (s : State) (f : OscSt → OscSt) : (s.updOsc f).lps = s.lps := rfl
@[simp] theorem State.updOsc_trans (s : State) (f : OscSt → OscSt) : (s.updOsc f).trans = s.trans := rfl
@[simp] theorem State.updOsc_drv (s : State) (f : OscSt → OscSt) : (s.updOsc f).drv = s.drv := rfl
@[simp] theorem State.updOsc_traces (s : State) (f : OscSt → OscSt) : (s.updOsc f).traces = s.traces := rfl
@[simp] theorem State.updOsc_tiles (s : State) (f : OscSt → OscSt) : (s.updOsc f).tiles = s.tiles := rfl
@[simp] theorem State.updOsc_accs (s : State) (f : OscSt → OscSt) : (s.updOsc f).accs = s.accs := rfl
@[simp] theorem State.updOsc_haccs (s : State) (f : OscSt → OscSt) : (s.updOsc f).haccs = s.haccs := rfl
@[simp] theorem State.updOsc_pairs (s : State) (f : OscSt → OscSt) : (s.updOsc f).pairs = s.pairs := rfl
@[simp] theorem State.updOsc_conv (s : State) (f : OscSt → OscSt) : (s.updOsc f).conv = s.conv := rfl
@[simp] theorem State.updOsc_pla (s : State) (f : OscSt → OscSt) : (s.updOsc f).pla = s.pla := rfl
@[simp] theorem State.updOsc_plb (s : State) (f : OscSt → OscSt) : (s.updOsc f).plb = s.plb := rfl
@[simp] theorem State.updOsc_token (s : State) (f : OscSt → OscSt) : (s.updOsc f).token = s.token := rfl
@[simp] theorem State.updOsc_safe (s : State) (f : OscSt → OscSt) : (s.updOsc f).safe = s.safe := rfl
@[simp] theorem State.updOsc_therm (s : State) (f : OscSt → OscSt) : (s.updOsc f).therm = s.therm := rfl
@[simp] theorem State.updOsc_sched (s : State) (f : OscSt → OscSt) : (s.updOsc f).sched = s.sched := rfl
@[simp] theorem State.updOsc_obj (s : State) (f : OscSt → OscSt) : (s.updOsc f).obj = s.obj := rfl
@[simp] theorem State.updOsc_time (s : State) (f : OscSt → OscSt) : (s.updOsc f).time = s.time := rfl
@[simp] theorem State.updOsc_dev (s : State) (f : OscSt → OscSt) : (s.updOsc f).dev = s.dev := rfl
@[simp] theorem State.updOsc_jrnl (s : State) (f : OscSt → OscSt) : (s.updOsc f).jrnl = s.jrnl := rfl
@[simp] theorem State.updOsc_bist (s : State) (f : OscSt → OscSt) : (s.updOsc f).bist = s.bist := rfl
@[simp] theorem State.updOsc_tap (s : State) (f : OscSt → OscSt) : (s.updOsc f).tap = s.tap := rfl
@[simp] theorem State.updOsc_e0 (s : State) (f : OscSt → OscSt) : (s.updOsc f).e0 = s.e0 := rfl
@[simp] theorem State.updOsc_e1 (s : State) (f : OscSt → OscSt) : (s.updOsc f).e1 = s.e1 := rfl
@[simp] theorem State.updOsc_chain (s : State) (f : OscSt → OscSt) : (s.updOsc f).chain = s.chain := rfl
@[simp] theorem State.updOsc_nint (s : State) (f : OscSt → OscSt) : (s.updOsc f).nint = s.nint := rfl
@[simp] theorem State.updOsc_sent (s : State) (f : OscSt → OscSt) : (s.updOsc f).sent = s.sent := rfl
@[simp] theorem State.updOsc_pending (s : State) (f : OscSt → OscSt) : (s.updOsc f).pending = s.pending := rfl
@[simp] theorem State.updOsc_stamps (s : State) (f : OscSt → OscSt) : (s.updOsc f).stamps = s.stamps := rfl
@[simp] theorem State.updOsc_waits (s : State) (f : OscSt → OscSt) : (s.updOsc f).waits = s.waits := rfl
@[simp] theorem State.updOsc_osc (s : State) (f : OscSt → OscSt) : (s.updOsc f).osc = f s.osc := rfl

@[simp] theorem State.updTherm_regs (s : State) (f : ThermSt → ThermSt) : (s.updTherm f).regs = s.regs := rfl
@[simp] theorem State.updTherm_mem (s : State) (f : ThermSt → ThermSt) : (s.updTherm f).mem = s.mem := rfl
@[simp] theorem State.updTherm_fuse (s : State) (f : ThermSt → ThermSt) : (s.updTherm f).fuse = s.fuse := rfl
@[simp] theorem State.updTherm_fuseUpset (s : State) (f : ThermSt → ThermSt) : (s.updTherm f).fuseUpset = s.fuseUpset := rfl
@[simp] theorem State.updTherm_clock (s : State) (f : ThermSt → ThermSt) : (s.updTherm f).clock = s.clock := rfl
@[simp] theorem State.updTherm_cells (s : State) (f : ThermSt → ThermSt) : (s.updTherm f).cells = s.cells := rfl
@[simp] theorem State.updTherm_bell (s : State) (f : ThermSt → ThermSt) : (s.updTherm f).bell = s.bell := rfl
@[simp] theorem State.updTherm_epoch (s : State) (f : ThermSt → ThermSt) : (s.updTherm f).epoch = s.epoch := rfl
@[simp] theorem State.updTherm_elems (s : State) (f : ThermSt → ThermSt) : (s.updTherm f).elems = s.elems := rfl
@[simp] theorem State.updTherm_lps (s : State) (f : ThermSt → ThermSt) : (s.updTherm f).lps = s.lps := rfl
@[simp] theorem State.updTherm_trans (s : State) (f : ThermSt → ThermSt) : (s.updTherm f).trans = s.trans := rfl
@[simp] theorem State.updTherm_drv (s : State) (f : ThermSt → ThermSt) : (s.updTherm f).drv = s.drv := rfl
@[simp] theorem State.updTherm_traces (s : State) (f : ThermSt → ThermSt) : (s.updTherm f).traces = s.traces := rfl
@[simp] theorem State.updTherm_tiles (s : State) (f : ThermSt → ThermSt) : (s.updTherm f).tiles = s.tiles := rfl
@[simp] theorem State.updTherm_accs (s : State) (f : ThermSt → ThermSt) : (s.updTherm f).accs = s.accs := rfl
@[simp] theorem State.updTherm_haccs (s : State) (f : ThermSt → ThermSt) : (s.updTherm f).haccs = s.haccs := rfl
@[simp] theorem State.updTherm_pairs (s : State) (f : ThermSt → ThermSt) : (s.updTherm f).pairs = s.pairs := rfl
@[simp] theorem State.updTherm_conv (s : State) (f : ThermSt → ThermSt) : (s.updTherm f).conv = s.conv := rfl
@[simp] theorem State.updTherm_pla (s : State) (f : ThermSt → ThermSt) : (s.updTherm f).pla = s.pla := rfl
@[simp] theorem State.updTherm_plb (s : State) (f : ThermSt → ThermSt) : (s.updTherm f).plb = s.plb := rfl
@[simp] theorem State.updTherm_token (s : State) (f : ThermSt → ThermSt) : (s.updTherm f).token = s.token := rfl
@[simp] theorem State.updTherm_safe (s : State) (f : ThermSt → ThermSt) : (s.updTherm f).safe = s.safe := rfl
@[simp] theorem State.updTherm_osc (s : State) (f : ThermSt → ThermSt) : (s.updTherm f).osc = s.osc := rfl
@[simp] theorem State.updTherm_sched (s : State) (f : ThermSt → ThermSt) : (s.updTherm f).sched = s.sched := rfl
@[simp] theorem State.updTherm_obj (s : State) (f : ThermSt → ThermSt) : (s.updTherm f).obj = s.obj := rfl
@[simp] theorem State.updTherm_time (s : State) (f : ThermSt → ThermSt) : (s.updTherm f).time = s.time := rfl
@[simp] theorem State.updTherm_dev (s : State) (f : ThermSt → ThermSt) : (s.updTherm f).dev = s.dev := rfl
@[simp] theorem State.updTherm_jrnl (s : State) (f : ThermSt → ThermSt) : (s.updTherm f).jrnl = s.jrnl := rfl
@[simp] theorem State.updTherm_bist (s : State) (f : ThermSt → ThermSt) : (s.updTherm f).bist = s.bist := rfl
@[simp] theorem State.updTherm_tap (s : State) (f : ThermSt → ThermSt) : (s.updTherm f).tap = s.tap := rfl
@[simp] theorem State.updTherm_e0 (s : State) (f : ThermSt → ThermSt) : (s.updTherm f).e0 = s.e0 := rfl
@[simp] theorem State.updTherm_e1 (s : State) (f : ThermSt → ThermSt) : (s.updTherm f).e1 = s.e1 := rfl
@[simp] theorem State.updTherm_chain (s : State) (f : ThermSt → ThermSt) : (s.updTherm f).chain = s.chain := rfl
@[simp] theorem State.updTherm_nint (s : State) (f : ThermSt → ThermSt) : (s.updTherm f).nint = s.nint := rfl
@[simp] theorem State.updTherm_sent (s : State) (f : ThermSt → ThermSt) : (s.updTherm f).sent = s.sent := rfl
@[simp] theorem State.updTherm_pending (s : State) (f : ThermSt → ThermSt) : (s.updTherm f).pending = s.pending := rfl
@[simp] theorem State.updTherm_stamps (s : State) (f : ThermSt → ThermSt) : (s.updTherm f).stamps = s.stamps := rfl
@[simp] theorem State.updTherm_waits (s : State) (f : ThermSt → ThermSt) : (s.updTherm f).waits = s.waits := rfl
@[simp] theorem State.updTherm_therm (s : State) (f : ThermSt → ThermSt) : (s.updTherm f).therm = f s.therm := rfl

@[simp] theorem State.updTime_regs (s : State) (f : TimeSt → TimeSt) : (s.updTime f).regs = s.regs := rfl
@[simp] theorem State.updTime_mem (s : State) (f : TimeSt → TimeSt) : (s.updTime f).mem = s.mem := rfl
@[simp] theorem State.updTime_fuse (s : State) (f : TimeSt → TimeSt) : (s.updTime f).fuse = s.fuse := rfl
@[simp] theorem State.updTime_fuseUpset (s : State) (f : TimeSt → TimeSt) : (s.updTime f).fuseUpset = s.fuseUpset := rfl
@[simp] theorem State.updTime_clock (s : State) (f : TimeSt → TimeSt) : (s.updTime f).clock = s.clock := rfl
@[simp] theorem State.updTime_cells (s : State) (f : TimeSt → TimeSt) : (s.updTime f).cells = s.cells := rfl
@[simp] theorem State.updTime_bell (s : State) (f : TimeSt → TimeSt) : (s.updTime f).bell = s.bell := rfl
@[simp] theorem State.updTime_epoch (s : State) (f : TimeSt → TimeSt) : (s.updTime f).epoch = s.epoch := rfl
@[simp] theorem State.updTime_elems (s : State) (f : TimeSt → TimeSt) : (s.updTime f).elems = s.elems := rfl
@[simp] theorem State.updTime_lps (s : State) (f : TimeSt → TimeSt) : (s.updTime f).lps = s.lps := rfl
@[simp] theorem State.updTime_trans (s : State) (f : TimeSt → TimeSt) : (s.updTime f).trans = s.trans := rfl
@[simp] theorem State.updTime_drv (s : State) (f : TimeSt → TimeSt) : (s.updTime f).drv = s.drv := rfl
@[simp] theorem State.updTime_traces (s : State) (f : TimeSt → TimeSt) : (s.updTime f).traces = s.traces := rfl
@[simp] theorem State.updTime_tiles (s : State) (f : TimeSt → TimeSt) : (s.updTime f).tiles = s.tiles := rfl
@[simp] theorem State.updTime_accs (s : State) (f : TimeSt → TimeSt) : (s.updTime f).accs = s.accs := rfl
@[simp] theorem State.updTime_haccs (s : State) (f : TimeSt → TimeSt) : (s.updTime f).haccs = s.haccs := rfl
@[simp] theorem State.updTime_pairs (s : State) (f : TimeSt → TimeSt) : (s.updTime f).pairs = s.pairs := rfl
@[simp] theorem State.updTime_conv (s : State) (f : TimeSt → TimeSt) : (s.updTime f).conv = s.conv := rfl
@[simp] theorem State.updTime_pla (s : State) (f : TimeSt → TimeSt) : (s.updTime f).pla = s.pla := rfl
@[simp] theorem State.updTime_plb (s : State) (f : TimeSt → TimeSt) : (s.updTime f).plb = s.plb := rfl
@[simp] theorem State.updTime_token (s : State) (f : TimeSt → TimeSt) : (s.updTime f).token = s.token := rfl
@[simp] theorem State.updTime_safe (s : State) (f : TimeSt → TimeSt) : (s.updTime f).safe = s.safe := rfl
@[simp] theorem State.updTime_therm (s : State) (f : TimeSt → TimeSt) : (s.updTime f).therm = s.therm := rfl
@[simp] theorem State.updTime_osc (s : State) (f : TimeSt → TimeSt) : (s.updTime f).osc = s.osc := rfl
@[simp] theorem State.updTime_sched (s : State) (f : TimeSt → TimeSt) : (s.updTime f).sched = s.sched := rfl
@[simp] theorem State.updTime_obj (s : State) (f : TimeSt → TimeSt) : (s.updTime f).obj = s.obj := rfl
@[simp] theorem State.updTime_dev (s : State) (f : TimeSt → TimeSt) : (s.updTime f).dev = s.dev := rfl
@[simp] theorem State.updTime_jrnl (s : State) (f : TimeSt → TimeSt) : (s.updTime f).jrnl = s.jrnl := rfl
@[simp] theorem State.updTime_bist (s : State) (f : TimeSt → TimeSt) : (s.updTime f).bist = s.bist := rfl
@[simp] theorem State.updTime_tap (s : State) (f : TimeSt → TimeSt) : (s.updTime f).tap = s.tap := rfl
@[simp] theorem State.updTime_e0 (s : State) (f : TimeSt → TimeSt) : (s.updTime f).e0 = s.e0 := rfl
@[simp] theorem State.updTime_e1 (s : State) (f : TimeSt → TimeSt) : (s.updTime f).e1 = s.e1 := rfl
@[simp] theorem State.updTime_chain (s : State) (f : TimeSt → TimeSt) : (s.updTime f).chain = s.chain := rfl
@[simp] theorem State.updTime_nint (s : State) (f : TimeSt → TimeSt) : (s.updTime f).nint = s.nint := rfl
@[simp] theorem State.updTime_sent (s : State) (f : TimeSt → TimeSt) : (s.updTime f).sent = s.sent := rfl
@[simp] theorem State.updTime_pending (s : State) (f : TimeSt → TimeSt) : (s.updTime f).pending = s.pending := rfl
@[simp] theorem State.updTime_stamps (s : State) (f : TimeSt → TimeSt) : (s.updTime f).stamps = s.stamps := rfl
@[simp] theorem State.updTime_waits (s : State) (f : TimeSt → TimeSt) : (s.updTime f).waits = s.waits := rfl
@[simp] theorem State.updTime_time (s : State) (f : TimeSt → TimeSt) : (s.updTime f).time = f s.time := rfl

@[simp] theorem State.happen_mem (s : State) (a n : Nat) : (s.happen a n).mem = s.mem := rfl
@[simp] theorem State.happen_fuse (s : State) (a n : Nat) : (s.happen a n).fuse = s.fuse := rfl
@[simp] theorem State.happen_fuseUpset (s : State) (a n : Nat) : (s.happen a n).fuseUpset = s.fuseUpset := rfl
@[simp] theorem State.happen_clock (s : State) (a n : Nat) : (s.happen a n).clock = s.clock := rfl
@[simp] theorem State.happen_cells (s : State) (a n : Nat) : (s.happen a n).cells = s.cells := rfl
@[simp] theorem State.happen_bell (s : State) (a n : Nat) : (s.happen a n).bell = s.bell := rfl
@[simp] theorem State.happen_epoch (s : State) (a n : Nat) : (s.happen a n).epoch = s.epoch := rfl
@[simp] theorem State.happen_elems (s : State) (a n : Nat) : (s.happen a n).elems = s.elems := rfl
@[simp] theorem State.happen_lps (s : State) (a n : Nat) : (s.happen a n).lps = s.lps := rfl
@[simp] theorem State.happen_trans (s : State) (a n : Nat) : (s.happen a n).trans = s.trans := rfl
@[simp] theorem State.happen_drv (s : State) (a n : Nat) : (s.happen a n).drv = s.drv := rfl
@[simp] theorem State.happen_traces (s : State) (a n : Nat) : (s.happen a n).traces = s.traces := rfl
@[simp] theorem State.happen_tiles (s : State) (a n : Nat) : (s.happen a n).tiles = s.tiles := rfl
@[simp] theorem State.happen_accs (s : State) (a n : Nat) : (s.happen a n).accs = s.accs := rfl
@[simp] theorem State.happen_haccs (s : State) (a n : Nat) : (s.happen a n).haccs = s.haccs := rfl
@[simp] theorem State.happen_pairs (s : State) (a n : Nat) : (s.happen a n).pairs = s.pairs := rfl
@[simp] theorem State.happen_conv (s : State) (a n : Nat) : (s.happen a n).conv = s.conv := rfl
@[simp] theorem State.happen_pla (s : State) (a n : Nat) : (s.happen a n).pla = s.pla := rfl
@[simp] theorem State.happen_plb (s : State) (a n : Nat) : (s.happen a n).plb = s.plb := rfl
@[simp] theorem State.happen_token (s : State) (a n : Nat) : (s.happen a n).token = s.token := rfl
@[simp] theorem State.happen_safe (s : State) (a n : Nat) : (s.happen a n).safe = s.safe := rfl
@[simp] theorem State.happen_therm (s : State) (a n : Nat) : (s.happen a n).therm = s.therm := rfl
@[simp] theorem State.happen_osc (s : State) (a n : Nat) : (s.happen a n).osc = s.osc := rfl
@[simp] theorem State.happen_sched (s : State) (a n : Nat) : (s.happen a n).sched = s.sched := rfl
@[simp] theorem State.happen_obj (s : State) (a n : Nat) : (s.happen a n).obj = s.obj := rfl
@[simp] theorem State.happen_time (s : State) (a n : Nat) : (s.happen a n).time = s.time := rfl
@[simp] theorem State.happen_dev (s : State) (a n : Nat) : (s.happen a n).dev = s.dev := rfl
@[simp] theorem State.happen_jrnl (s : State) (a n : Nat) : (s.happen a n).jrnl = s.jrnl := rfl
@[simp] theorem State.happen_bist (s : State) (a n : Nat) : (s.happen a n).bist = s.bist := rfl
@[simp] theorem State.happen_tap (s : State) (a n : Nat) : (s.happen a n).tap = s.tap := rfl
@[simp] theorem State.happen_e0 (s : State) (a n : Nat) : (s.happen a n).e0 = s.e0 := rfl
@[simp] theorem State.happen_e1 (s : State) (a n : Nat) : (s.happen a n).e1 = s.e1 := rfl
@[simp] theorem State.happen_chain (s : State) (a n : Nat) : (s.happen a n).chain = s.chain := rfl
@[simp] theorem State.happen_nint (s : State) (a n : Nat) : (s.happen a n).nint = s.nint := rfl
@[simp] theorem State.happen_sent (s : State) (a n : Nat) : (s.happen a n).sent = s.sent := rfl
@[simp] theorem State.happen_pending (s : State) (a n : Nat) : (s.happen a n).pending = s.pending := rfl
@[simp] theorem State.happen_waits (s : State) (a n : Nat) : (s.happen a n).waits = s.waits := rfl
@[simp] theorem State.happen_regs (s : State) (a n : Nat) : (s.happen a n).regs = s.regs := rfl

end Sys2Proof.Machine
end

