-- ==== Sys2Proof/Laws/Shared.lean ====
section
/-!
SUPPORT. What each shared operation leaves alone: counters, INT_CAUSE bits, events, responses and completions touch only
registers, the event queue, the ports and what is sent.
-/

namespace Sys2Proof.Machine

@[simp] theorem State.count_mem (s : State) (a : Nat) : (s.count a).mem = s.mem := rfl
@[simp] theorem State.count_fuse (s : State) (a : Nat) : (s.count a).fuse = s.fuse := rfl
@[simp] theorem State.count_fuseUpset (s : State) (a : Nat) : (s.count a).fuseUpset = s.fuseUpset := rfl
@[simp] theorem State.count_clock (s : State) (a : Nat) : (s.count a).clock = s.clock := rfl
@[simp] theorem State.count_cells (s : State) (a : Nat) : (s.count a).cells = s.cells := rfl
@[simp] theorem State.count_bell (s : State) (a : Nat) : (s.count a).bell = s.bell := rfl
@[simp] theorem State.count_epoch (s : State) (a : Nat) : (s.count a).epoch = s.epoch := rfl
@[simp] theorem State.count_elems (s : State) (a : Nat) : (s.count a).elems = s.elems := rfl
@[simp] theorem State.count_lps (s : State) (a : Nat) : (s.count a).lps = s.lps := rfl
@[simp] theorem State.count_trans (s : State) (a : Nat) : (s.count a).trans = s.trans := rfl
@[simp] theorem State.count_drv (s : State) (a : Nat) : (s.count a).drv = s.drv := rfl
@[simp] theorem State.count_traces (s : State) (a : Nat) : (s.count a).traces = s.traces := rfl
@[simp] theorem State.count_tiles (s : State) (a : Nat) : (s.count a).tiles = s.tiles := rfl
@[simp] theorem State.count_accs (s : State) (a : Nat) : (s.count a).accs = s.accs := rfl
@[simp] theorem State.count_haccs (s : State) (a : Nat) : (s.count a).haccs = s.haccs := rfl
@[simp] theorem State.count_pairs (s : State) (a : Nat) : (s.count a).pairs = s.pairs := rfl
@[simp] theorem State.count_conv (s : State) (a : Nat) : (s.count a).conv = s.conv := rfl
@[simp] theorem State.count_pla (s : State) (a : Nat) : (s.count a).pla = s.pla := rfl
@[simp] theorem State.count_plb (s : State) (a : Nat) : (s.count a).plb = s.plb := rfl
@[simp] theorem State.count_token (s : State) (a : Nat) : (s.count a).token = s.token := rfl
@[simp] theorem State.count_safe (s : State) (a : Nat) : (s.count a).safe = s.safe := rfl
@[simp] theorem State.count_therm (s : State) (a : Nat) : (s.count a).therm = s.therm := rfl
@[simp] theorem State.count_osc (s : State) (a : Nat) : (s.count a).osc = s.osc := rfl
@[simp] theorem State.count_sched (s : State) (a : Nat) : (s.count a).sched = s.sched := rfl
@[simp] theorem State.count_obj (s : State) (a : Nat) : (s.count a).obj = s.obj := rfl
@[simp] theorem State.count_time (s : State) (a : Nat) : (s.count a).time = s.time := rfl
@[simp] theorem State.count_dev (s : State) (a : Nat) : (s.count a).dev = s.dev := rfl
@[simp] theorem State.count_jrnl (s : State) (a : Nat) : (s.count a).jrnl = s.jrnl := rfl
@[simp] theorem State.count_bist (s : State) (a : Nat) : (s.count a).bist = s.bist := rfl
@[simp] theorem State.count_tap (s : State) (a : Nat) : (s.count a).tap = s.tap := rfl
@[simp] theorem State.count_e0 (s : State) (a : Nat) : (s.count a).e0 = s.e0 := rfl
@[simp] theorem State.count_e1 (s : State) (a : Nat) : (s.count a).e1 = s.e1 := rfl
@[simp] theorem State.count_chain (s : State) (a : Nat) : (s.count a).chain = s.chain := rfl
@[simp] theorem State.count_nint (s : State) (a : Nat) : (s.count a).nint = s.nint := rfl
@[simp] theorem State.count_sent (s : State) (a : Nat) : (s.count a).sent = s.sent := rfl
@[simp] theorem State.count_pending (s : State) (a : Nat) : (s.count a).pending = s.pending := rfl
@[simp] theorem State.count_waits (s : State) (a : Nat) : (s.count a).waits = s.waits := rfl

@[simp] theorem State.cause_mem (s : State) (page i : Nat) : (s.cause page i).mem = s.mem := rfl
@[simp] theorem State.cause_fuse (s : State) (page i : Nat) : (s.cause page i).fuse = s.fuse := rfl
@[simp] theorem State.cause_fuseUpset (s : State) (page i : Nat) : (s.cause page i).fuseUpset = s.fuseUpset := rfl
@[simp] theorem State.cause_clock (s : State) (page i : Nat) : (s.cause page i).clock = s.clock := rfl
@[simp] theorem State.cause_cells (s : State) (page i : Nat) : (s.cause page i).cells = s.cells := rfl
@[simp] theorem State.cause_bell (s : State) (page i : Nat) : (s.cause page i).bell = s.bell := rfl
@[simp] theorem State.cause_epoch (s : State) (page i : Nat) : (s.cause page i).epoch = s.epoch := rfl
@[simp] theorem State.cause_elems (s : State) (page i : Nat) : (s.cause page i).elems = s.elems := rfl
@[simp] theorem State.cause_lps (s : State) (page i : Nat) : (s.cause page i).lps = s.lps := rfl
@[simp] theorem State.cause_trans (s : State) (page i : Nat) : (s.cause page i).trans = s.trans := rfl
@[simp] theorem State.cause_drv (s : State) (page i : Nat) : (s.cause page i).drv = s.drv := rfl
@[simp] theorem State.cause_traces (s : State) (page i : Nat) : (s.cause page i).traces = s.traces := rfl
@[simp] theorem State.cause_tiles (s : State) (page i : Nat) : (s.cause page i).tiles = s.tiles := rfl
@[simp] theorem State.cause_accs (s : State) (page i : Nat) : (s.cause page i).accs = s.accs := rfl
@[simp] theorem State.cause_haccs (s : State) (page i : Nat) : (s.cause page i).haccs = s.haccs := rfl
@[simp] theorem State.cause_pairs (s : State) (page i : Nat) : (s.cause page i).pairs = s.pairs := rfl
@[simp] theorem State.cause_conv (s : State) (page i : Nat) : (s.cause page i).conv = s.conv := rfl
@[simp] theorem State.cause_pla (s : State) (page i : Nat) : (s.cause page i).pla = s.pla := rfl
@[simp] theorem State.cause_plb (s : State) (page i : Nat) : (s.cause page i).plb = s.plb := rfl
@[simp] theorem State.cause_token (s : State) (page i : Nat) : (s.cause page i).token = s.token := rfl
@[simp] theorem State.cause_safe (s : State) (page i : Nat) : (s.cause page i).safe = s.safe := rfl
@[simp] theorem State.cause_therm (s : State) (page i : Nat) : (s.cause page i).therm = s.therm := rfl
@[simp] theorem State.cause_osc (s : State) (page i : Nat) : (s.cause page i).osc = s.osc := rfl
@[simp] theorem State.cause_sched (s : State) (page i : Nat) : (s.cause page i).sched = s.sched := rfl
@[simp] theorem State.cause_obj (s : State) (page i : Nat) : (s.cause page i).obj = s.obj := rfl
@[simp] theorem State.cause_time (s : State) (page i : Nat) : (s.cause page i).time = s.time := rfl
@[simp] theorem State.cause_dev (s : State) (page i : Nat) : (s.cause page i).dev = s.dev := rfl
@[simp] theorem State.cause_jrnl (s : State) (page i : Nat) : (s.cause page i).jrnl = s.jrnl := rfl
@[simp] theorem State.cause_bist (s : State) (page i : Nat) : (s.cause page i).bist = s.bist := rfl
@[simp] theorem State.cause_tap (s : State) (page i : Nat) : (s.cause page i).tap = s.tap := rfl
@[simp] theorem State.cause_e0 (s : State) (page i : Nat) : (s.cause page i).e0 = s.e0 := rfl
@[simp] theorem State.cause_e1 (s : State) (page i : Nat) : (s.cause page i).e1 = s.e1 := rfl
@[simp] theorem State.cause_chain (s : State) (page i : Nat) : (s.cause page i).chain = s.chain := rfl
@[simp] theorem State.cause_nint (s : State) (page i : Nat) : (s.cause page i).nint = s.nint := rfl
@[simp] theorem State.cause_sent (s : State) (page i : Nat) : (s.cause page i).sent = s.sent := rfl
@[simp] theorem State.cause_pending (s : State) (page i : Nat) : (s.cause page i).pending = s.pending := rfl
@[simp] theorem State.cause_waits (s : State) (page i : Nat) : (s.cause page i).waits = s.waits := rfl

@[simp] theorem State.enqueue_mem (s : State) (e : Event) : (s.enqueue e).mem = s.mem := by unfold State.enqueue; split <;> rfl
@[simp] theorem State.enqueue_fuse (s : State) (e : Event) : (s.enqueue e).fuse = s.fuse := by unfold State.enqueue; split <;> rfl
@[simp] theorem State.enqueue_fuseUpset (s : State) (e : Event) : (s.enqueue e).fuseUpset = s.fuseUpset := by unfold State.enqueue; split <;> rfl
@[simp] theorem State.enqueue_clock (s : State) (e : Event) : (s.enqueue e).clock = s.clock := by unfold State.enqueue; split <;> rfl
@[simp] theorem State.enqueue_cells (s : State) (e : Event) : (s.enqueue e).cells = s.cells := by unfold State.enqueue; split <;> rfl
@[simp] theorem State.enqueue_bell (s : State) (e : Event) : (s.enqueue e).bell = s.bell := by unfold State.enqueue; split <;> rfl
@[simp] theorem State.enqueue_epoch (s : State) (e : Event) : (s.enqueue e).epoch = s.epoch := by unfold State.enqueue; split <;> rfl
@[simp] theorem State.enqueue_elems (s : State) (e : Event) : (s.enqueue e).elems = s.elems := by unfold State.enqueue; split <;> rfl
@[simp] theorem State.enqueue_lps (s : State) (e : Event) : (s.enqueue e).lps = s.lps := by unfold State.enqueue; split <;> rfl
@[simp] theorem State.enqueue_trans (s : State) (e : Event) : (s.enqueue e).trans = s.trans := by unfold State.enqueue; split <;> rfl
@[simp] theorem State.enqueue_drv (s : State) (e : Event) : (s.enqueue e).drv = s.drv := by unfold State.enqueue; split <;> rfl
@[simp] theorem State.enqueue_traces (s : State) (e : Event) : (s.enqueue e).traces = s.traces := by unfold State.enqueue; split <;> rfl
@[simp] theorem State.enqueue_tiles (s : State) (e : Event) : (s.enqueue e).tiles = s.tiles := by unfold State.enqueue; split <;> rfl
@[simp] theorem State.enqueue_accs (s : State) (e : Event) : (s.enqueue e).accs = s.accs := by unfold State.enqueue; split <;> rfl
@[simp] theorem State.enqueue_haccs (s : State) (e : Event) : (s.enqueue e).haccs = s.haccs := by unfold State.enqueue; split <;> rfl
@[simp] theorem State.enqueue_pairs (s : State) (e : Event) : (s.enqueue e).pairs = s.pairs := by unfold State.enqueue; split <;> rfl
@[simp] theorem State.enqueue_conv (s : State) (e : Event) : (s.enqueue e).conv = s.conv := by unfold State.enqueue; split <;> rfl
@[simp] theorem State.enqueue_pla (s : State) (e : Event) : (s.enqueue e).pla = s.pla := by unfold State.enqueue; split <;> rfl
@[simp] theorem State.enqueue_plb (s : State) (e : Event) : (s.enqueue e).plb = s.plb := by unfold State.enqueue; split <;> rfl
@[simp] theorem State.enqueue_token (s : State) (e : Event) : (s.enqueue e).token = s.token := by unfold State.enqueue; split <;> rfl
@[simp] theorem State.enqueue_safe (s : State) (e : Event) : (s.enqueue e).safe = s.safe := by unfold State.enqueue; split <;> rfl
@[simp] theorem State.enqueue_therm (s : State) (e : Event) : (s.enqueue e).therm = s.therm := by unfold State.enqueue; split <;> rfl
@[simp] theorem State.enqueue_osc (s : State) (e : Event) : (s.enqueue e).osc = s.osc := by unfold State.enqueue; split <;> rfl
@[simp] theorem State.enqueue_sched (s : State) (e : Event) : (s.enqueue e).sched = s.sched := by unfold State.enqueue; split <;> rfl
@[simp] theorem State.enqueue_obj (s : State) (e : Event) : (s.enqueue e).obj = s.obj := by unfold State.enqueue; split <;> rfl
@[simp] theorem State.enqueue_time (s : State) (e : Event) : (s.enqueue e).time = s.time := by unfold State.enqueue; split <;> rfl
@[simp] theorem State.enqueue_dev (s : State) (e : Event) : (s.enqueue e).dev = s.dev := by unfold State.enqueue; split <;> rfl
@[simp] theorem State.enqueue_jrnl (s : State) (e : Event) : (s.enqueue e).jrnl = s.jrnl := by unfold State.enqueue; split <;> rfl
@[simp] theorem State.enqueue_bist (s : State) (e : Event) : (s.enqueue e).bist = s.bist := by unfold State.enqueue; split <;> rfl
@[simp] theorem State.enqueue_tap (s : State) (e : Event) : (s.enqueue e).tap = s.tap := by unfold State.enqueue; split <;> rfl
@[simp] theorem State.enqueue_e0 (s : State) (e : Event) : (s.enqueue e).e0 = s.e0 := by unfold State.enqueue; split <;> rfl
@[simp] theorem State.enqueue_e1 (s : State) (e : Event) : (s.enqueue e).e1 = s.e1 := by unfold State.enqueue; split <;> rfl
@[simp] theorem State.enqueue_nint (s : State) (e : Event) : (s.enqueue e).nint = s.nint := by unfold State.enqueue; split <;> rfl
@[simp] theorem State.enqueue_sent (s : State) (e : Event) : (s.enqueue e).sent = s.sent := by unfold State.enqueue; split <;> rfl
@[simp] theorem State.enqueue_pending (s : State) (e : Event) : (s.enqueue e).pending = s.pending := by unfold State.enqueue; split <;> rfl
@[simp] theorem State.enqueue_waits (s : State) (e : Event) : (s.enqueue e).waits = s.waits := by unfold State.enqueue; split <;> rfl

@[simp] theorem State.eventOf_mem (s : State) (n page code src seq epoch : Nat) (l : List Word) : (s.eventOf n page code src seq epoch l).mem = s.mem := by unfold State.eventOf; split <;> simp
@[simp] theorem State.eventAt_mem (s : State) (page code src seq epoch : Nat) (l : List Word) : (s.eventAt page code src seq epoch l).mem = s.mem := s.eventOf_mem 0 page code src seq epoch l
@[simp] theorem State.eventOf_fuse (s : State) (n page code src seq epoch : Nat) (l : List Word) : (s.eventOf n page code src seq epoch l).fuse = s.fuse := by unfold State.eventOf; split <;> simp
@[simp] theorem State.eventAt_fuse (s : State) (page code src seq epoch : Nat) (l : List Word) : (s.eventAt page code src seq epoch l).fuse = s.fuse := s.eventOf_fuse 0 page code src seq epoch l
@[simp] theorem State.eventOf_fuseUpset (s : State) (n page code src seq epoch : Nat) (l : List Word) : (s.eventOf n page code src seq epoch l).fuseUpset = s.fuseUpset := by unfold State.eventOf; split <;> simp
@[simp] theorem State.eventAt_fuseUpset (s : State) (page code src seq epoch : Nat) (l : List Word) : (s.eventAt page code src seq epoch l).fuseUpset = s.fuseUpset := s.eventOf_fuseUpset 0 page code src seq epoch l
@[simp] theorem State.eventOf_clock (s : State) (n page code src seq epoch : Nat) (l : List Word) : (s.eventOf n page code src seq epoch l).clock = s.clock := by unfold State.eventOf; split <;> simp
@[simp] theorem State.eventAt_clock (s : State) (page code src seq epoch : Nat) (l : List Word) : (s.eventAt page code src seq epoch l).clock = s.clock := s.eventOf_clock 0 page code src seq epoch l
@[simp] theorem State.eventOf_cells (s : State) (n page code src seq epoch : Nat) (l : List Word) : (s.eventOf n page code src seq epoch l).cells = s.cells := by unfold State.eventOf; split <;> simp
@[simp] theorem State.eventAt_cells (s : State) (page code src seq epoch : Nat) (l : List Word) : (s.eventAt page code src seq epoch l).cells = s.cells := s.eventOf_cells 0 page code src seq epoch l
@[simp] theorem State.eventOf_bell (s : State) (n page code src seq epoch : Nat) (l : List Word) : (s.eventOf n page code src seq epoch l).bell = s.bell := by unfold State.eventOf; split <;> simp
@[simp] theorem State.eventAt_bell (s : State) (page code src seq epoch : Nat) (l : List Word) : (s.eventAt page code src seq epoch l).bell = s.bell := s.eventOf_bell 0 page code src seq epoch l
@[simp] theorem State.eventOf_epoch (s : State) (n page code src seq epoch : Nat) (l : List Word) : (s.eventOf n page code src seq epoch l).epoch = s.epoch := by unfold State.eventOf; split <;> simp
@[simp] theorem State.eventAt_epoch (s : State) (page code src seq epoch : Nat) (l : List Word) : (s.eventAt page code src seq epoch l).epoch = s.epoch := s.eventOf_epoch 0 page code src seq epoch l
@[simp] theorem State.eventOf_elems (s : State) (n page code src seq epoch : Nat) (l : List Word) : (s.eventOf n page code src seq epoch l).elems = s.elems := by unfold State.eventOf; split <;> simp
@[simp] theorem State.eventAt_elems (s : State) (page code src seq epoch : Nat) (l : List Word) : (s.eventAt page code src seq epoch l).elems = s.elems := s.eventOf_elems 0 page code src seq epoch l
@[simp] theorem State.eventOf_lps (s : State) (n page code src seq epoch : Nat) (l : List Word) : (s.eventOf n page code src seq epoch l).lps = s.lps := by unfold State.eventOf; split <;> simp
@[simp] theorem State.eventAt_lps (s : State) (page code src seq epoch : Nat) (l : List Word) : (s.eventAt page code src seq epoch l).lps = s.lps := s.eventOf_lps 0 page code src seq epoch l
@[simp] theorem State.eventOf_trans (s : State) (n page code src seq epoch : Nat) (l : List Word) : (s.eventOf n page code src seq epoch l).trans = s.trans := by unfold State.eventOf; split <;> simp
@[simp] theorem State.eventAt_trans (s : State) (page code src seq epoch : Nat) (l : List Word) : (s.eventAt page code src seq epoch l).trans = s.trans := s.eventOf_trans 0 page code src seq epoch l
@[simp] theorem State.eventOf_drv (s : State) (n page code src seq epoch : Nat) (l : List Word) : (s.eventOf n page code src seq epoch l).drv = s.drv := by unfold State.eventOf; split <;> simp
@[simp] theorem State.eventAt_drv (s : State) (page code src seq epoch : Nat) (l : List Word) : (s.eventAt page code src seq epoch l).drv = s.drv := s.eventOf_drv 0 page code src seq epoch l
@[simp] theorem State.eventOf_traces (s : State) (n page code src seq epoch : Nat) (l : List Word) : (s.eventOf n page code src seq epoch l).traces = s.traces := by unfold State.eventOf; split <;> simp
@[simp] theorem State.eventAt_traces (s : State) (page code src seq epoch : Nat) (l : List Word) : (s.eventAt page code src seq epoch l).traces = s.traces := s.eventOf_traces 0 page code src seq epoch l
@[simp] theorem State.eventOf_tiles (s : State) (n page code src seq epoch : Nat) (l : List Word) : (s.eventOf n page code src seq epoch l).tiles = s.tiles := by unfold State.eventOf; split <;> simp
@[simp] theorem State.eventAt_tiles (s : State) (page code src seq epoch : Nat) (l : List Word) : (s.eventAt page code src seq epoch l).tiles = s.tiles := s.eventOf_tiles 0 page code src seq epoch l
@[simp] theorem State.eventOf_accs (s : State) (n page code src seq epoch : Nat) (l : List Word) : (s.eventOf n page code src seq epoch l).accs = s.accs := by unfold State.eventOf; split <;> simp
@[simp] theorem State.eventAt_accs (s : State) (page code src seq epoch : Nat) (l : List Word) : (s.eventAt page code src seq epoch l).accs = s.accs := s.eventOf_accs 0 page code src seq epoch l
@[simp] theorem State.eventOf_haccs (s : State) (n page code src seq epoch : Nat) (l : List Word) : (s.eventOf n page code src seq epoch l).haccs = s.haccs := by unfold State.eventOf; split <;> simp
@[simp] theorem State.eventAt_haccs (s : State) (page code src seq epoch : Nat) (l : List Word) : (s.eventAt page code src seq epoch l).haccs = s.haccs := s.eventOf_haccs 0 page code src seq epoch l
@[simp] theorem State.eventOf_pairs (s : State) (n page code src seq epoch : Nat) (l : List Word) : (s.eventOf n page code src seq epoch l).pairs = s.pairs := by unfold State.eventOf; split <;> simp
@[simp] theorem State.eventAt_pairs (s : State) (page code src seq epoch : Nat) (l : List Word) : (s.eventAt page code src seq epoch l).pairs = s.pairs := s.eventOf_pairs 0 page code src seq epoch l
@[simp] theorem State.eventOf_conv (s : State) (n page code src seq epoch : Nat) (l : List Word) : (s.eventOf n page code src seq epoch l).conv = s.conv := by unfold State.eventOf; split <;> simp
@[simp] theorem State.eventAt_conv (s : State) (page code src seq epoch : Nat) (l : List Word) : (s.eventAt page code src seq epoch l).conv = s.conv := s.eventOf_conv 0 page code src seq epoch l
@[simp] theorem State.eventOf_pla (s : State) (n page code src seq epoch : Nat) (l : List Word) : (s.eventOf n page code src seq epoch l).pla = s.pla := by unfold State.eventOf; split <;> simp
@[simp] theorem State.eventAt_pla (s : State) (page code src seq epoch : Nat) (l : List Word) : (s.eventAt page code src seq epoch l).pla = s.pla := s.eventOf_pla 0 page code src seq epoch l
@[simp] theorem State.eventOf_plb (s : State) (n page code src seq epoch : Nat) (l : List Word) : (s.eventOf n page code src seq epoch l).plb = s.plb := by unfold State.eventOf; split <;> simp
@[simp] theorem State.eventAt_plb (s : State) (page code src seq epoch : Nat) (l : List Word) : (s.eventAt page code src seq epoch l).plb = s.plb := s.eventOf_plb 0 page code src seq epoch l
@[simp] theorem State.eventOf_token (s : State) (n page code src seq epoch : Nat) (l : List Word) : (s.eventOf n page code src seq epoch l).token = s.token := by unfold State.eventOf; split <;> simp
@[simp] theorem State.eventAt_token (s : State) (page code src seq epoch : Nat) (l : List Word) : (s.eventAt page code src seq epoch l).token = s.token := s.eventOf_token 0 page code src seq epoch l
@[simp] theorem State.eventOf_safe (s : State) (n page code src seq epoch : Nat) (l : List Word) : (s.eventOf n page code src seq epoch l).safe = s.safe := by unfold State.eventOf; split <;> simp
@[simp] theorem State.eventAt_safe (s : State) (page code src seq epoch : Nat) (l : List Word) : (s.eventAt page code src seq epoch l).safe = s.safe := s.eventOf_safe 0 page code src seq epoch l
@[simp] theorem State.eventOf_therm (s : State) (n page code src seq epoch : Nat) (l : List Word) : (s.eventOf n page code src seq epoch l).therm = s.therm := by unfold State.eventOf; split <;> simp
@[simp] theorem State.eventAt_therm (s : State) (page code src seq epoch : Nat) (l : List Word) : (s.eventAt page code src seq epoch l).therm = s.therm := s.eventOf_therm 0 page code src seq epoch l
@[simp] theorem State.eventOf_osc (s : State) (n page code src seq epoch : Nat) (l : List Word) : (s.eventOf n page code src seq epoch l).osc = s.osc := by unfold State.eventOf; split <;> simp
@[simp] theorem State.eventAt_osc (s : State) (page code src seq epoch : Nat) (l : List Word) : (s.eventAt page code src seq epoch l).osc = s.osc := s.eventOf_osc 0 page code src seq epoch l
@[simp] theorem State.eventOf_sched (s : State) (n page code src seq epoch : Nat) (l : List Word) : (s.eventOf n page code src seq epoch l).sched = s.sched := by unfold State.eventOf; split <;> simp
@[simp] theorem State.eventAt_sched (s : State) (page code src seq epoch : Nat) (l : List Word) : (s.eventAt page code src seq epoch l).sched = s.sched := s.eventOf_sched 0 page code src seq epoch l
@[simp] theorem State.eventOf_obj (s : State) (n page code src seq epoch : Nat) (l : List Word) : (s.eventOf n page code src seq epoch l).obj = s.obj := by unfold State.eventOf; split <;> simp
@[simp] theorem State.eventAt_obj (s : State) (page code src seq epoch : Nat) (l : List Word) : (s.eventAt page code src seq epoch l).obj = s.obj := s.eventOf_obj 0 page code src seq epoch l
@[simp] theorem State.eventOf_time (s : State) (n page code src seq epoch : Nat) (l : List Word) : (s.eventOf n page code src seq epoch l).time = s.time := by unfold State.eventOf; split <;> simp
@[simp] theorem State.eventAt_time (s : State) (page code src seq epoch : Nat) (l : List Word) : (s.eventAt page code src seq epoch l).time = s.time := s.eventOf_time 0 page code src seq epoch l
@[simp] theorem State.eventOf_dev (s : State) (n page code src seq epoch : Nat) (l : List Word) : (s.eventOf n page code src seq epoch l).dev = s.dev := by unfold State.eventOf; split <;> simp
@[simp] theorem State.eventAt_dev (s : State) (page code src seq epoch : Nat) (l : List Word) : (s.eventAt page code src seq epoch l).dev = s.dev := s.eventOf_dev 0 page code src seq epoch l
@[simp] theorem State.eventOf_jrnl (s : State) (n page code src seq epoch : Nat) (l : List Word) : (s.eventOf n page code src seq epoch l).jrnl = s.jrnl := by unfold State.eventOf; split <;> simp
@[simp] theorem State.eventAt_jrnl (s : State) (page code src seq epoch : Nat) (l : List Word) : (s.eventAt page code src seq epoch l).jrnl = s.jrnl := s.eventOf_jrnl 0 page code src seq epoch l
@[simp] theorem State.eventOf_bist (s : State) (n page code src seq epoch : Nat) (l : List Word) : (s.eventOf n page code src seq epoch l).bist = s.bist := by unfold State.eventOf; split <;> simp
@[simp] theorem State.eventAt_bist (s : State) (page code src seq epoch : Nat) (l : List Word) : (s.eventAt page code src seq epoch l).bist = s.bist := s.eventOf_bist 0 page code src seq epoch l
@[simp] theorem State.eventOf_tap (s : State) (n page code src seq epoch : Nat) (l : List Word) : (s.eventOf n page code src seq epoch l).tap = s.tap := by unfold State.eventOf; split <;> simp
@[simp] theorem State.eventAt_tap (s : State) (page code src seq epoch : Nat) (l : List Word) : (s.eventAt page code src seq epoch l).tap = s.tap := s.eventOf_tap 0 page code src seq epoch l
@[simp] theorem State.eventOf_e0 (s : State) (n page code src seq epoch : Nat) (l : List Word) : (s.eventOf n page code src seq epoch l).e0 = s.e0 := by unfold State.eventOf; split <;> simp
@[simp] theorem State.eventAt_e0 (s : State) (page code src seq epoch : Nat) (l : List Word) : (s.eventAt page code src seq epoch l).e0 = s.e0 := s.eventOf_e0 0 page code src seq epoch l
@[simp] theorem State.eventOf_e1 (s : State) (n page code src seq epoch : Nat) (l : List Word) : (s.eventOf n page code src seq epoch l).e1 = s.e1 := by unfold State.eventOf; split <;> simp
@[simp] theorem State.eventAt_e1 (s : State) (page code src seq epoch : Nat) (l : List Word) : (s.eventAt page code src seq epoch l).e1 = s.e1 := s.eventOf_e1 0 page code src seq epoch l
@[simp] theorem State.eventOf_nint (s : State) (n page code src seq epoch : Nat) (l : List Word) : (s.eventOf n page code src seq epoch l).nint = s.nint := by unfold State.eventOf; split <;> simp
@[simp] theorem State.eventAt_nint (s : State) (page code src seq epoch : Nat) (l : List Word) : (s.eventAt page code src seq epoch l).nint = s.nint := s.eventOf_nint 0 page code src seq epoch l
@[simp] theorem State.eventOf_sent (s : State) (n page code src seq epoch : Nat) (l : List Word) : (s.eventOf n page code src seq epoch l).sent = s.sent := by unfold State.eventOf; split <;> simp
@[simp] theorem State.eventAt_sent (s : State) (page code src seq epoch : Nat) (l : List Word) : (s.eventAt page code src seq epoch l).sent = s.sent := s.eventOf_sent 0 page code src seq epoch l
@[simp] theorem State.eventOf_pending (s : State) (n page code src seq epoch : Nat) (l : List Word) : (s.eventOf n page code src seq epoch l).pending = s.pending := by unfold State.eventOf; split <;> simp
@[simp] theorem State.eventAt_pending (s : State) (page code src seq epoch : Nat) (l : List Word) : (s.eventAt page code src seq epoch l).pending = s.pending := s.eventOf_pending 0 page code src seq epoch l
@[simp] theorem State.eventOf_waits (s : State) (n page code src seq epoch : Nat) (l : List Word) : (s.eventOf n page code src seq epoch l).waits = s.waits := by unfold State.eventOf; split <;> simp
@[simp] theorem State.eventAt_waits (s : State) (page code src seq epoch : Nat) (l : List Word) : (s.eventAt page code src seq epoch l).waits = s.waits := s.eventOf_waits 0 page code src seq epoch l

@[simp] theorem State.event_mem (s : State) (page code : Nat) (l : List Word) : (s.event page code l).mem = s.mem := by simp [State.event]
@[simp] theorem State.event_fuse (s : State) (page code : Nat) (l : List Word) : (s.event page code l).fuse = s.fuse := by simp [State.event]
@[simp] theorem State.event_fuseUpset (s : State) (page code : Nat) (l : List Word) : (s.event page code l).fuseUpset = s.fuseUpset := by simp [State.event]
@[simp] theorem State.event_clock (s : State) (page code : Nat) (l : List Word) : (s.event page code l).clock = s.clock := by simp [State.event]
@[simp] theorem State.event_cells (s : State) (page code : Nat) (l : List Word) : (s.event page code l).cells = s.cells := by simp [State.event]
@[simp] theorem State.event_bell (s : State) (page code : Nat) (l : List Word) : (s.event page code l).bell = s.bell := by simp [State.event]
@[simp] theorem State.event_epoch (s : State) (page code : Nat) (l : List Word) : (s.event page code l).epoch = s.epoch := by simp [State.event]
@[simp] theorem State.event_elems (s : State) (page code : Nat) (l : List Word) : (s.event page code l).elems = s.elems := by simp [State.event]
@[simp] theorem State.event_lps (s : State) (page code : Nat) (l : List Word) : (s.event page code l).lps = s.lps := by simp [State.event]
@[simp] theorem State.event_trans (s : State) (page code : Nat) (l : List Word) : (s.event page code l).trans = s.trans := by simp [State.event]
@[simp] theorem State.event_drv (s : State) (page code : Nat) (l : List Word) : (s.event page code l).drv = s.drv := by simp [State.event]
@[simp] theorem State.event_traces (s : State) (page code : Nat) (l : List Word) : (s.event page code l).traces = s.traces := by simp [State.event]
@[simp] theorem State.event_tiles (s : State) (page code : Nat) (l : List Word) : (s.event page code l).tiles = s.tiles := by simp [State.event]
@[simp] theorem State.event_accs (s : State) (page code : Nat) (l : List Word) : (s.event page code l).accs = s.accs := by simp [State.event]
@[simp] theorem State.event_haccs (s : State) (page code : Nat) (l : List Word) : (s.event page code l).haccs = s.haccs := by simp [State.event]
@[simp] theorem State.event_pairs (s : State) (page code : Nat) (l : List Word) : (s.event page code l).pairs = s.pairs := by simp [State.event]
@[simp] theorem State.event_conv (s : State) (page code : Nat) (l : List Word) : (s.event page code l).conv = s.conv := by simp [State.event]
@[simp] theorem State.event_pla (s : State) (page code : Nat) (l : List Word) : (s.event page code l).pla = s.pla := by simp [State.event]
@[simp] theorem State.event_plb (s : State) (page code : Nat) (l : List Word) : (s.event page code l).plb = s.plb := by simp [State.event]
@[simp] theorem State.event_token (s : State) (page code : Nat) (l : List Word) : (s.event page code l).token = s.token := by simp [State.event]
@[simp] theorem State.event_safe (s : State) (page code : Nat) (l : List Word) : (s.event page code l).safe = s.safe := by simp [State.event]
@[simp] theorem State.event_therm (s : State) (page code : Nat) (l : List Word) : (s.event page code l).therm = s.therm := by simp [State.event]
@[simp] theorem State.event_osc (s : State) (page code : Nat) (l : List Word) : (s.event page code l).osc = s.osc := by simp [State.event]
@[simp] theorem State.event_sched (s : State) (page code : Nat) (l : List Word) : (s.event page code l).sched = s.sched := by simp [State.event]
@[simp] theorem State.event_obj (s : State) (page code : Nat) (l : List Word) : (s.event page code l).obj = s.obj := by simp [State.event]
@[simp] theorem State.event_time (s : State) (page code : Nat) (l : List Word) : (s.event page code l).time = s.time := by simp [State.event]
@[simp] theorem State.event_dev (s : State) (page code : Nat) (l : List Word) : (s.event page code l).dev = s.dev := by simp [State.event]
@[simp] theorem State.event_jrnl (s : State) (page code : Nat) (l : List Word) : (s.event page code l).jrnl = s.jrnl := by simp [State.event]
@[simp] theorem State.event_bist (s : State) (page code : Nat) (l : List Word) : (s.event page code l).bist = s.bist := by simp [State.event]
@[simp] theorem State.event_tap (s : State) (page code : Nat) (l : List Word) : (s.event page code l).tap = s.tap := by simp [State.event]
@[simp] theorem State.event_e0 (s : State) (page code : Nat) (l : List Word) : (s.event page code l).e0 = s.e0 := by simp [State.event]
@[simp] theorem State.event_e1 (s : State) (page code : Nat) (l : List Word) : (s.event page code l).e1 = s.e1 := by simp [State.event]
@[simp] theorem State.event_nint (s : State) (page code : Nat) (l : List Word) : (s.event page code l).nint = s.nint := by simp [State.event]
@[simp] theorem State.event_sent (s : State) (page code : Nat) (l : List Word) : (s.event page code l).sent = s.sent := by simp [State.event]
@[simp] theorem State.event_pending (s : State) (page code : Nat) (l : List Word) : (s.event page code l).pending = s.pending := by simp [State.event]
@[simp] theorem State.event_waits (s : State) (page code : Nat) (l : List Word) : (s.event page code l).waits = s.waits := by simp [State.event]

@[simp] theorem State.transmit_mem (s : State) (p : Port) (op : BitVec 4) (m : BitVec 48) (f : LinkFrame) : (s.transmit p op m f).mem = s.mem := by unfold State.transmit; split <;> simp
@[simp] theorem State.transmit_fuse (s : State) (p : Port) (op : BitVec 4) (m : BitVec 48) (f : LinkFrame) : (s.transmit p op m f).fuse = s.fuse := by unfold State.transmit; split <;> simp
@[simp] theorem State.transmit_fuseUpset (s : State) (p : Port) (op : BitVec 4) (m : BitVec 48) (f : LinkFrame) : (s.transmit p op m f).fuseUpset = s.fuseUpset := by unfold State.transmit; split <;> simp
@[simp] theorem State.transmit_clock (s : State) (p : Port) (op : BitVec 4) (m : BitVec 48) (f : LinkFrame) : (s.transmit p op m f).clock = s.clock := by unfold State.transmit; split <;> simp
@[simp] theorem State.transmit_cells (s : State) (p : Port) (op : BitVec 4) (m : BitVec 48) (f : LinkFrame) : (s.transmit p op m f).cells = s.cells := by unfold State.transmit; split <;> simp
@[simp] theorem State.transmit_bell (s : State) (p : Port) (op : BitVec 4) (m : BitVec 48) (f : LinkFrame) : (s.transmit p op m f).bell = s.bell := by unfold State.transmit; split <;> simp
@[simp] theorem State.transmit_epoch (s : State) (p : Port) (op : BitVec 4) (m : BitVec 48) (f : LinkFrame) : (s.transmit p op m f).epoch = s.epoch := by unfold State.transmit; split <;> simp
@[simp] theorem State.transmit_elems (s : State) (p : Port) (op : BitVec 4) (m : BitVec 48) (f : LinkFrame) : (s.transmit p op m f).elems = s.elems := by unfold State.transmit; split <;> simp
@[simp] theorem State.transmit_lps (s : State) (p : Port) (op : BitVec 4) (m : BitVec 48) (f : LinkFrame) : (s.transmit p op m f).lps = s.lps := by unfold State.transmit; split <;> simp
@[simp] theorem State.transmit_trans (s : State) (p : Port) (op : BitVec 4) (m : BitVec 48) (f : LinkFrame) : (s.transmit p op m f).trans = s.trans := by unfold State.transmit; split <;> simp
@[simp] theorem State.transmit_drv (s : State) (p : Port) (op : BitVec 4) (m : BitVec 48) (f : LinkFrame) : (s.transmit p op m f).drv = s.drv := by unfold State.transmit; split <;> simp
@[simp] theorem State.transmit_traces (s : State) (p : Port) (op : BitVec 4) (m : BitVec 48) (f : LinkFrame) : (s.transmit p op m f).traces = s.traces := by unfold State.transmit; split <;> simp
@[simp] theorem State.transmit_tiles (s : State) (p : Port) (op : BitVec 4) (m : BitVec 48) (f : LinkFrame) : (s.transmit p op m f).tiles = s.tiles := by unfold State.transmit; split <;> simp
@[simp] theorem State.transmit_accs (s : State) (p : Port) (op : BitVec 4) (m : BitVec 48) (f : LinkFrame) : (s.transmit p op m f).accs = s.accs := by unfold State.transmit; split <;> simp
@[simp] theorem State.transmit_haccs (s : State) (p : Port) (op : BitVec 4) (m : BitVec 48) (f : LinkFrame) : (s.transmit p op m f).haccs = s.haccs := by unfold State.transmit; split <;> simp
@[simp] theorem State.transmit_pairs (s : State) (p : Port) (op : BitVec 4) (m : BitVec 48) (f : LinkFrame) : (s.transmit p op m f).pairs = s.pairs := by unfold State.transmit; split <;> simp
@[simp] theorem State.transmit_conv (s : State) (p : Port) (op : BitVec 4) (m : BitVec 48) (f : LinkFrame) : (s.transmit p op m f).conv = s.conv := by unfold State.transmit; split <;> simp
@[simp] theorem State.transmit_pla (s : State) (p : Port) (op : BitVec 4) (m : BitVec 48) (f : LinkFrame) : (s.transmit p op m f).pla = s.pla := by unfold State.transmit; split <;> simp
@[simp] theorem State.transmit_plb (s : State) (p : Port) (op : BitVec 4) (m : BitVec 48) (f : LinkFrame) : (s.transmit p op m f).plb = s.plb := by unfold State.transmit; split <;> simp
@[simp] theorem State.transmit_token (s : State) (p : Port) (op : BitVec 4) (m : BitVec 48) (f : LinkFrame) : (s.transmit p op m f).token = s.token := by unfold State.transmit; split <;> simp
@[simp] theorem State.transmit_safe (s : State) (p : Port) (op : BitVec 4) (m : BitVec 48) (f : LinkFrame) : (s.transmit p op m f).safe = s.safe := by unfold State.transmit; split <;> simp
@[simp] theorem State.transmit_therm (s : State) (p : Port) (op : BitVec 4) (m : BitVec 48) (f : LinkFrame) : (s.transmit p op m f).therm = s.therm := by unfold State.transmit; split <;> simp
@[simp] theorem State.transmit_osc (s : State) (p : Port) (op : BitVec 4) (m : BitVec 48) (f : LinkFrame) : (s.transmit p op m f).osc = s.osc := by unfold State.transmit; split <;> simp
@[simp] theorem State.transmit_sched (s : State) (p : Port) (op : BitVec 4) (m : BitVec 48) (f : LinkFrame) : (s.transmit p op m f).sched = s.sched := by unfold State.transmit; split <;> simp
@[simp] theorem State.transmit_obj (s : State) (p : Port) (op : BitVec 4) (m : BitVec 48) (f : LinkFrame) : (s.transmit p op m f).obj = s.obj := by unfold State.transmit; split <;> simp
@[simp] theorem State.transmit_time (s : State) (p : Port) (op : BitVec 4) (m : BitVec 48) (f : LinkFrame) : (s.transmit p op m f).time = s.time := by unfold State.transmit; split <;> simp
@[simp] theorem State.transmit_dev (s : State) (p : Port) (op : BitVec 4) (m : BitVec 48) (f : LinkFrame) : (s.transmit p op m f).dev = s.dev := by unfold State.transmit; split <;> simp
@[simp] theorem State.transmit_jrnl (s : State) (p : Port) (op : BitVec 4) (m : BitVec 48) (f : LinkFrame) : (s.transmit p op m f).jrnl = s.jrnl := by unfold State.transmit; split <;> simp
@[simp] theorem State.transmit_bist (s : State) (p : Port) (op : BitVec 4) (m : BitVec 48) (f : LinkFrame) : (s.transmit p op m f).bist = s.bist := by unfold State.transmit; split <;> simp
@[simp] theorem State.transmit_tap (s : State) (p : Port) (op : BitVec 4) (m : BitVec 48) (f : LinkFrame) : (s.transmit p op m f).tap = s.tap := by unfold State.transmit; split <;> simp
@[simp] theorem State.transmit_chain (s : State) (p : Port) (op : BitVec 4) (m : BitVec 48) (f : LinkFrame) : (s.transmit p op m f).chain = s.chain := by unfold State.transmit; split <;> simp
@[simp] theorem State.transmit_nint (s : State) (p : Port) (op : BitVec 4) (m : BitVec 48) (f : LinkFrame) : (s.transmit p op m f).nint = s.nint := by unfold State.transmit; split <;> simp
@[simp] theorem State.transmit_pending (s : State) (p : Port) (op : BitVec 4) (m : BitVec 48) (f : LinkFrame) : (s.transmit p op m f).pending = s.pending := by unfold State.transmit; split <;> simp
@[simp] theorem State.transmit_waits (s : State) (p : Port) (op : BitVec 4) (m : BitVec 48) (f : LinkFrame) : (s.transmit p op m f).waits = s.waits := by unfold State.transmit; split <;> simp

@[simp] theorem State.respond_mem (s : State) (p : Port) (q : BitVec 16) (t : BitVec 12) (m : BitVec 48) (a : Word) (c : Nat) (l : List Word) : (s.respond p q t m a c l).mem = s.mem := by simp [State.respond]
@[simp] theorem State.respond_fuse (s : State) (p : Port) (q : BitVec 16) (t : BitVec 12) (m : BitVec 48) (a : Word) (c : Nat) (l : List Word) : (s.respond p q t m a c l).fuse = s.fuse := by simp [State.respond]
@[simp] theorem State.respond_fuseUpset (s : State) (p : Port) (q : BitVec 16) (t : BitVec 12) (m : BitVec 48) (a : Word) (c : Nat) (l : List Word) : (s.respond p q t m a c l).fuseUpset = s.fuseUpset := by simp [State.respond]
@[simp] theorem State.respond_clock (s : State) (p : Port) (q : BitVec 16) (t : BitVec 12) (m : BitVec 48) (a : Word) (c : Nat) (l : List Word) : (s.respond p q t m a c l).clock = s.clock := by simp [State.respond]
@[simp] theorem State.respond_cells (s : State) (p : Port) (q : BitVec 16) (t : BitVec 12) (m : BitVec 48) (a : Word) (c : Nat) (l : List Word) : (s.respond p q t m a c l).cells = s.cells := by simp [State.respond]
@[simp] theorem State.respond_bell (s : State) (p : Port) (q : BitVec 16) (t : BitVec 12) (m : BitVec 48) (a : Word) (c : Nat) (l : List Word) : (s.respond p q t m a c l).bell = s.bell := by simp [State.respond]
@[simp] theorem State.respond_epoch (s : State) (p : Port) (q : BitVec 16) (t : BitVec 12) (m : BitVec 48) (a : Word) (c : Nat) (l : List Word) : (s.respond p q t m a c l).epoch = s.epoch := by simp [State.respond]
@[simp] theorem State.respond_elems (s : State) (p : Port) (q : BitVec 16) (t : BitVec 12) (m : BitVec 48) (a : Word) (c : Nat) (l : List Word) : (s.respond p q t m a c l).elems = s.elems := by simp [State.respond]
@[simp] theorem State.respond_lps (s : State) (p : Port) (q : BitVec 16) (t : BitVec 12) (m : BitVec 48) (a : Word) (c : Nat) (l : List Word) : (s.respond p q t m a c l).lps = s.lps := by simp [State.respond]
@[simp] theorem State.respond_trans (s : State) (p : Port) (q : BitVec 16) (t : BitVec 12) (m : BitVec 48) (a : Word) (c : Nat) (l : List Word) : (s.respond p q t m a c l).trans = s.trans := by simp [State.respond]
@[simp] theorem State.respond_drv (s : State) (p : Port) (q : BitVec 16) (t : BitVec 12) (m : BitVec 48) (a : Word) (c : Nat) (l : List Word) : (s.respond p q t m a c l).drv = s.drv := by simp [State.respond]
@[simp] theorem State.respond_traces (s : State) (p : Port) (q : BitVec 16) (t : BitVec 12) (m : BitVec 48) (a : Word) (c : Nat) (l : List Word) : (s.respond p q t m a c l).traces = s.traces := by simp [State.respond]
@[simp] theorem State.respond_tiles (s : State) (p : Port) (q : BitVec 16) (t : BitVec 12) (m : BitVec 48) (a : Word) (c : Nat) (l : List Word) : (s.respond p q t m a c l).tiles = s.tiles := by simp [State.respond]
@[simp] theorem State.respond_accs (s : State) (p : Port) (q : BitVec 16) (t : BitVec 12) (m : BitVec 48) (a : Word) (c : Nat) (l : List Word) : (s.respond p q t m a c l).accs = s.accs := by simp [State.respond]
@[simp] theorem State.respond_haccs (s : State) (p : Port) (q : BitVec 16) (t : BitVec 12) (m : BitVec 48) (a : Word) (c : Nat) (l : List Word) : (s.respond p q t m a c l).haccs = s.haccs := by simp [State.respond]
@[simp] theorem State.respond_pairs (s : State) (p : Port) (q : BitVec 16) (t : BitVec 12) (m : BitVec 48) (a : Word) (c : Nat) (l : List Word) : (s.respond p q t m a c l).pairs = s.pairs := by simp [State.respond]
@[simp] theorem State.respond_conv (s : State) (p : Port) (q : BitVec 16) (t : BitVec 12) (m : BitVec 48) (a : Word) (c : Nat) (l : List Word) : (s.respond p q t m a c l).conv = s.conv := by simp [State.respond]
@[simp] theorem State.respond_pla (s : State) (p : Port) (q : BitVec 16) (t : BitVec 12) (m : BitVec 48) (a : Word) (c : Nat) (l : List Word) : (s.respond p q t m a c l).pla = s.pla := by simp [State.respond]
@[simp] theorem State.respond_plb (s : State) (p : Port) (q : BitVec 16) (t : BitVec 12) (m : BitVec 48) (a : Word) (c : Nat) (l : List Word) : (s.respond p q t m a c l).plb = s.plb := by simp [State.respond]
@[simp] theorem State.respond_token (s : State) (p : Port) (q : BitVec 16) (t : BitVec 12) (m : BitVec 48) (a : Word) (c : Nat) (l : List Word) : (s.respond p q t m a c l).token = s.token := by simp [State.respond]
@[simp] theorem State.respond_safe (s : State) (p : Port) (q : BitVec 16) (t : BitVec 12) (m : BitVec 48) (a : Word) (c : Nat) (l : List Word) : (s.respond p q t m a c l).safe = s.safe := by simp [State.respond]
@[simp] theorem State.respond_therm (s : State) (p : Port) (q : BitVec 16) (t : BitVec 12) (m : BitVec 48) (a : Word) (c : Nat) (l : List Word) : (s.respond p q t m a c l).therm = s.therm := by simp [State.respond]
@[simp] theorem State.respond_osc (s : State) (p : Port) (q : BitVec 16) (t : BitVec 12) (m : BitVec 48) (a : Word) (c : Nat) (l : List Word) : (s.respond p q t m a c l).osc = s.osc := by simp [State.respond]
@[simp] theorem State.respond_sched (s : State) (p : Port) (q : BitVec 16) (t : BitVec 12) (m : BitVec 48) (a : Word) (c : Nat) (l : List Word) : (s.respond p q t m a c l).sched = s.sched := by simp [State.respond]
@[simp] theorem State.respond_obj (s : State) (p : Port) (q : BitVec 16) (t : BitVec 12) (m : BitVec 48) (a : Word) (c : Nat) (l : List Word) : (s.respond p q t m a c l).obj = s.obj := by simp [State.respond]
@[simp] theorem State.respond_time (s : State) (p : Port) (q : BitVec 16) (t : BitVec 12) (m : BitVec 48) (a : Word) (c : Nat) (l : List Word) : (s.respond p q t m a c l).time = s.time := by simp [State.respond]
@[simp] theorem State.respond_dev (s : State) (p : Port) (q : BitVec 16) (t : BitVec 12) (m : BitVec 48) (a : Word) (c : Nat) (l : List Word) : (s.respond p q t m a c l).dev = s.dev := by simp [State.respond]
@[simp] theorem State.respond_jrnl (s : State) (p : Port) (q : BitVec 16) (t : BitVec 12) (m : BitVec 48) (a : Word) (c : Nat) (l : List Word) : (s.respond p q t m a c l).jrnl = s.jrnl := by simp [State.respond]
@[simp] theorem State.respond_bist (s : State) (p : Port) (q : BitVec 16) (t : BitVec 12) (m : BitVec 48) (a : Word) (c : Nat) (l : List Word) : (s.respond p q t m a c l).bist = s.bist := by simp [State.respond]
@[simp] theorem State.respond_tap (s : State) (p : Port) (q : BitVec 16) (t : BitVec 12) (m : BitVec 48) (a : Word) (c : Nat) (l : List Word) : (s.respond p q t m a c l).tap = s.tap := by simp [State.respond]
@[simp] theorem State.respond_chain (s : State) (p : Port) (q : BitVec 16) (t : BitVec 12) (m : BitVec 48) (a : Word) (c : Nat) (l : List Word) : (s.respond p q t m a c l).chain = s.chain := by simp [State.respond]
@[simp] theorem State.respond_nint (s : State) (p : Port) (q : BitVec 16) (t : BitVec 12) (m : BitVec 48) (a : Word) (c : Nat) (l : List Word) : (s.respond p q t m a c l).nint = s.nint := by simp [State.respond]
@[simp] theorem State.respond_pending (s : State) (p : Port) (q : BitVec 16) (t : BitVec 12) (m : BitVec 48) (a : Word) (c : Nat) (l : List Word) : (s.respond p q t m a c l).pending = s.pending := by simp [State.respond]
@[simp] theorem State.respond_waits (s : State) (p : Port) (q : BitVec 16) (t : BitVec 12) (m : BitVec 48) (a : Word) (c : Nat) (l : List Word) : (s.respond p q t m a c l).waits = s.waits := by simp [State.respond]

@[simp] theorem State.retire_regs (s : State) (p : Port) (t : BitVec 12) : (s.retire p t).regs = s.regs := by simp [State.retire]
@[simp] theorem State.retire_mem (s : State) (p : Port) (t : BitVec 12) : (s.retire p t).mem = s.mem := by simp [State.retire]
@[simp] theorem State.retire_fuse (s : State) (p : Port) (t : BitVec 12) : (s.retire p t).fuse = s.fuse := by simp [State.retire]
@[simp] theorem State.retire_fuseUpset (s : State) (p : Port) (t : BitVec 12) : (s.retire p t).fuseUpset = s.fuseUpset := by simp [State.retire]
@[simp] theorem State.retire_clock (s : State) (p : Port) (t : BitVec 12) : (s.retire p t).clock = s.clock := by simp [State.retire]
@[simp] theorem State.retire_cells (s : State) (p : Port) (t : BitVec 12) : (s.retire p t).cells = s.cells := by simp [State.retire]
@[simp] theorem State.retire_bell (s : State) (p : Port) (t : BitVec 12) : (s.retire p t).bell = s.bell := by simp [State.retire]
@[simp] theorem State.retire_epoch (s : State) (p : Port) (t : BitVec 12) : (s.retire p t).epoch = s.epoch := by simp [State.retire]
@[simp] theorem State.retire_elems (s : State) (p : Port) (t : BitVec 12) : (s.retire p t).elems = s.elems := by simp [State.retire]
@[simp] theorem State.retire_lps (s : State) (p : Port) (t : BitVec 12) : (s.retire p t).lps = s.lps := by simp [State.retire]
@[simp] theorem State.retire_trans (s : State) (p : Port) (t : BitVec 12) : (s.retire p t).trans = s.trans := by simp [State.retire]
@[simp] theorem State.retire_drv (s : State) (p : Port) (t : BitVec 12) : (s.retire p t).drv = s.drv := by simp [State.retire]
@[simp] theorem State.retire_traces (s : State) (p : Port) (t : BitVec 12) : (s.retire p t).traces = s.traces := by simp [State.retire]
@[simp] theorem State.retire_tiles (s : State) (p : Port) (t : BitVec 12) : (s.retire p t).tiles = s.tiles := by simp [State.retire]
@[simp] theorem State.retire_accs (s : State) (p : Port) (t : BitVec 12) : (s.retire p t).accs = s.accs := by simp [State.retire]
@[simp] theorem State.retire_haccs (s : State) (p : Port) (t : BitVec 12) : (s.retire p t).haccs = s.haccs := by simp [State.retire]
@[simp] theorem State.retire_pairs (s : State) (p : Port) (t : BitVec 12) : (s.retire p t).pairs = s.pairs := by simp [State.retire]
@[simp] theorem State.retire_conv (s : State) (p : Port) (t : BitVec 12) : (s.retire p t).conv = s.conv := by simp [State.retire]
@[simp] theorem State.retire_pla (s : State) (p : Port) (t : BitVec 12) : (s.retire p t).pla = s.pla := by simp [State.retire]
@[simp] theorem State.retire_plb (s : State) (p : Port) (t : BitVec 12) : (s.retire p t).plb = s.plb := by simp [State.retire]
@[simp] theorem State.retire_token (s : State) (p : Port) (t : BitVec 12) : (s.retire p t).token = s.token := by simp [State.retire]
@[simp] theorem State.retire_safe (s : State) (p : Port) (t : BitVec 12) : (s.retire p t).safe = s.safe := by simp [State.retire]
@[simp] theorem State.retire_therm (s : State) (p : Port) (t : BitVec 12) : (s.retire p t).therm = s.therm := by simp [State.retire]
@[simp] theorem State.retire_osc (s : State) (p : Port) (t : BitVec 12) : (s.retire p t).osc = s.osc := by simp [State.retire]
@[simp] theorem State.retire_sched (s : State) (p : Port) (t : BitVec 12) : (s.retire p t).sched = s.sched := by simp [State.retire]
@[simp] theorem State.retire_obj (s : State) (p : Port) (t : BitVec 12) : (s.retire p t).obj = s.obj := by simp [State.retire]
@[simp] theorem State.retire_time (s : State) (p : Port) (t : BitVec 12) : (s.retire p t).time = s.time := by simp [State.retire]
@[simp] theorem State.retire_dev (s : State) (p : Port) (t : BitVec 12) : (s.retire p t).dev = s.dev := by simp [State.retire]
@[simp] theorem State.retire_jrnl (s : State) (p : Port) (t : BitVec 12) : (s.retire p t).jrnl = s.jrnl := by simp [State.retire]
@[simp] theorem State.retire_bist (s : State) (p : Port) (t : BitVec 12) : (s.retire p t).bist = s.bist := by simp [State.retire]
@[simp] theorem State.retire_tap (s : State) (p : Port) (t : BitVec 12) : (s.retire p t).tap = s.tap := by simp [State.retire]
@[simp] theorem State.retire_chain (s : State) (p : Port) (t : BitVec 12) : (s.retire p t).chain = s.chain := by simp [State.retire]
@[simp] theorem State.retire_nint (s : State) (p : Port) (t : BitVec 12) : (s.retire p t).nint = s.nint := by simp [State.retire]
@[simp] theorem State.retire_sent (s : State) (p : Port) (t : BitVec 12) : (s.retire p t).sent = s.sent := by simp [State.retire]
@[simp] theorem State.retire_pending (s : State) (p : Port) (t : BitVec 12) : (s.retire p t).pending = s.pending := by simp [State.retire]
@[simp] theorem State.retire_waits (s : State) (p : Port) (t : BitVec 12) : (s.retire p t).waits = s.waits := by simp [State.retire]

@[simp] theorem State.answer_mem (s : State) (o : Order) (c : Nat) (w : Word) : (s.answer o c w).mem = s.mem := by unfold State.answer; split <;> (try split) <;> simp
@[simp] theorem State.answer_fuse (s : State) (o : Order) (c : Nat) (w : Word) : (s.answer o c w).fuse = s.fuse := by unfold State.answer; split <;> (try split) <;> simp
@[simp] theorem State.answer_fuseUpset (s : State) (o : Order) (c : Nat) (w : Word) : (s.answer o c w).fuseUpset = s.fuseUpset := by unfold State.answer; split <;> (try split) <;> simp
@[simp] theorem State.answer_clock (s : State) (o : Order) (c : Nat) (w : Word) : (s.answer o c w).clock = s.clock := by unfold State.answer; split <;> (try split) <;> simp
@[simp] theorem State.answer_cells (s : State) (o : Order) (c : Nat) (w : Word) : (s.answer o c w).cells = s.cells := by unfold State.answer; split <;> (try split) <;> simp
@[simp] theorem State.answer_bell (s : State) (o : Order) (c : Nat) (w : Word) : (s.answer o c w).bell = s.bell := by unfold State.answer; split <;> (try split) <;> simp
@[simp] theorem State.answer_epoch (s : State) (o : Order) (c : Nat) (w : Word) : (s.answer o c w).epoch = s.epoch := by unfold State.answer; split <;> (try split) <;> simp
@[simp] theorem State.answer_elems (s : State) (o : Order) (c : Nat) (w : Word) : (s.answer o c w).elems = s.elems := by unfold State.answer; split <;> (try split) <;> simp
@[simp] theorem State.answer_lps (s : State) (o : Order) (c : Nat) (w : Word) : (s.answer o c w).lps = s.lps := by unfold State.answer; split <;> (try split) <;> simp
@[simp] theorem State.answer_trans (s : State) (o : Order) (c : Nat) (w : Word) : (s.answer o c w).trans = s.trans := by unfold State.answer; split <;> (try split) <;> simp
@[simp] theorem State.answer_drv (s : State) (o : Order) (c : Nat) (w : Word) : (s.answer o c w).drv = s.drv := by unfold State.answer; split <;> (try split) <;> simp
@[simp] theorem State.answer_traces (s : State) (o : Order) (c : Nat) (w : Word) : (s.answer o c w).traces = s.traces := by unfold State.answer; split <;> (try split) <;> simp
@[simp] theorem State.answer_tiles (s : State) (o : Order) (c : Nat) (w : Word) : (s.answer o c w).tiles = s.tiles := by unfold State.answer; split <;> (try split) <;> simp
@[simp] theorem State.answer_accs (s : State) (o : Order) (c : Nat) (w : Word) : (s.answer o c w).accs = s.accs := by unfold State.answer; split <;> (try split) <;> simp
@[simp] theorem State.answer_haccs (s : State) (o : Order) (c : Nat) (w : Word) : (s.answer o c w).haccs = s.haccs := by unfold State.answer; split <;> (try split) <;> simp
@[simp] theorem State.answer_pairs (s : State) (o : Order) (c : Nat) (w : Word) : (s.answer o c w).pairs = s.pairs := by unfold State.answer; split <;> (try split) <;> simp
@[simp] theorem State.answer_conv (s : State) (o : Order) (c : Nat) (w : Word) : (s.answer o c w).conv = s.conv := by unfold State.answer; split <;> (try split) <;> simp
@[simp] theorem State.answer_pla (s : State) (o : Order) (c : Nat) (w : Word) : (s.answer o c w).pla = s.pla := by unfold State.answer; split <;> (try split) <;> simp
@[simp] theorem State.answer_plb (s : State) (o : Order) (c : Nat) (w : Word) : (s.answer o c w).plb = s.plb := by unfold State.answer; split <;> (try split) <;> simp
@[simp] theorem State.answer_token (s : State) (o : Order) (c : Nat) (w : Word) : (s.answer o c w).token = s.token := by unfold State.answer; split <;> (try split) <;> simp
@[simp] theorem State.answer_safe (s : State) (o : Order) (c : Nat) (w : Word) : (s.answer o c w).safe = s.safe := by unfold State.answer; split <;> (try split) <;> simp
@[simp] theorem State.answer_therm (s : State) (o : Order) (c : Nat) (w : Word) : (s.answer o c w).therm = s.therm := by unfold State.answer; split <;> (try split) <;> simp
@[simp] theorem State.answer_osc (s : State) (o : Order) (c : Nat) (w : Word) : (s.answer o c w).osc = s.osc := by unfold State.answer; split <;> (try split) <;> simp
@[simp] theorem State.answer_sched (s : State) (o : Order) (c : Nat) (w : Word) : (s.answer o c w).sched = s.sched := by unfold State.answer; split <;> (try split) <;> simp
@[simp] theorem State.answer_obj (s : State) (o : Order) (c : Nat) (w : Word) : (s.answer o c w).obj = s.obj := by unfold State.answer; split <;> (try split) <;> simp
@[simp] theorem State.answer_time (s : State) (o : Order) (c : Nat) (w : Word) : (s.answer o c w).time = s.time := by unfold State.answer; split <;> (try split) <;> simp
@[simp] theorem State.answer_dev (s : State) (o : Order) (c : Nat) (w : Word) : (s.answer o c w).dev = s.dev := by unfold State.answer; split <;> (try split) <;> simp
@[simp] theorem State.answer_jrnl (s : State) (o : Order) (c : Nat) (w : Word) : (s.answer o c w).jrnl = s.jrnl := by unfold State.answer; split <;> (try split) <;> simp
@[simp] theorem State.answer_bist (s : State) (o : Order) (c : Nat) (w : Word) : (s.answer o c w).bist = s.bist := by unfold State.answer; split <;> (try split) <;> simp
@[simp] theorem State.answer_tap (s : State) (o : Order) (c : Nat) (w : Word) : (s.answer o c w).tap = s.tap := by unfold State.answer; split <;> (try split) <;> simp
@[simp] theorem State.answer_chain (s : State) (o : Order) (c : Nat) (w : Word) : (s.answer o c w).chain = s.chain := by unfold State.answer; split <;> (try split) <;> simp
@[simp] theorem State.answer_nint (s : State) (o : Order) (c : Nat) (w : Word) : (s.answer o c w).nint = s.nint := by unfold State.answer; split <;> (try split) <;> simp
@[simp] theorem State.answer_pending (s : State) (o : Order) (c : Nat) (w : Word) : (s.answer o c w).pending = s.pending := by unfold State.answer; split <;> (try split) <;> simp
@[simp] theorem State.answer_waits (s : State) (o : Order) (c : Nat) (w : Word) : (s.answer o c w).waits = s.waits := by unfold State.answer; split <;> (try split) <;> simp

@[simp] theorem State.completeX_mem (s : State) (page op c x : Nat) (o : Option Order) : (s.completeX page op c x o).mem = s.mem := by unfold State.completeX; split <;> split <;> simp
@[simp] theorem State.completeX_fuse (s : State) (page op c x : Nat) (o : Option Order) : (s.completeX page op c x o).fuse = s.fuse := by unfold State.completeX; split <;> split <;> simp
@[simp] theorem State.completeX_fuseUpset (s : State) (page op c x : Nat) (o : Option Order) : (s.completeX page op c x o).fuseUpset = s.fuseUpset := by unfold State.completeX; split <;> split <;> simp
@[simp] theorem State.completeX_clock (s : State) (page op c x : Nat) (o : Option Order) : (s.completeX page op c x o).clock = s.clock := by unfold State.completeX; split <;> split <;> simp
@[simp] theorem State.completeX_cells (s : State) (page op c x : Nat) (o : Option Order) : (s.completeX page op c x o).cells = s.cells := by unfold State.completeX; split <;> split <;> simp
@[simp] theorem State.completeX_bell (s : State) (page op c x : Nat) (o : Option Order) : (s.completeX page op c x o).bell = s.bell := by unfold State.completeX; split <;> split <;> simp
@[simp] theorem State.completeX_epoch (s : State) (page op c x : Nat) (o : Option Order) : (s.completeX page op c x o).epoch = s.epoch := by unfold State.completeX; split <;> split <;> simp
@[simp] theorem State.completeX_elems (s : State) (page op c x : Nat) (o : Option Order) : (s.completeX page op c x o).elems = s.elems := by unfold State.completeX; split <;> split <;> simp
@[simp] theorem State.completeX_lps (s : State) (page op c x : Nat) (o : Option Order) : (s.completeX page op c x o).lps = s.lps := by unfold State.completeX; split <;> split <;> simp
@[simp] theorem State.completeX_trans (s : State) (page op c x : Nat) (o : Option Order) : (s.completeX page op c x o).trans = s.trans := by unfold State.completeX; split <;> split <;> simp
@[simp] theorem State.completeX_drv (s : State) (page op c x : Nat) (o : Option Order) : (s.completeX page op c x o).drv = s.drv := by unfold State.completeX; split <;> split <;> simp
@[simp] theorem State.completeX_traces (s : State) (page op c x : Nat) (o : Option Order) : (s.completeX page op c x o).traces = s.traces := by unfold State.completeX; split <;> split <;> simp
@[simp] theorem State.completeX_tiles (s : State) (page op c x : Nat) (o : Option Order) : (s.completeX page op c x o).tiles = s.tiles := by unfold State.completeX; split <;> split <;> simp
@[simp] theorem State.completeX_accs (s : State) (page op c x : Nat) (o : Option Order) : (s.completeX page op c x o).accs = s.accs := by unfold State.completeX; split <;> split <;> simp
@[simp] theorem State.completeX_haccs (s : State) (page op c x : Nat) (o : Option Order) : (s.completeX page op c x o).haccs = s.haccs := by unfold State.completeX; split <;> split <;> simp
@[simp] theorem State.completeX_pairs (s : State) (page op c x : Nat) (o : Option Order) : (s.completeX page op c x o).pairs = s.pairs := by unfold State.completeX; split <;> split <;> simp
@[simp] theorem State.completeX_conv (s : State) (page op c x : Nat) (o : Option Order) : (s.completeX page op c x o).conv = s.conv := by unfold State.completeX; split <;> split <;> simp
@[simp] theorem State.completeX_pla (s : State) (page op c x : Nat) (o : Option Order) : (s.completeX page op c x o).pla = s.pla := by unfold State.completeX; split <;> split <;> simp
@[simp] theorem State.completeX_plb (s : State) (page op c x : Nat) (o : Option Order) : (s.completeX page op c x o).plb = s.plb := by unfold State.completeX; split <;> split <;> simp
@[simp] theorem State.completeX_token (s : State) (page op c x : Nat) (o : Option Order) : (s.completeX page op c x o).token = s.token := by unfold State.completeX; split <;> split <;> simp
@[simp] theorem State.completeX_safe (s : State) (page op c x : Nat) (o : Option Order) : (s.completeX page op c x o).safe = s.safe := by unfold State.completeX; split <;> split <;> simp
@[simp] theorem State.completeX_therm (s : State) (page op c x : Nat) (o : Option Order) : (s.completeX page op c x o).therm = s.therm := by unfold State.completeX; split <;> split <;> simp
@[simp] theorem State.completeX_osc (s : State) (page op c x : Nat) (o : Option Order) : (s.completeX page op c x o).osc = s.osc := by unfold State.completeX; split <;> split <;> simp
@[simp] theorem State.completeX_sched (s : State) (page op c x : Nat) (o : Option Order) : (s.completeX page op c x o).sched = s.sched := by unfold State.completeX; split <;> split <;> simp
@[simp] theorem State.completeX_obj (s : State) (page op c x : Nat) (o : Option Order) : (s.completeX page op c x o).obj = s.obj := by unfold State.completeX; split <;> split <;> simp
@[simp] theorem State.completeX_time (s : State) (page op c x : Nat) (o : Option Order) : (s.completeX page op c x o).time = s.time := by unfold State.completeX; split <;> split <;> simp
@[simp] theorem State.completeX_dev (s : State) (page op c x : Nat) (o : Option Order) : (s.completeX page op c x o).dev = s.dev := by unfold State.completeX; split <;> split <;> simp
@[simp] theorem State.completeX_jrnl (s : State) (page op c x : Nat) (o : Option Order) : (s.completeX page op c x o).jrnl = s.jrnl := by unfold State.completeX; split <;> split <;> simp
@[simp] theorem State.completeX_bist (s : State) (page op c x : Nat) (o : Option Order) : (s.completeX page op c x o).bist = s.bist := by unfold State.completeX; split <;> split <;> simp
@[simp] theorem State.completeX_tap (s : State) (page op c x : Nat) (o : Option Order) : (s.completeX page op c x o).tap = s.tap := by unfold State.completeX; split <;> split <;> simp
@[simp] theorem State.completeX_chain (s : State) (page op c x : Nat) (o : Option Order) : (s.completeX page op c x o).chain = s.chain := by unfold State.completeX; split <;> split <;> simp
@[simp] theorem State.completeX_nint (s : State) (page op c x : Nat) (o : Option Order) : (s.completeX page op c x o).nint = s.nint := by unfold State.completeX; split <;> split <;> simp
@[simp] theorem State.completeX_pending (s : State) (page op c x : Nat) (o : Option Order) : (s.completeX page op c x o).pending = s.pending := by unfold State.completeX; split <;> split <;> simp
@[simp] theorem State.completeX_waits (s : State) (page op c x : Nat) (o : Option Order) : (s.completeX page op c x o).waits = s.waits := by unfold State.completeX; split <;> split <;> simp

@[simp] theorem State.complete_mem (s : State) (page op c : Nat) (o : Order) : (s.complete page op c o).mem = s.mem := by simp [State.complete]
@[simp] theorem State.complete_fuse (s : State) (page op c : Nat) (o : Order) : (s.complete page op c o).fuse = s.fuse := by simp [State.complete]
@[simp] theorem State.complete_fuseUpset (s : State) (page op c : Nat) (o : Order) : (s.complete page op c o).fuseUpset = s.fuseUpset := by simp [State.complete]
@[simp] theorem State.complete_clock (s : State) (page op c : Nat) (o : Order) : (s.complete page op c o).clock = s.clock := by simp [State.complete]
@[simp] theorem State.complete_cells (s : State) (page op c : Nat) (o : Order) : (s.complete page op c o).cells = s.cells := by simp [State.complete]
@[simp] theorem State.complete_bell (s : State) (page op c : Nat) (o : Order) : (s.complete page op c o).bell = s.bell := by simp [State.complete]
@[simp] theorem State.complete_epoch (s : State) (page op c : Nat) (o : Order) : (s.complete page op c o).epoch = s.epoch := by simp [State.complete]
@[simp] theorem State.complete_elems (s : State) (page op c : Nat) (o : Order) : (s.complete page op c o).elems = s.elems := by simp [State.complete]
@[simp] theorem State.complete_lps (s : State) (page op c : Nat) (o : Order) : (s.complete page op c o).lps = s.lps := by simp [State.complete]
@[simp] theorem State.complete_trans (s : State) (page op c : Nat) (o : Order) : (s.complete page op c o).trans = s.trans := by simp [State.complete]
@[simp] theorem State.complete_drv (s : State) (page op c : Nat) (o : Order) : (s.complete page op c o).drv = s.drv := by simp [State.complete]
@[simp] theorem State.complete_traces (s : State) (page op c : Nat) (o : Order) : (s.complete page op c o).traces = s.traces := by simp [State.complete]
@[simp] theorem State.complete_tiles (s : State) (page op c : Nat) (o : Order) : (s.complete page op c o).tiles = s.tiles := by simp [State.complete]
@[simp] theorem State.complete_accs (s : State) (page op c : Nat) (o : Order) : (s.complete page op c o).accs = s.accs := by simp [State.complete]
@[simp] theorem State.complete_haccs (s : State) (page op c : Nat) (o : Order) : (s.complete page op c o).haccs = s.haccs := by simp [State.complete]
@[simp] theorem State.complete_pairs (s : State) (page op c : Nat) (o : Order) : (s.complete page op c o).pairs = s.pairs := by simp [State.complete]
@[simp] theorem State.complete_conv (s : State) (page op c : Nat) (o : Order) : (s.complete page op c o).conv = s.conv := by simp [State.complete]
@[simp] theorem State.complete_pla (s : State) (page op c : Nat) (o : Order) : (s.complete page op c o).pla = s.pla := by simp [State.complete]
@[simp] theorem State.complete_plb (s : State) (page op c : Nat) (o : Order) : (s.complete page op c o).plb = s.plb := by simp [State.complete]
@[simp] theorem State.complete_token (s : State) (page op c : Nat) (o : Order) : (s.complete page op c o).token = s.token := by simp [State.complete]
@[simp] theorem State.complete_safe (s : State) (page op c : Nat) (o : Order) : (s.complete page op c o).safe = s.safe := by simp [State.complete]
@[simp] theorem State.complete_therm (s : State) (page op c : Nat) (o : Order) : (s.complete page op c o).therm = s.therm := by simp [State.complete]
@[simp] theorem State.complete_osc (s : State) (page op c : Nat) (o : Order) : (s.complete page op c o).osc = s.osc := by simp [State.complete]
@[simp] theorem State.complete_sched (s : State) (page op c : Nat) (o : Order) : (s.complete page op c o).sched = s.sched := by simp [State.complete]
@[simp] theorem State.complete_obj (s : State) (page op c : Nat) (o : Order) : (s.complete page op c o).obj = s.obj := by simp [State.complete]
@[simp] theorem State.complete_time (s : State) (page op c : Nat) (o : Order) : (s.complete page op c o).time = s.time := by simp [State.complete]
@[simp] theorem State.complete_dev (s : State) (page op c : Nat) (o : Order) : (s.complete page op c o).dev = s.dev := by simp [State.complete]
@[simp] theorem State.complete_jrnl (s : State) (page op c : Nat) (o : Order) : (s.complete page op c o).jrnl = s.jrnl := by simp [State.complete]
@[simp] theorem State.complete_bist (s : State) (page op c : Nat) (o : Order) : (s.complete page op c o).bist = s.bist := by simp [State.complete]
@[simp] theorem State.complete_tap (s : State) (page op c : Nat) (o : Order) : (s.complete page op c o).tap = s.tap := by simp [State.complete]
@[simp] theorem State.complete_chain (s : State) (page op c : Nat) (o : Order) : (s.complete page op c o).chain = s.chain := by simp [State.complete]
@[simp] theorem State.complete_nint (s : State) (page op c : Nat) (o : Order) : (s.complete page op c o).nint = s.nint := by simp [State.complete]
@[simp] theorem State.complete_pending (s : State) (page op c : Nat) (o : Order) : (s.complete page op c o).pending = s.pending := by simp [State.complete]
@[simp] theorem State.complete_waits (s : State) (page op c : Nat) (o : Order) : (s.complete page op c o).waits = s.waits := by simp [State.complete]

@[simp] theorem State.refuseBusy_mem (s : State) (o : Order) : (s.refuseBusy o).mem = s.mem := by unfold State.refuseBusy; split <;> (try split) <;> simp
@[simp] theorem State.refuseBusy_fuse (s : State) (o : Order) : (s.refuseBusy o).fuse = s.fuse := by unfold State.refuseBusy; split <;> (try split) <;> simp
@[simp] theorem State.refuseBusy_fuseUpset (s : State) (o : Order) : (s.refuseBusy o).fuseUpset = s.fuseUpset := by unfold State.refuseBusy; split <;> (try split) <;> simp
@[simp] theorem State.refuseBusy_clock (s : State) (o : Order) : (s.refuseBusy o).clock = s.clock := by unfold State.refuseBusy; split <;> (try split) <;> simp
@[simp] theorem State.refuseBusy_cells (s : State) (o : Order) : (s.refuseBusy o).cells = s.cells := by unfold State.refuseBusy; split <;> (try split) <;> simp
@[simp] theorem State.refuseBusy_bell (s : State) (o : Order) : (s.refuseBusy o).bell = s.bell := by unfold State.refuseBusy; split <;> (try split) <;> simp
@[simp] theorem State.refuseBusy_epoch (s : State) (o : Order) : (s.refuseBusy o).epoch = s.epoch := by unfold State.refuseBusy; split <;> (try split) <;> simp
@[simp] theorem State.refuseBusy_elems (s : State) (o : Order) : (s.refuseBusy o).elems = s.elems := by unfold State.refuseBusy; split <;> (try split) <;> simp
@[simp] theorem State.refuseBusy_lps (s : State) (o : Order) : (s.refuseBusy o).lps = s.lps := by unfold State.refuseBusy; split <;> (try split) <;> simp
@[simp] theorem State.refuseBusy_trans (s : State) (o : Order) : (s.refuseBusy o).trans = s.trans := by unfold State.refuseBusy; split <;> (try split) <;> simp
@[simp] theorem State.refuseBusy_drv (s : State) (o : Order) : (s.refuseBusy o).drv = s.drv := by unfold State.refuseBusy; split <;> (try split) <;> simp
@[simp] theorem State.refuseBusy_traces (s : State) (o : Order) : (s.refuseBusy o).traces = s.traces := by unfold State.refuseBusy; split <;> (try split) <;> simp
@[simp] theorem State.refuseBusy_tiles (s : State) (o : Order) : (s.refuseBusy o).tiles = s.tiles := by unfold State.refuseBusy; split <;> (try split) <;> simp
@[simp] theorem State.refuseBusy_accs (s : State) (o : Order) : (s.refuseBusy o).accs = s.accs := by unfold State.refuseBusy; split <;> (try split) <;> simp
@[simp] theorem State.refuseBusy_haccs (s : State) (o : Order) : (s.refuseBusy o).haccs = s.haccs := by unfold State.refuseBusy; split <;> (try split) <;> simp
@[simp] theorem State.refuseBusy_pairs (s : State) (o : Order) : (s.refuseBusy o).pairs = s.pairs := by unfold State.refuseBusy; split <;> (try split) <;> simp
@[simp] theorem State.refuseBusy_conv (s : State) (o : Order) : (s.refuseBusy o).conv = s.conv := by unfold State.refuseBusy; split <;> (try split) <;> simp
@[simp] theorem State.refuseBusy_pla (s : State) (o : Order) : (s.refuseBusy o).pla = s.pla := by unfold State.refuseBusy; split <;> (try split) <;> simp
@[simp] theorem State.refuseBusy_plb (s : State) (o : Order) : (s.refuseBusy o).plb = s.plb := by unfold State.refuseBusy; split <;> (try split) <;> simp
@[simp] theorem State.refuseBusy_token (s : State) (o : Order) : (s.refuseBusy o).token = s.token := by unfold State.refuseBusy; split <;> (try split) <;> simp
@[simp] theorem State.refuseBusy_safe (s : State) (o : Order) : (s.refuseBusy o).safe = s.safe := by unfold State.refuseBusy; split <;> (try split) <;> simp
@[simp] theorem State.refuseBusy_therm (s : State) (o : Order) : (s.refuseBusy o).therm = s.therm := by unfold State.refuseBusy; split <;> (try split) <;> simp
@[simp] theorem State.refuseBusy_osc (s : State) (o : Order) : (s.refuseBusy o).osc = s.osc := by unfold State.refuseBusy; split <;> (try split) <;> simp
@[simp] theorem State.refuseBusy_sched (s : State) (o : Order) : (s.refuseBusy o).sched = s.sched := by unfold State.refuseBusy; split <;> (try split) <;> simp
@[simp] theorem State.refuseBusy_obj (s : State) (o : Order) : (s.refuseBusy o).obj = s.obj := by unfold State.refuseBusy; split <;> (try split) <;> simp
@[simp] theorem State.refuseBusy_time (s : State) (o : Order) : (s.refuseBusy o).time = s.time := by unfold State.refuseBusy; split <;> (try split) <;> simp
@[simp] theorem State.refuseBusy_dev (s : State) (o : Order) : (s.refuseBusy o).dev = s.dev := by unfold State.refuseBusy; split <;> (try split) <;> simp
@[simp] theorem State.refuseBusy_jrnl (s : State) (o : Order) : (s.refuseBusy o).jrnl = s.jrnl := by unfold State.refuseBusy; split <;> (try split) <;> simp
@[simp] theorem State.refuseBusy_bist (s : State) (o : Order) : (s.refuseBusy o).bist = s.bist := by unfold State.refuseBusy; split <;> (try split) <;> simp
@[simp] theorem State.refuseBusy_tap (s : State) (o : Order) : (s.refuseBusy o).tap = s.tap := by unfold State.refuseBusy; split <;> (try split) <;> simp
@[simp] theorem State.refuseBusy_chain (s : State) (o : Order) : (s.refuseBusy o).chain = s.chain := by unfold State.refuseBusy; split <;> (try split) <;> simp
@[simp] theorem State.refuseBusy_nint (s : State) (o : Order) : (s.refuseBusy o).nint = s.nint := by unfold State.refuseBusy; split <;> (try split) <;> simp
@[simp] theorem State.refuseBusy_pending (s : State) (o : Order) : (s.refuseBusy o).pending = s.pending := by unfold State.refuseBusy; split <;> (try split) <;> simp
@[simp] theorem State.refuseBusy_waits (s : State) (o : Order) : (s.refuseBusy o).waits = s.waits := by unfold State.refuseBusy; split <;> (try split) <;> simp

end Sys2Proof.Machine
end

