-- ==== Sys2Proof/Laws/Table.lean ====
section
/-!
SUPPORT. Sparse tables and addressed memory: a read after a write gives what was written, a write leaves every other key
alone, and every operation keeps the canonical form.
-/

namespace Sys2Proof.Machine

variable {α : Type}

/-- Dropping the keys up to k does not change what a higher key reads. -/
theorem tget_tdrop_of_lt (d : Nat → α) (t : Tbl α) {k j : Nat} (hk : k < j) : tget d (tdrop t k) j = tget d t j := by
  induction t with
  | nil => rfl
  | cons e t ih =>
    simp only [tdrop]
    split
    · have h1 : j ≠ e.1 := by omega
      have h2 : ¬ j < e.1 := by omega
      simpa only [tget, h1, h2, if_false] using ih
    · rfl

/-- After the keys up to k are dropped, a key up to k reads as the default. -/
theorem tget_tdrop_of_ge (d : Nat → α) (t : Tbl α) {k j : Nat} (hk : j ≤ k) : tget d (tdrop t k) j = d j := by
  induction t with
  | nil => rfl
  | cons e t ih =>
    simp only [tdrop]
    split
    · exact ih
    · have h1 : j ≠ e.1 := by omega
      have h2 : j < e.1 := by omega
      simp [tget, h1, h2]

theorem tsortedFrom_mono (t : Tbl α) {b c : Nat} (h : c ≤ b) (hs : tsortedFrom b t = true) : tsortedFrom c t = true := by
  cases t with
  | nil => rfl
  | cons e t =>
    simp only [tsortedFrom, Bool.and_eq_true, decide_eq_true_eq] at hs ⊢
    exact ⟨by omega, hs.2⟩

theorem tsortedFrom_tdrop (t : Tbl α) (k : Nat) {b : Nat} (hs : tsortedFrom b t = true) :
    tsortedFrom (k + 1) (tdrop t k) = true := by
  induction t generalizing b with
  | nil => rfl
  | cons e t ih =>
    simp only [tsortedFrom, Bool.and_eq_true, decide_eq_true_eq] at hs
    simp only [tdrop]
    split
    · exact ih hs.2
    · simp only [tsortedFrom, Bool.and_eq_true, decide_eq_true_eq]
      exact ⟨by omega, hs.2⟩

theorem tdrop_all (t : Tbl α) (k : Nat) (p : Nat × α → Bool) (h : t.all p = true) : (tdrop t k).all p = true := by
  induction t with
  | nil => rfl
  | cons e t ih =>
    simp only [List.all_cons, Bool.and_eq_true] at h
    simp only [tdrop]
    split
    · exact ih h.2
    · simp only [List.all_cons, Bool.and_eq_true]; exact h

/-- A read after a write of the same key gives the value written. -/
@[simp] theorem tget_tset_eq [DecidableEq α] (d : Nat → α) (t : Tbl α) (k : Nat) (v : α) :
    tget d (tset d t k v) k = v := by
  induction t with
  | nil =>
    simp only [tset]
    split
    · rename_i h; simp [tget, h]
    · simp [tget]
  | cons e t ih =>
    obtain ⟨j, u⟩ := e
    simp only [tset]
    split
    · have h1 : k ≠ j := by omega
      have h2 : ¬ k < j := by omega
      simp only [tget, h1, h2, if_false]; exact ih
    · split
      · rename_i h; rw [tget_tdrop_of_ge _ _ (le_refl _), h]
      · simp [tget]

/-- A write leaves every other key alone. -/
theorem tget_tset_ne [DecidableEq α] (d : Nat → α) (t : Tbl α) {k j : Nat} (v : α) (h : j ≠ k) :
    tget d (tset d t k v) j = tget d t j := by
  induction t with
  | nil =>
    simp only [tset]
    split
    · rfl
    · simp only [tget, h, if_false]; split <;> rfl
  | cons e t ih =>
    obtain ⟨i, u⟩ := e
    simp only [tset]
    split
    · simp only [tget]
      split
      · rfl
      · split
        · rfl
        · exact ih
    · have low : j < k → tget d ((i, u) :: t) j = d j := fun hjk => by
        have h1 : j ≠ i := by omega
        have h2 : j < i := by omega
        simp [tget, h1, h2]
      split
      · rcases Nat.lt_or_gt_of_ne h with hjk | hjk
        · rw [low hjk, tget_tdrop_of_ge _ _ (Nat.le_of_lt hjk)]
        · exact tget_tdrop_of_lt d _ hjk
      · simp only [tget, h, if_false]
        split
        · rename_i hjk; exact (low hjk).symm
        · exact tget_tdrop_of_lt d _ (by omega)

/-- A write keeps the keys rising. -/
theorem tsortedFrom_tset [DecidableEq α] (d : Nat → α) (t : Tbl α) (k : Nat) (v : α) {b : Nat} (hs : tsortedFrom b t = true)
    (hb : b ≤ k) : tsortedFrom b (tset d t k v) = true := by
  induction t generalizing b with
  | nil => simp only [tset]; split <;> simp [tsortedFrom, hb]
  | cons e t ih =>
    obtain ⟨i, u⟩ := e
    have hs' := hs
    simp only [tsortedFrom, Bool.and_eq_true, decide_eq_true_eq] at hs
    simp only [tset]
    split
    · simp only [tsortedFrom, Bool.and_eq_true, decide_eq_true_eq]
      exact ⟨hs.1, ih hs.2 (by omega)⟩
    · split
      · exact tsortedFrom_mono _ (by omega) (tsortedFrom_tdrop _ k hs')
      · simp only [tsortedFrom, Bool.and_eq_true, decide_eq_true_eq]
        exact ⟨hb, tsortedFrom_tdrop _ k hs'⟩

theorem tset_all [DecidableEq α] (d : Nat → α) (t : Tbl α) (k : Nat) (v : α)
    (h : (t.all fun e => decide (e.2 ≠ d e.1)) = true) : ((tset d t k v).all fun e => decide (e.2 ≠ d e.1)) = true := by
  induction t with
  | nil => simp only [tset]; split <;> simp_all
  | cons e t ih =>
    obtain ⟨i, u⟩ := e
    have h' := h
    simp only [List.all_cons, Bool.and_eq_true] at h
    simp only [tset]
    split
    · simp only [List.all_cons, Bool.and_eq_true]; exact ⟨h.1, ih h.2⟩
    · split
      · exact tdrop_all _ k _ h'
      · rename_i hv
        simp only [List.all_cons, Bool.and_eq_true, decide_eq_true_eq]
        exact ⟨hv, tdrop_all _ k _ h'⟩

/-- A write keeps the canonical form. -/
theorem twf_tset [DecidableEq α] (d : Nat → α) (t : Tbl α) (k : Nat) (v : α) (h : twf d t = true) :
    twf d (tset d t k v) = true := by
  simp only [twf, Bool.and_eq_true] at h ⊢
  exact ⟨tsortedFrom_tset d t k v h.1 (Nat.zero_le _), tset_all d t k v h.2⟩

/-! ### Addressed memory -/

theorem Memory.wf_writeByte (m : List Host.Cell) (a : Nat) (b : Byte) (h : Memory.wf m = true) :
    Memory.wf (Memory.writeByte m a b) = true := twf_tset _ m a b h

theorem Memory.wf_writeWord (m : List Host.Cell) (a : Nat) (w : Word) (h : Memory.wf m = true) :
    Memory.wf (Memory.writeWord m a w) = true :=
  wf_writeByte _ _ _ (wf_writeByte _ _ _ (wf_writeByte _ _ _ (wf_writeByte _ _ _ h)))

theorem Memory.wf_writeWords (m : List Host.Cell) (a : Nat) (l : List Word) (h : Memory.wf m = true) :
    Memory.wf (Memory.writeWords m a l) = true := by
  induction l generalizing m a with
  | nil => exact h
  | cons w l ih => exact ih _ _ (wf_writeWord m a w h)

theorem tsortedFrom_filter (t : Tbl α) (p : Nat × α → Bool) {b : Nat} (h : tsortedFrom b t = true) :
    tsortedFrom b (t.filter p) = true := by
  induction t generalizing b with
  | nil => rfl
  | cons e t ih =>
    simp only [tsortedFrom, Bool.and_eq_true, decide_eq_true_eq] at h
    simp only [List.filter_cons]
    split
    · simp only [tsortedFrom, Bool.and_eq_true, decide_eq_true_eq]; exact ⟨h.1, ih h.2⟩
    · exact tsortedFrom_mono _ (by omega) (ih h.2)

theorem Memory.wf_wipe (m : List Host.Cell) (lo hi : Nat) (h : Memory.wf m = true) : Memory.wf (Memory.wipe m lo hi) = true := by
  simp only [Memory.wf, twf, Memory.wipe, Bool.and_eq_true, List.all_eq_true] at h ⊢
  exact ⟨tsortedFrom_filter _ _ h.1, fun x hx => h.2 x (List.mem_of_mem_filter hx)⟩

/-- The memory of the reset state is canonical. -/
theorem State.reset_mem_wf : Memory.wf State.reset.mem = true := rfl

/-! ### Stored registers -/

/-- A register reads as it was last written. -/
@[simp] theorem State.reg_setReg_eq (s : State) (a : Nat) (v : Word) : (s.setReg a v).reg a = v := tget_tset_eq _ _ _ _

/-- A write leaves every other register alone. -/
theorem State.reg_setReg_ne (s : State) {a b : Nat} (v : Word) (h : b ≠ a) : (s.setReg a v).reg b = s.reg b :=
  tget_tset_ne _ _ _ h

end Sys2Proof.Machine
end

