-- ==== Sys2Proof/Laws/Regs.lean ====
section
/-!
SUPPORT. What the shared operations do to the stored registers: each names the registers it may write, and every other one
reads as before.
-/

namespace Sys2Proof.Machine

/-- Noting a happening, and time passing on the clocks, write no register. -/
@[simp] theorem State.reg_happen (s : State) (a n b : Nat) : (s.happen a n).reg b = s.reg b := rfl
@[simp] theorem State.reg_tally (s : State) (a b : Nat) : (s.tally a).reg b = s.reg b := rfl
@[simp] theorem State.reg_elapse (s : State) (dt a : Nat) : (s.elapse dt).reg a = s.reg a := rfl

theorem State.reg_count_eq (s : State) (a : Nat) : (s.count a).reg a = bumpWord (s.reg a) := by simp [State.count]

theorem State.reg_count_ne (s : State) {a b : Nat} (h : b ≠ a) : (s.count a).reg b = s.reg b := s.reg_setReg_ne _ h

/-- A record of a latest happening: at most the register itself is written. -/
theorem State.reg_latest_ne (s : State) {a b : Nat} (k : Nat) (v : Word) (h : b ≠ a) : (s.latest a k v).reg b = s.reg b := by
  unfold State.latest
  split
  · rfl
  · exact s.reg_setReg_ne v h

theorem State.reg_cause_eq (s : State) (page i : Nat) :
    (s.cause page i).reg (Reg.base page + 0x010) = s.reg (Reg.base page + 0x010) ||| w32 (2 ^ i) := by
  simp [State.cause, causeAt]

theorem State.reg_cause_ne (s : State) (page i : Nat) {b : Nat} (h : b ≠ Reg.base page + 0x010) :
    (s.cause page i).reg b = s.reg b := s.reg_setReg_ne _ h

/-- Fields other than `regs` do not enter a register read. -/
theorem State.reg_congr {s t : State} (h : s.regs = t.regs) (a : Nat) : s.reg a = t.reg a := by simp [State.reg, h]

theorem State.reg_enqueue_ne (s : State) (e : Event) {b : Nat} (h : b ≠ Reg.CHAIN_EVT_DROP_CNT) :
    (s.enqueue e).reg b = s.reg b := by
  unfold State.enqueue
  split
  · exact State.reg_congr rfl b
  · exact (State.reg_congr rfl b).trans (s.reg_count_ne h)

theorem State.reg_eventAt_ne (s : State) (page code src seq epoch : Nat) (l : List Word) {b : Nat}
    (h1 : b ≠ Reg.base page + 0x020) (h2 : b ≠ Reg.CHAIN_EVT_DROP_CNT) :
    (s.eventAt page code src seq epoch l).reg b = s.reg b := by
  unfold State.eventAt State.eventOf
  split
  · rw [State.reg_enqueue_ne _ _ h2, State.reg_setReg_ne _ _ h1]
  · rfl

theorem State.reg_event_ne (s : State) (page code : Nat) (l : List Word) {b : Nat}
    (h1 : b ≠ Reg.base page + 0x020) (h2 : b ≠ Reg.CHAIN_EVT_DROP_CNT) : (s.event page code l).reg b = s.reg b :=
  s.reg_eventAt_ne page code _ _ _ l h1 h2

theorem State.reg_transmit_ne (s : State) (p : Port) (op : BitVec 4) (m : BitVec 48) (f : LinkFrame) {b : Nat}
    (h : b ≠ Reg.EHR_RESP_DROP_CNT p) : (s.transmit p op m f).reg b = s.reg b := by
  unfold State.transmit
  split
  · exact State.reg_congr (by simp) b
  · exact s.reg_count_ne h

theorem State.reg_respond_ne (s : State) (p : Port) (q : BitVec 16) (t : BitVec 12) (m : BitVec 48) (a : Word) (c : Nat)
    (l : List Word) {b : Nat} (h : b ≠ Reg.EHR_RESP_DROP_CNT p) : (s.respond p q t m a c l).reg b = s.reg b :=
  s.reg_transmit_ne p _ _ _ h

theorem State.reg_retire (s : State) (p : Port) (t : BitVec 12) (b : Nat) : (s.retire p t).reg b = s.reg b :=
  State.reg_congr (by simp) b

theorem State.reg_answer_ne (s : State) (o : Order) (c : Nat) (w : Word) {b : Nat} (h : b ≠ Reg.EHR_RESP_DROP_CNT o.port) :
    (s.answer o c w).reg b = s.reg b := by
  unfold State.answer
  split
  · rfl
  · split
    · rw [State.reg_respond_ne _ _ _ _ _ _ _ _ h, State.reg_retire]
    · exact State.reg_retire _ _ _ _

/-- Completing a command writes CMD_STATUS, may count an error of the page, and may count a response that found its port
down; every other register reads as before. -/
theorem State.reg_completeX_ne (s : State) (page op c x : Nat) (o : Order) {b : Nat} (h1 : b ≠ cmdStatus page)
    (h2 : b ≠ Reg.base page + 0x01C) (h3 : b ≠ Reg.EHR_RESP_DROP_CNT o.port) :
    (s.completeX page op c x (some o)).reg b = s.reg b := by
  unfold State.completeX
  simp only
  rw [State.reg_answer_ne _ _ _ _ h3]
  split
  · rw [State.reg_count_ne _ h2, State.reg_setReg_ne _ _ h1]
  · rw [State.reg_setReg_ne _ _ h1]

theorem State.reg_complete_ne (s : State) (page op c : Nat) (o : Order) {b : Nat} (h1 : b ≠ cmdStatus page)
    (h2 : b ≠ Reg.base page + 0x01C) (h3 : b ≠ Reg.EHR_RESP_DROP_CNT o.port) : (s.complete page op c o).reg b = s.reg b :=
  s.reg_completeX_ne page op c 0 o h1 h2 h3

/-- Completing a command leaves its opcode and code in CMD_STATUS (R320). -/
theorem State.reg_completeX_status (s : State) (page op c x : Nat) (o : Order) (h2 : cmdStatus page ≠ Reg.base page + 0x01C)
    (h3 : cmdStatus page ≠ Reg.EHR_RESP_DROP_CNT o.port) :
    (s.completeX page op c x (some o)).reg (cmdStatus page) = w32 (op * 2 ^ 24 + x + c) := by
  unfold State.completeX
  simp only
  rw [State.reg_answer_ne _ _ _ _ h3]
  split
  · rw [State.reg_count_ne _ h2, State.reg_setReg_eq]
  · rw [State.reg_setReg_eq]

theorem State.reg_complete_status (s : State) (page op c : Nat) (o : Order) (h2 : cmdStatus page ≠ Reg.base page + 0x01C)
    (h3 : cmdStatus page ≠ Reg.EHR_RESP_DROP_CNT o.port) :
    (s.complete page op c o).reg (cmdStatus page) = w32 (op * 2 ^ 24 + c) := by
  have h := s.reg_completeX_status page op c 0 o h2 h3
  rw [Nat.add_zero] at h
  exact h

end Sys2Proof.Machine
end

