-- ==== Sys2Proof/Laws/Keep.lean ====
section
/-!
SUPPORT. What the element level leaves alone: kicks, parking, blanking, settling and the transition sequencer touch only
elements, loops, the drive and sequencer records, converter pairs, registers and the event queue.
-/

namespace Sys2Proof.Machine

/-- The state without what the element level may touch. -/
def State.outer (s : State) : State :=
  { s with regs := [], stamps := [], elems := [], lps := [], trans := State.reset.trans, drv := State.reset.drv, pairs := []
           chain := State.reset.chain }

/-- Equal outside the element level: equal in every field that lies outside. -/
theorem State.of_outer {s t : State} (h : s.outer = t.outer) :
    s.mem = t.mem ∧ s.fuse = t.fuse ∧ s.clock = t.clock ∧ s.cells = t.cells ∧ s.bell = t.bell ∧ s.epoch = t.epoch
      ∧ s.pla = t.pla ∧ s.plb = t.plb ∧ s.token = t.token ∧ s.safe = t.safe ∧ s.therm = t.therm ∧ s.dev = t.dev
      ∧ s.e0 = t.e0 ∧ s.e1 = t.e1 ∧ s.sent = t.sent := by
  refine ⟨?_, ?_, ?_, ?_, ?_, ?_, ?_, ?_, ?_, ?_, ?_, ?_, ?_, ?_, ?_⟩
  · have k := congrArg State.mem h; exact k
  · have k := congrArg State.fuse h; exact k
  · have k := congrArg State.clock h; exact k
  · have k := congrArg State.cells h; exact k
  · have k := congrArg State.bell h; exact k
  · have k := congrArg State.epoch h; exact k
  · have k := congrArg State.pla h; exact k
  · have k := congrArg State.plb h; exact k
  · have k := congrArg State.token h; exact k
  · have k := congrArg State.safe h; exact k
  · have k := congrArg State.therm h; exact k
  · have k := congrArg State.dev h; exact k
  · have k := congrArg State.e0 h; exact k
  · have k := congrArg State.e1 h; exact k
  · have k := congrArg State.sent h; exact k

variable (s : State)

@[simp] theorem State.setReg_outer (a : Nat) (v : Word) : (s.setReg a v).outer = s.outer := rfl
@[simp] theorem State.updPair_outer (pl : Plane) (t : Nat) (f : Pair → Pair) : (s.updPair pl t f).outer = s.outer := rfl
@[simp] theorem State.updElem_outer (e : Nat) (f : Elem → Elem) : (s.updElem e f).outer = s.outer := rfl
@[simp] theorem State.updLp_outer (pl : Plane) (e : Nat) (f : Lp → Lp) : (s.updLp pl e f).outer = s.outer := rfl
@[simp] theorem State.updLps_outer (e : Nat) (f : Lp → Lp) : (s.updLps e f).outer = s.outer := rfl
@[simp] theorem State.updTrans_outer (f : Trans → Trans) : (s.updTrans f).outer = s.outer := rfl
@[simp] theorem State.updDrv_outer (f : Drive → Drive) : (s.updDrv f).outer = s.outer := rfl
@[simp] theorem State.happen_outer (a n : Nat) : (s.happen a n).outer = s.outer := rfl
@[simp] theorem State.latest_outer (a k : Nat) (v : Word) : (s.latest a k v).outer = s.outer := by
  unfold State.latest; split <;> rfl
@[simp] theorem State.count_outer (a : Nat) : (s.count a).outer = s.outer := rfl
@[simp] theorem State.cause_outer (page i : Nat) : (s.cause page i).outer = s.outer := rfl
@[simp] theorem State.enqueue_outer (e : Event) : (s.enqueue e).outer = s.outer := by
  unfold State.enqueue; split <;> rfl
@[simp] theorem State.eventAt_outer (page code src seq epoch : Nat) (l : List Word) :
    (s.eventAt page code src seq epoch l).outer = s.outer := by
  unfold State.eventAt State.eventOf; split <;> simp
@[simp] theorem State.event_outer (page code : Nat) (l : List Word) : (s.event page code l).outer = s.outer := by
  simp [State.event]
@[simp] theorem State.outputEvent_outer (code q : Nat) : (s.outputEvent code q).outer = s.outer := by
  simp [State.outputEvent]
@[simp] theorem State.sheepEvent_outer (code : Nat) (l : List Word) : (s.sheepEvent code l).outer = s.outer := by
  simp [State.sheepEvent]

/-- What every step of a fold keeps, the fold keeps. -/
theorem foldl_outer {α : Type} (f : State → α → State) (h : ∀ s x, (f s x).outer = s.outer) (l : List α) (s : State) :
    (l.foldl f s).outer = s.outer := by
  induction l generalizing s with
  | nil => rfl
  | cons x t ih => rw [List.foldl_cons, ih, h]

theorem State.each_outer (l : List Nat) (f : State → Nat → State) (h : ∀ s x, (f s x).outer = s.outer) :
    (s.each l f).outer = s.outer := foldl_outer f h l s

@[simp] theorem State.markRecorded_outer (pl : Plane) (l : List HoldRec) : (s.markRecorded pl l).outer = s.outer := by
  unfold State.markRecorded
  induction l generalizing s with
  | nil => rfl
  | cons x t ih => rw [List.foldl_cons, ih, State.updLp_outer]
@[simp] theorem State.setCode_outer (e c : Nat) : (s.setCode e c).outer = s.outer := rfl
@[simp] theorem State.fresh_outer (e : Nat) : (s.fresh e).outer = s.outer := by
  simp [State.fresh, State.freshOn]
@[simp] theorem State.setSt_outer (e : Nat) (st : ElSt) : (s.setSt e st).outer = s.outer := by
  unfold State.setSt; simp only; split <;> simp
@[simp] theorem State.enterHold_outer (e c : Nat) (d : HoldDrive) : (s.enterHold e c d).outer = s.outer := by
  simp [State.enterHold]
@[simp] theorem State.enterRamp_outer (e : Nat) : (s.enterRamp e).outer = s.outer := by simp [State.enterRamp]
@[simp] theorem State.blank_outer (e : Nat) : (s.blank e).outer = s.outer := by
  unfold State.blank; split <;> simp
@[simp] theorem State.unblank_outer (e : Nat) : (s.unblank e).outer = s.outer := by
  unfold State.unblank; split <;> simp
@[simp] theorem State.park_outer (e : Nat) : (s.park e).outer = s.outer := by unfold State.park; split <;> simp
@[simp] theorem State.beginRounds_outer (pl : Plane) (t : Nat) : (s.beginRounds pl t).outer = s.outer := by
  unfold State.beginRounds; split <;> rfl
@[simp] theorem State.beginIdle_outer (pl : Plane) (t : Nat) : (s.beginIdle pl t).outer = s.outer := by
  unfold State.beginIdle; simp only; split <;> simp
@[simp] theorem State.holdTile_outer (t : Nat) : (s.holdTile t).outer = s.outer := by
  have held : ∀ (x : State) (l : List Nat), State.outer { x with trans := { x.trans with held := l } } = x.outer := fun _ _ => rfl
  unfold State.holdTile
  simp only [State.beginIdle_outer, held]
  split <;> simp
@[simp] theorem State.handOver_outer (e : Nat) : (s.handOver e).outer = s.outer := by simp [State.handOver]
@[simp] theorem State.stepElem_outer (e : Nat) : (s.stepElem e).outer = s.outer := by
  unfold State.stepElem; split <;> simp
@[simp] theorem State.kickElem_outer (e : Nat) : (s.kickElem e).outer = s.outer := by
  unfold State.kickElem; simp only; split
  · simp
  · split <;> simp

@[simp] theorem State.nextWaves_outer (w : List (List Nat)) : (s.nextWaves w).outer = s.outer := by
  induction w generalizing s with
  | nil => rfl
  | cons x t ih =>
    unfold State.nextWaves
    split
    · rfl
    · rw [ih]; exact State.each_outer _ _ _ fun s x => s.kickElem_outer x

@[simp] theorem State.parkCells_outer : s.parkCells.outer = s.outer :=
  State.each_outer _ _ _ fun s _ => foldl_outer _ (fun s e => by split <;> simp) _ s

@[simp] theorem State.foldOffsets_outer : s.foldOffsets.outer = s.outer := by
  unfold State.foldOffsets
  simp only [State.updTrans_outer]
  exact foldl_outer _ (fun s x => by simp) _ _

@[simp] theorem State.endTransition_outer : s.endTransition.outer = s.outer := by
  unfold State.endTransition; simp only; split <;> simp

@[simp] theorem State.checkEnd_outer : s.checkEnd.outer = s.outer := by
  unfold State.checkEnd; simp only; repeat' split
  all_goals simp

@[simp] theorem State.unblankCircuit_outer (q : Nat) : (s.unblankCircuit q).outer = s.outer := by
  unfold State.unblankCircuit; split <;> simp

@[simp] theorem State.lateUnblank_outer (q : Nat) : (s.lateUnblank q).outer = s.outer := by simp [State.lateUnblank]

@[simp] theorem State.checkSettled_outer : s.checkSettled.outer = s.outer := by
  unfold State.checkSettled
  split
  · rfl
  · simp only [State.checkEnd_outer]
    rw [State.each_outer _ _ _ fun s q => by simp, State.each_outer _ _ _ fun s q => by split <;> simp]

@[simp] theorem State.waveStart_outer : s.waveStart.outer = s.outer := by
  simp [State.waveStart]

/-- A transition that begins changes outside the element level only cell records: WARM comes into force where cells park. -/
theorem State.startTransition_outer (m : CMap) :
    (s.startTransition m).outer = State.outer { s with cells := (s.startTransition m).cells } := by
  have key : ∀ (l : List Nat) (f : CellRec → CellRec) (x : State),
      (x.each l fun s c => s.updCell c f).outer
        = State.outer { x with cells := (x.each l fun s c => s.updCell c f).cells } := by
    intro l f
    induction l with
    | nil => intro x; rfl
    | cons c t ih => intro x; exact ih (x.updCell c f)
  have mid : ∀ x : State, x.outer = s.outer → ∀ l f,
      (x.each l fun s c => s.updCell c f).outer
        = State.outer { s with cells := (x.each l fun s c => s.updCell c f).cells } := by
    intro x hx l f
    rw [key]
    have := congrArg (fun y : State => { y with cells := (x.each l fun s c => s.updCell c f).cells }) hx
    exact this
  have cells : ∀ x : State, x.checkSettled.cells = x.cells := fun x => (State.of_outer x.checkSettled_outer).2.2.2.1
  unfold State.startTransition
  simp only [State.checkSettled_outer, cells]
  refine mid _ ?_ _ _
  rw [foldl_outer _ (fun s e => by simp), State.each_outer _ _ _ fun s e => by simp,
    State.each_outer _ _ _ fun s e => by simp]
  rfl

@[simp] theorem State.transSafe_outer : s.transSafe.outer = s.outer := by
  have hold : ∀ (s : State) (e : Nat) (P : Prop) [Decidable P],
      (if s.scFault e then s
        else (if P then s.setCode e (s.targetCode e (s.actCell (e / 2))) else s).enterHold e 3 .loop).outer = s.outer := by
    intro s e P _; split
    · rfl
    · split <;> simp
  have park : ∀ (s : State) (P : Prop) [Decidable P], (if P then s.parkCells else s).outer = s.outer := by
    intro s P _; split <;> simp
  unfold State.transSafe
  simp only [State.checkEnd_outer, State.nextWaves_outer, State.updTrans_outer]
  rw [State.each_outer _ _ _ fun s q => by
    split
    · rfl
    · exact foldl_outer _ (fun s e => by simp) _ _]
  split
  · simp only [State.sheepEvent_outer, State.cause_outer, State.count_outer, State.updTrans_outer]
    rw [State.each_outer _ _ _ fun s e => (hold _ _ True).trans (hold s e True),
      State.each_outer _ _ _ fun s e => hold s e True, park]
  · rfl

@[simp] theorem State.safeFreeze_outer : s.safeFreeze.outer = s.outer := by
  unfold State.safeFreeze
  simp only
  rw [foldl_outer _ (fun s c => by simp)]
  simp only [State.updDrv_outer]
  rw [State.each_outer _ _ _ fun s c => foldl_outer _ (fun s e => by
    split
    · split <;> simp
    · rfl) _ _]
  simp

end Sys2Proof.Machine
end

