-- ==== Sys2Proof/Laws/Pass.lean ====
section
/-!
SUPPORT. What the passing of time leaves alone. What falls due with it is the element level's (wave 1, fresh windows), the
sweep's, the supervisory plane's (what frames do), the link's and the matrix's own counts, and the fuse shadow's checks;
everything else a command finds as the one before it left it.
-/

namespace Sys2Proof.Machine

/-- The state without what the passing of time may touch beside the clocks. -/
def State.flow (s : State) : State :=
  { s.outer with obj := State.reset.obj, waits := [], osc := State.reset.osc, sched := State.reset.sched, fuseUpset := []
                 bist := { s.bist with uncorrRun := false }
                 e0 := { s.e0 with fecCorr := 0 }, e1 := { s.e1 with fecCorr := 0 } }

/-- The state without what the passing of time may touch. -/
def State.still (s : State) : State := { s.flow with clock := State.reset.clock }

theorem State.flow_of_outer {s t : State} (h : s.outer = t.outer) : s.flow = t.flow := by
  have h0 := (State.of_outer h).2.2.2.2.2.2.2.2.2.2.2.2.1
  have h1 := (State.of_outer h).2.2.2.2.2.2.2.2.2.2.2.2.2.1
  have hb : s.bist = t.bist := (congrArg (fun x : State => x.bist) h :)
  unfold State.flow; rw [h, h0, h1, hb]

theorem State.still_of_flow {s t : State} (h : s.flow = t.flow) : s.still = t.still := by unfold State.still; rw [h]
theorem State.clock_of_flow {s t : State} (h : s.flow = t.flow) : s.clock = t.clock :=
  (congrArg (fun x : State => x.clock) h :)

theorem foldl_flow {α : Type} (f : State → α → State) (h : ∀ s x, (f s x).flow = s.flow) (l : List α) (s : State) :
    (l.foldl f s).flow = s.flow := by
  induction l generalizing s with
  | nil => rfl
  | cons x t ih => rw [List.foldl_cons, ih, h]

variable (s : State)

@[simp] theorem State.elapse_still (dt : Nat) : (s.elapse dt).still = s.still := rfl
@[simp] theorem State.elapse_elapsed (dt : Nat) : (s.elapse dt).elapsed = s.elapsed + dt := rfl

theorem State.elapse_zero : s.elapse 0 = s := by
  have h : (((s.clock.fine + 0 * fineUnit : Nat) : Int) + (0 : Nat) * s.clock.rate).toNat = s.clock.fine := by simp
  simp only [State.elapse, h, Nat.add_zero]

@[simp] theorem State.setReg_flow (a : Nat) (v : Word) : (s.setReg a v).flow = s.flow := rfl
@[simp] theorem State.tally_flow (a : Nat) : (s.tally a).flow = s.flow := rfl
@[simp] theorem State.count_flow (a : Nat) : (s.count a).flow = s.flow := rfl
@[simp] theorem State.cause_flow (p i : Nat) : (s.cause p i).flow = s.flow := rfl
@[simp] theorem State.latest_flow (a k : Nat) (v : Word) : (s.latest a k v).flow = s.flow := State.flow_of_outer (s.latest_outer a k v)
@[simp] theorem State.countN_flow (a n : Nat) : (s.countN a n).flow = s.flow := by
  unfold State.countN; simp only; split <;> rfl
@[simp] theorem State.event_flow (p c : Nat) (l : List Word) : (s.event p c l).flow = s.flow :=
  State.flow_of_outer (s.event_outer p c l)
@[simp] theorem State.causeOnce_flow (p i c : Nat) (l : List Word) : (s.causeOnce p i c l).flow = s.flow := by
  unfold State.causeOnce State.withhold
  split
  · split <;> rfl
  · simp
@[simp] theorem State.updObj_flow (f : ObjSt → ObjSt) : (s.updObj f).flow = s.flow := rfl
@[simp] theorem State.updOsc_flow (f : OscSt → OscSt) : (s.updOsc f).flow = s.flow := rfl
@[simp] theorem State.updSched_flow (f : SchedSt → SchedSt) : (s.updSched f).flow = s.flow := rfl
@[simp] theorem State.updEgress_flow (i : Nat) (f : Egress → Egress) : (s.updEgress i f).flow = s.flow := rfl
@[simp] theorem State.setBucket_flow (k : Nat) (b : Bucket) : (s.setBucket k b).flow = s.flow := rfl
@[simp] theorem State.setObj_flow (n : Nat) (e : Option ObjEntry) : (s.setObj n e).flow = s.flow := rfl
@[simp] theorem State.setPair_flow (n : Nat) (e : Option PairEntry) : (s.setPair n e).flow = s.flow := rfl
@[simp] theorem State.laneBump_flow (i a : Nat) : (s.laneBump i a).flow = s.flow := rfl
@[simp] theorem State.received_flow (i n : Nat) : (s.received i n).flow = s.flow := rfl

/-! ### Object frames -/

@[simp] theorem State.laneCount_flow (i k : Nat) : (s.laneCount i k).flow = s.flow := rfl
@[simp] theorem State.lastLearn_flow (r : Nat) (b : Bool) (i x : Nat) : (s.lastLearn r b i x).flow = s.flow := by
  simp [State.lastLearn]
@[simp] theorem State.learnCause_flow (i e c : Nat) (l : List Word) : (s.learnCause i e c l).flow = s.flow := by
  unfold State.learnCause; split <;> simp
@[simp] theorem State.learnNoRoom_flow (x i : Nat) (b : Bool) : (s.learnNoRoom x i b).flow = s.flow := by
  simp [State.learnNoRoom]
@[simp] theorem State.learnConflict_flow (x i : Nat) (e : ObjEntry) : (s.learnConflict x i e).flow = s.flow := by
  simp [State.learnConflict]
@[simp] theorem State.learnHit_flow (x : Nat) (e : ObjEntry) : (s.learnHit x e).flow = s.flow := rfl
@[simp] theorem State.relocate_flow (l : List Nat) : (s.relocate l).flow = s.flow := by
  fun_induction State.relocate s l with
  | case1 s f p t s' ih =>
    rw [ih]
    simp only [s']
    split
    · split <;> simp
    · rfl
  | case2 => rfl
@[simp] theorem State.pairRoom_flow (x : Nat) : (s.pairRoom x).1.flow = s.flow := by
  unfold State.pairRoom
  simp only
  split
  · simp
  · simp only [State.setReg_flow]
    split <;> simp
@[simp] theorem State.learn_flow (x c i : Nat) : (s.learn x c i).1.flow = s.flow := by
  unfold State.learn
  simp only
  split
  · split <;> simp
  · split
    · simp
    · split
      · split
        · have h := s.pairRoom_flow x
          split
          · next t heq => rw [heq] at h; simpa using h
          · next t k heq => rw [heq] at h; simpa using h
        · simp
      · split
        · simp
        · split <;> simp
@[simp] theorem State.offer_flow (i : Nat) (f : List Byte) : (s.offer i f).1.flow = s.flow := by
  unfold State.offer; split <;> simp
@[simp] theorem State.police_flow (i c n : Nat) : (s.police i c n).1.flow = s.flow := by
  unfold State.police
  simp only
  repeat' split
  all_goals simp
@[simp] theorem State.hostPush_flow (i : Nat) (b : Bool) (f : List Byte) : (s.hostPush i b f).flow = s.flow := by
  unfold State.hostPush State.hostDrop; split <;> simp
@[simp] theorem State.sendCopy_flow (i : Nat) (f : QFrame) : (s.sendCopy i f).flow = s.flow := by
  unfold State.sendCopy; split <;> simp
@[simp] theorem State.toHost_flow (i : Nat) (f : List Byte) : (s.toHost i f).flow = s.flow := by
  unfold State.toHost; split <;> simp
@[simp] theorem State.tagError_flow (i : Nat) : (s.tagError i).flow = s.flow := by simp [State.tagError]
@[simp] theorem State.egressOf_flow (i : Nat) (f : List Byte) (b : Bool) : (s.egressOf i f b).1.flow = s.flow := by
  unfold State.egressOf
  simp only
  repeat' split
  all_goals simp
@[simp] theorem State.sendTo_flow (i : Nat) (f : List Byte) (q : QFrame) (l : List Nat) : (s.sendTo i f q l).flow = s.flow := by
  unfold State.sendTo
  exact foldl_flow _ (fun s n => by split <;> simp) _ _

/-- An object frame changes only the tables, queues and counts of the supervisory plane. -/
@[simp] theorem State.objectFrame_flow (i : Nat) (f : List Byte) : (s.objectFrame i f).flow = s.flow := by
  unfold State.objectFrame
  simp only
  repeat' split
  all_goals simp

/-- With no frame that has yet to act there is nothing to settle. -/
theorem State.settleArrived_eq (h : s.osc.arrived = []) : s.settleArrived = s := by
  unfold State.settleArrived State.updOsc
  simp only [h, List.filter_nil, List.foldl_nil]
  rw [← h]

theorem State.stamped_flow (t : Nat) (f : State → State) (h : ∀ x : State, (f x).flow = x.flow) :
    (s.stamped t f).flow = s.flow := by
  have k := h { s with clock := { s.clock with fine := t * fineUnit } }
  exact (congrArg (fun x : State => { x with clock := s.clock }) k :)

@[simp] theorem State.settleFrame_flow (i : Nat) (f : List Byte) : (s.settleFrame i f).flow = s.flow := by
  unfold State.settleFrame
  split
  · simp
  · split <;> simp

@[simp] theorem State.settleArrived_flow : s.settleArrived.flow = s.flow := by
  unfold State.settleArrived
  exact (foldl_flow _ (fun s x => s.stamped_flow _ _ fun y => y.settleFrame_flow _ _) _ _).trans rfl

@[simp] theorem State.arrive_flow (i : Nat) (f : List Byte) : (s.arrive i f).flow = s.flow := rfl

/-- A frame that is no business of the time block changes only tables, queues and counts of the supervisory plane. -/
@[simp] theorem State.takeFrame_flow (i : Nat) (f : List Byte) : (s.takeFrame i f id).flow = s.flow := by
  unfold State.takeFrame
  simp only
  repeat' split
  all_goals simp
@[simp] theorem State.loopsDue_flow : s.loopsDue.flow = s.flow := by
  unfold State.loopsDue
  exact (foldl_flow _ (fun s x => by split <;> simp) _ _).trans rfl

/-! ### Instants on the way -/

@[simp] theorem State.freshDue_outer : s.freshDue.outer = s.outer := by
  unfold State.freshDue
  simp only [State.updDrv_outer]
  exact foldl_outer _ (fun s x => State.each_outer _ _ _ fun s e => s.fresh_outer e) _ _

@[simp] theorem State.noteHolds_outer (old : State) : (State.noteHolds old s).outer = s.outer := by
  unfold State.noteHolds
  split
  · split
    · rfl
    · simp only; split <;> simp
  · rfl

@[simp] theorem State.waveDue_outer : s.waveDue.outer = s.outer := by
  unfold State.waveDue
  split
  · rfl
  · split <;> simp

@[simp] theorem State.freshDue_flow : s.freshDue.flow = s.flow := State.flow_of_outer s.freshDue_outer
@[simp] theorem State.waveDue_flow : s.waveDue.flow = s.flow := State.flow_of_outer s.waveDue_outer

/-! ### The sweep -/

theorem State.back_flow (t : Nat) (f : State → State) (h : ∀ x : State, (f x).flow = x.flow) :
    (s.back t f).flow = s.flow := s.stamped_flow _ f h

@[simp] theorem State.removeObj_flow (n : Nat) : (s.removeObj n).flow = s.flow := by
  unfold State.removeObj; simp only; split <;> rfl
@[simp] theorem State.visit_flow (n : Nat) : (s.visit n).flow = s.flow := by
  unfold State.visit
  repeat' split
  all_goals simp
@[simp] theorem State.makeVisit_flow (w : Sweep) (n : Nat) : (s.makeVisit w n).flow = s.flow := by
  unfold State.makeVisit; simp only; split <;> simp
@[simp] theorem State.sweepEnd_flow (w : Sweep) : (s.sweepEnd w).flow = s.flow := by
  unfold State.sweepEnd
  simp only
  split <;> simp

@[simp] theorem State.sweepPass_flow : s.sweepPass.flow = s.flow := by
  have due : ∀ (d : Nat) (x : State), (x.sweepDue d fun t f s => s.back t f).flow = x.flow := by
    intro d x
    unfold State.sweepDue
    split
    · rfl
    · simp only [State.updObj_flow]
      exact foldl_flow _ (fun s n => s.back_flow _ _ fun y => y.makeVisit_flow _ _) _ _
  have all : ∀ (d : Nat) (n : Nat) (x : State), (x.sweepAll d (fun t f s => s.back t f) n).flow = x.flow := by
    intro d n
    induction n with
    | zero => intro x; exact due d x
    | succ n ih =>
      intro x
      unfold State.sweepAll
      split
      · rfl
      · simp only
        split
        · rw [ih, State.back_flow _ _ _ fun y => y.sweepEnd_flow _, due]
        · exact due d x
  exact all _ _ _

/-! ### Running to an instant -/

@[simp] theorem State.goTo_still (e : Nat) : (s.goTo e).still = s.still := by
  unfold State.goTo
  split
  · rfl
  · rw [State.still_of_flow (State.sweepPass_flow _), State.elapse_still, State.still_of_flow s.settleArrived_flow]

theorem State.goTo_elapsed (e : Nat) (h : s.elapsed ≤ e) : (s.goTo e).elapsed = e := by
  unfold State.goTo
  split
  · next k => exact Nat.le_antisymm h k
  · have c := State.clock_of_flow (State.sweepPass_flow (s.settleArrived.elapse (e - s.elapsed)))
    have d := State.clock_of_flow s.settleArrived_flow
    show (s.settleArrived.elapse (e - s.elapsed)).sweepPass.clock.elapsed = e
    rw [c]
    show s.settleArrived.clock.elapsed + (e - s.elapsed) = e
    rw [d]
    show s.elapsed + (e - s.elapsed) = e
    omega

@[simp] theorem State.runTo_still (e n : Nat) : (s.runTo e n).still = s.still := by
  induction n generalizing s with
  | zero => exact s.goTo_still e
  | succ n ih =>
    unfold State.runTo
    split
    · exact s.goTo_still e
    · next t _ =>
      split
      · exact s.goTo_still e
      · rw [ih]
        exact (State.still_of_flow (by simp)).trans (s.goTo_still t)

/-- Running to an instant ends at that instant. -/
theorem State.runTo_elapsed (e n : Nat) (h : s.elapsed ≤ e) : (s.runTo e n).elapsed = e := by
  induction n generalizing s with
  | zero => exact s.goTo_elapsed e h
  | succ n ih =>
    unfold State.runTo
    split
    · exact s.goTo_elapsed e h
    · next t _ =>
      split
      · exact s.goTo_elapsed e h
      · next k =>
        refine ih _ ?_
        have c : (s.goTo t).freshDue.waveDue.loopsDue.clock = (s.goTo t).clock := State.clock_of_flow (by simp)
        show (s.goTo t).freshDue.waveDue.loopsDue.clock.elapsed ≤ e
        rw [c]
        show (s.goTo t).elapsed ≤ e
        by_cases h' : s.elapsed ≤ t
        · rw [s.goTo_elapsed t h']; omega
        · have : s.goTo t = s := by unfold State.goTo; rw [if_pos (by omega)]
          rw [this]; exact h

/-! ### What time leaves open -/

@[simp] theorem State.fecCorrects_flow (p : Port) : (s.fecCorrects p).flow = s.flow := by
  unfold State.fecCorrects; simp only; split
  · cases p <;> rfl
  · rfl
@[simp] theorem State.fuseRead_flow (w : Nat) : (s.fuseRead w).flow = s.flow := by
  unfold State.fuseRead State.lastEcc
  split
  · rfl
  · simp only [State.event_flow, State.cause_flow, State.latest_flow, State.count_flow]; rfl
  · simp only [State.event_flow, State.cause_flow, State.latest_flow, State.count_flow]; rfl
@[simp] theorem State.deviceReads_flow : s.deviceReads.flow = s.flow := by
  unfold State.deviceReads
  split
  · rfl
  · exact foldl_flow _ (fun s u => s.fuseRead_flow _) _ _

@[simp] theorem State.meanwhile_flow : s.meanwhile.flow = s.flow := by
  unfold State.meanwhile
  rw [State.deviceReads_flow, State.fecCorrects_flow, State.fecCorrects_flow]
  split <;> rfl

@[simp] theorem State.fuseRead_osc (w : Nat) : (s.fuseRead w).osc = s.osc := by
  unfold State.fuseRead State.lastEcc
  have k : ∀ (x : State) (b : Bool) (v i c : Nat) (a : Nat) (l : List Word) (r : Nat) (u : Word),
      ((((x.count a).latest r v u).cause 8 i).event 8 c l).osc = x.osc := fun x b v i c a l r u =>
    (congrArg (fun y : State => y.osc) ((State.event_outer _ _ _ _).trans ((State.cause_outer _ _ _).trans
      ((State.latest_outer _ _ _ _).trans (State.count_outer _ _)))) :)
  split
  · rfl
  · rw [k _ true]
  · rw [k _ true]
@[simp] theorem State.deviceReads_osc : s.deviceReads.osc = s.osc := by
  have reads : ∀ (l : List (Nat × Bool)) (y : State), (l.foldl (fun s u => s.fuseRead u.1) y).osc = y.osc := by
    intro l
    induction l with
    | nil => intro y; rfl
    | cons u t ih => intro y; rw [List.foldl_cons, ih, State.fuseRead_osc]
  unfold State.deviceReads
  split
  · rfl
  · exact reads _ _
@[simp] theorem State.fecCorrects_osc (p : Port) : (s.fecCorrects p).osc = s.osc := by
  unfold State.fecCorrects; simp only; split
  · cases p <;> rfl
  · rfl
@[simp] theorem State.meanwhile_osc : s.meanwhile.osc = s.osc := by
  unfold State.meanwhile
  rw [State.deviceReads_osc, State.fecCorrects_osc, State.fecCorrects_osc]
  split <;> rfl

/-! ### Time passes -/

/-- The passing of time touches only what `still` leaves out. -/
@[simp] theorem State.advance_still (dt : Nat) : (s.advance dt).still = s.still := by
  unfold State.advance
  split
  · rfl
  · split
    · exact (State.still_of_flow (State.meanwhile_flow _)).trans (s.elapse_still dt)
    · exact (State.still_of_flow (State.meanwhile_flow _)).trans (s.runTo_still _ _)

theorem State.advance_zero : s.advance 0 = s := by simp [State.advance]

/-- The elapsed-time counter gains what passes. -/
@[simp] theorem State.advance_elapsed (dt : Nat) : (s.advance dt).elapsed = s.elapsed + dt := by
  have mean : ∀ x : State, x.meanwhile.elapsed = x.elapsed :=
    fun x => congrArg Clock.elapsed (State.clock_of_flow x.meanwhile_flow)
  unfold State.advance
  split
  · next h => rw [h]; rfl
  · split
    · rw [mean]; rfl
    · rw [mean]; exact s.runTo_elapsed _ _ (Nat.le_add_right _ _)

/-- In a reset only the clocks run, and codewords are corrected. -/
theorem State.advance_reset (dt : Nat) (h : s.dev.inReset.isSome) :
    s.advance dt = if dt = 0 then s else (s.elapse dt).meanwhile := by
  unfold State.advance
  simp only [h, if_true]

/-- With nothing due, a command finds the state with its clocks advanced, and what time leaves open. -/
theorem State.advance_idle (dt : Nat) (hw : s.trans.waveAt = none) (hf : s.drv.freshAt = []) (hs : s.obj.sweep = none)
    (ha : s.osc.arrived = []) (hl : s.osc.loops = []) :
    s.advance dt = if dt = 0 then s else (s.elapse dt).meanwhile := by
  have hd : s.dues = [] := by simp [State.dues, hw, hf, hl, ha]
  have sweep : ∀ x : State, x.obj.sweep = none → x.sweepPass = x := by
    intro x hx
    simp [State.sweepPass, State.sweepsLeft, State.sweepAll, State.sweepDue, hx]
  unfold State.advance
  split
  · rfl
  · next h =>
    split
    · rfl
    · have run : s.runTo (s.elapsed + dt) s.dues.length = s.elapse dt := by
        rw [hd]
        show s.goTo (s.elapsed + dt) = s.elapse dt
        unfold State.goTo
        rw [if_neg (by omega), Nat.add_sub_cancel_left, s.settleArrived_eq ha, sweep (s.elapse dt) hs]
      rw [run]

theorem State.advance_field {α : Type} (f : State → α) (h : ∀ x y : State, x.still = y.still → f x = f y) (dt : Nat) :
    f (s.advance dt) = f s := h _ _ (s.advance_still dt)

@[simp] theorem State.advance_mem (dt : Nat) : (s.advance dt).mem = s.mem :=
  s.advance_field _ (fun _ _ h => (congrArg State.mem h :)) dt
@[simp] theorem State.advance_fuse (dt : Nat) : (s.advance dt).fuse = s.fuse :=
  s.advance_field _ (fun _ _ h => (congrArg State.fuse h :)) dt
@[simp] theorem State.advance_pending (dt : Nat) : (s.advance dt).pending = s.pending :=
  s.advance_field _ (fun _ _ h => (congrArg State.pending h :)) dt
@[simp] theorem State.advance_cells (dt : Nat) : (s.advance dt).cells = s.cells :=
  s.advance_field _ (fun _ _ h => (congrArg State.cells h :)) dt
@[simp] theorem State.advance_bell (dt : Nat) : (s.advance dt).bell = s.bell :=
  s.advance_field _ (fun _ _ h => (congrArg State.bell h :)) dt
@[simp] theorem State.advance_epoch (dt : Nat) : (s.advance dt).epoch = s.epoch :=
  s.advance_field _ (fun _ _ h => (congrArg State.epoch h :)) dt
@[simp] theorem State.advance_pla (dt : Nat) : (s.advance dt).pla = s.pla :=
  s.advance_field _ (fun _ _ h => (congrArg State.pla h :)) dt
@[simp] theorem State.advance_plb (dt : Nat) : (s.advance dt).plb = s.plb :=
  s.advance_field _ (fun _ _ h => (congrArg State.plb h :)) dt
@[simp] theorem State.advance_token (dt : Nat) : (s.advance dt).token = s.token :=
  s.advance_field _ (fun _ _ h => (congrArg State.token h :)) dt
@[simp] theorem State.advance_safe (dt : Nat) : (s.advance dt).safe = s.safe :=
  s.advance_field _ (fun _ _ h => (congrArg State.safe h :)) dt
@[simp] theorem State.advance_therm (dt : Nat) : (s.advance dt).therm = s.therm :=
  s.advance_field _ (fun _ _ h => (congrArg State.therm h :)) dt
@[simp] theorem State.advance_dev (dt : Nat) : (s.advance dt).dev = s.dev :=
  s.advance_field _ (fun _ _ h => (congrArg State.dev h :)) dt
@[simp] theorem State.advance_jrnl (dt : Nat) : (s.advance dt).jrnl = s.jrnl :=
  s.advance_field _ (fun _ _ h => (congrArg State.jrnl h :)) dt
@[simp] theorem State.advance_bistA (dt : Nat) : (s.advance dt).bist.a = s.bist.a :=
  s.advance_field (fun x => x.bist.a) (fun _ _ h => (congrArg (fun x : State => x.bist.a) h :)) dt
@[simp] theorem State.advance_bistB (dt : Nat) : (s.advance dt).bist.b = s.bist.b :=
  s.advance_field (fun x => x.bist.b) (fun _ _ h => (congrArg (fun x : State => x.bist.b) h :)) dt
@[simp] theorem State.advance_job (dt : Nat) : (s.advance dt).bist.job = s.bist.job :=
  s.advance_field (fun x => x.bist.job) (fun _ _ h => (congrArg (fun x : State => x.bist.job) h :)) dt
@[simp] theorem State.advance_time (dt : Nat) : (s.advance dt).time = s.time :=
  s.advance_field _ (fun _ _ h => (congrArg State.time h :)) dt
@[simp] theorem State.advance_conv (dt : Nat) : (s.advance dt).conv = s.conv :=
  s.advance_field _ (fun _ _ h => (congrArg State.conv h :)) dt
@[simp] theorem State.advance_accs (dt : Nat) : (s.advance dt).accs = s.accs :=
  s.advance_field _ (fun _ _ h => (congrArg State.accs h :)) dt
@[simp] theorem State.advance_haccs (dt : Nat) : (s.advance dt).haccs = s.haccs :=
  s.advance_field _ (fun _ _ h => (congrArg State.haccs h :)) dt
@[simp] theorem State.advance_tiles (dt : Nat) : (s.advance dt).tiles = s.tiles :=
  s.advance_field _ (fun _ _ h => (congrArg State.tiles h :)) dt
@[simp] theorem State.advance_traces (dt : Nat) : (s.advance dt).traces = s.traces :=
  s.advance_field _ (fun _ _ h => (congrArg State.traces h :)) dt
@[simp] theorem State.advance_tap (dt : Nat) : (s.advance dt).tap = s.tap :=
  s.advance_field _ (fun _ _ h => (congrArg State.tap h :)) dt
@[simp] theorem State.advance_sent (dt : Nat) : (s.advance dt).sent = s.sent :=
  s.advance_field _ (fun _ _ h => (congrArg State.sent h :)) dt
@[simp] theorem State.advance_nint (dt : Nat) : (s.advance dt).nint = s.nint :=
  s.advance_field _ (fun _ _ h => (congrArg State.nint h :)) dt
end Sys2Proof.Machine
end

