-- ==== Sys2Proof/Laws/Run.lean ====
section
/-!
SUPPORT. When a command is carried out: a device in service runs every command, a READY one serves every host command, and
what closes a command keeps the queue, the fuse array and the life cycle.
-/

namespace Sys2Proof.Machine

/-- What makes the life cycle FIELD or RETURN: the marker or both life-cycle bits. -/
theorem State.served_iff {s : State} :
    2 ≤ s.lifeState ↔ 5 ≤ s.dev.marker ∨ (s.dev.lifeBits.testBit 0 = true ∧ s.dev.lifeBits.testBit 1 = true) := by
  unfold State.lifeState
  repeat' split
  all_goals simp_all

/-- Time alone takes the life cycle neither out of the states the manual describes nor into them. -/
theorem State.served_advance {s : State} (dt : Nat) : 2 ≤ (s.advance dt).lifeState ↔ 2 ≤ s.lifeState := by
  rw [State.served_iff, State.served_iff, s.advance_dev]

/-- A marker that time has programmed stays programmed. -/
theorem State.returnWiping_advance {s : State} (dt : Nat) (h : s.returnWiping = true) : (s.advance dt).returnWiping = true := by
  unfold State.returnWiping at *
  rw [s.advance_dev, s.advance_elapsed]
  simp only [Bool.and_eq_true, decide_eq_true_eq] at *
  exact ⟨h.1, Nat.le_trans h.2 (Nat.le_add_right _ _)⟩

/-- Time never moves the life cycle back. -/
theorem State.lifeState_le_advance (s : State) (dt : Nat) : s.lifeState ≤ (s.advance dt).lifeState := by
  have k := State.returnWiping_advance (s := s) dt
  unfold State.lifeState
  rw [s.advance_dev]
  repeat' split
  all_goals simp_all

/-- A device in service is in service when its next command comes: time ends no reset and begins none. -/
theorem State.inService_advance {s : State} (dt : Nat) : (s.advance dt).InService ↔ s.InService := by
  rw [State.InService, State.served_advance, s.advance_dev]
theorem State.isReady_advance {s : State} (dt : Nat) : (s.advance dt).Ready ↔ s.Ready := by
  rw [State.Ready, State.inService_advance, s.advance_dev]

theorem State.runAny_next (s : State) (dt : Nat) (f : State → State) (h : 2 ≤ s.lifeState) :
    s.runAny dt f = .next (s.seal dt (f (s.advance dt))) := by
  unfold State.runAny
  rw [if_neg (by omega)]

theorem State.runAny_fault (s : State) (dt : Nat) (f : State → State) (h : s.lifeState < 2) :
    s.runAny dt f = .fault .lifecycleUnspecified := by
  unfold State.runAny
  rw [if_pos h]

/-- A device in service carries a command out. -/
theorem State.run_next (s : State) (dt : Nat) (f : State → State) (h : s.InService) :
    s.run dt f = .next (s.seal dt (f (s.advance dt))) := by
  unfold State.run
  rw [State.runAny_next _ _ _ h.1]
  simp [h.2]

/-- In a reset only time passes (R365). -/
theorem State.run_reset (s : State) (dt : Nat) (f : State → State) (h : 2 ≤ s.lifeState) (hr : s.dev.inReset.isSome) :
    s.run dt f = .next (s.seal dt (s.advance dt)) := by
  unfold State.run
  rw [State.runAny_next _ _ _ h]
  simp [hr]

/-- A READY device serves every command of a page (R371). -/
theorem State.hostCommand_ready (s : State) (page op : Nat) (o : Order) (k : State → State) (h : s.Ready) :
    s.hostCommand page op o k = k s := by
  simp [State.hostCommand, State.cmdGate, h.1.2, h.2]

theorem State.ready_advance {s : State} (h : s.Ready) (dt : Nat) : (s.advance dt).Ready := (State.isReady_advance dt).2 h

/-- A READY device carries a host command out. -/
theorem State.runCmd_next (s : State) (dt page op : Nat) (o : Order) (f : State → State) (h : s.Ready) :
    s.runCmd dt page op o f = .next (s.seal dt (f (s.advance dt))) := by
  unfold State.runCmd
  rw [State.runAny_next _ _ _ h.1.1, State.hostCommand_ready _ _ _ _ _ (State.ready_advance h dt)]

@[simp] theorem State.seal_pending (s : State) (dt : Nat) (u : State) : (s.seal dt u).pending = s.pending := rfl
@[simp] theorem State.seal_fuse (s : State) (dt : Nat) (u : State) : (s.seal dt u).fuse = s.fuse := rfl
@[simp] theorem State.seal_lifeBits (s : State) (dt : Nat) (u : State) : (s.seal dt u).dev.lifeBits = s.dev.lifeBits := rfl
theorem State.marker_le_seal (s : State) (dt : Nat) (u : State) : s.dev.marker ≤ (s.seal dt u).dev.marker :=
  Nat.le_trans (Nat.le_max_left _ _) (Nat.le_max_left _ _)
theorem State.wiped_le_seal (s : State) (dt : Nat) (u : State) (h : s.returnWiping = true) : 8 ≤ (s.seal dt u).dev.marker := by
  refine Nat.le_trans ?_ (Nat.le_max_left _ _)
  rw [if_pos h]
  exact Nat.le_max_right _ _

/-- No command moves the life cycle back. -/
theorem State.lifeState_le_seal (s : State) (dt : Nat) (u : State) : s.lifeState ≤ (s.seal dt u).lifeState := by
  have m := s.marker_le_seal dt u
  have b := s.seal_lifeBits dt u
  have w := s.wiped_le_seal dt u
  unfold State.lifeState
  rw [b]
  repeat' split
  all_goals simp_all
  all_goals omega

end Sys2Proof.Machine
end

