-- ==== Sys2Proof/Laws/Closing.lean ====
section
/-!
SUPPORT. What follows from a command leaves alone: memory, time, the Cell Table, the route solver, tiles, accumulators, the
Object Table, network time, the journal and the thermal record.
-/

namespace Sys2Proof.Machine

/-- The state without what may follow from a command. -/
def State.calm (s : State) : State :=
  let r := State.reset
  { s.outer with epoch := r.epoch, safe := r.safe
                 e0 := { r.e0 with waiting := s.e0.waiting, looped := s.e0.looped }
                 e1 := { r.e1 with waiting := s.e1.waiting, looped := s.e1.looped }, sent := []
                 osc := r.osc, sched := r.sched, dev := r.dev, pla := r.pla, plb := r.plb, token := r.token, nint := false }

/-- The calm part of a state, without self-test. -/
def State.lull (s : State) : State := { s.calm with bist := State.reset.bist }

/-- The calm part of a state, without self-test and conversion: what stays even where a self-test slice ends. -/
def State.hush (s : State) : State := { s.lull with pairs := [], conv := State.reset.conv }

theorem State.calm_of_outer {s t : State} (h : s.outer = t.outer) : s.calm = t.calm := by
  have h0 := (State.of_outer h).2.2.2.2.2.2.2.2.2.2.2.2.1
  have h1 := (State.of_outer h).2.2.2.2.2.2.2.2.2.2.2.2.2.1
  unfold State.calm; rw [h, h0, h1]

theorem State.lull_of_calm {s t : State} (h : s.calm = t.calm) : s.lull = t.lull := by unfold State.lull; rw [h]
theorem State.hush_of_lull {s t : State} (h : s.lull = t.lull) : s.hush = t.hush := by unfold State.hush; rw [h]
theorem State.hush_of_calm {s t : State} (h : s.calm = t.calm) : s.hush = t.hush := State.hush_of_lull (State.lull_of_calm h)

theorem foldl_calm {α : Type} (f : State → α → State) (h : ∀ s x, (f s x).calm = s.calm) (l : List α) (s : State) :
    (l.foldl f s).calm = s.calm := by
  induction l generalizing s with
  | nil => rfl
  | cons x t ih => rw [List.foldl_cons, ih, h]

variable (s : State)

@[simp] theorem State.setReg_calm (a : Nat) (v : Word) : (s.setReg a v).calm = s.calm := rfl
@[simp] theorem State.count_calm (a : Nat) : (s.count a).calm = s.calm := rfl
@[simp] theorem State.cause_calm (p i : Nat) : (s.cause p i).calm = s.calm := rfl
@[simp] theorem State.latest_calm (a k : Nat) (v : Word) : (s.latest a k v).calm = s.calm :=
  State.calm_of_outer (s.latest_outer a k v)
@[simp] theorem State.eventAt_calm (p c a b e : Nat) (l : List Word) : (s.eventAt p c a b e l).calm = s.calm :=
  State.calm_of_outer (s.eventAt_outer p c a b e l)
@[simp] theorem State.event_calm (p c : Nat) (l : List Word) : (s.event p c l).calm = s.calm :=
  State.calm_of_outer (s.event_outer p c l)
@[simp] theorem State.updPlane_calm (pl : Plane) (f : PlaneRec → PlaneRec) : (s.updPlane pl f).calm = s.calm := by
  cases pl <;> rfl
@[simp] theorem State.updToken_calm (f : TokenSt → TokenSt) : (s.updToken f).calm = s.calm := rfl
@[simp] theorem State.updSafe_calm (f : SafeSt → SafeSt) : (s.updSafe f).calm = s.calm := rfl
@[simp] theorem State.updDrv_calm (f : Drive → Drive) : (s.updDrv f).calm = s.calm := rfl
@[simp] theorem State.updDev_calm (f : DevSt → DevSt) : (s.updDev f).calm = s.calm := rfl
@[simp] theorem State.updOsc_calm (f : OscSt → OscSt) : (s.updOsc f).calm = s.calm := rfl
@[simp] theorem State.updEgress_calm (i : Nat) (f : Egress → Egress) : (s.updEgress i f).calm = s.calm := rfl
@[simp] theorem State.transmit_calm (p : Port) (op : BitVec 4) (m : BitVec 48) (f : LinkFrame) :
    (s.transmit p op m f).calm = s.calm := by
  unfold State.transmit
  split
  · cases p <;> rfl
  · rfl
@[simp] theorem State.respond_calm (p : Port) (q : BitVec 16) (t : BitVec 12) (m : BitVec 48) (a : Word) (c : Nat)
    (l : List Word) : (s.respond p q t m a c l).calm = s.calm := by simp [State.respond]
@[simp] theorem State.retire_calm (p : Port) (t : BitVec 12) : (s.retire p t).calm = s.calm := by
  cases p <;> rfl
@[simp] theorem State.answer_calm (o : Order) (c : Nat) (w : Word) : (s.answer o c w).calm = s.calm := by
  unfold State.answer
  split
  · rfl
  · split <;> simp
@[simp] theorem State.completeX_calm (p op c x : Nat) (o : Option Order) : (s.completeX p op c x o).calm = s.calm := by
  unfold State.completeX; split <;> split <;> simp
@[simp] theorem State.complete_calm (p op c : Nat) (o : Order) : (s.complete p op c o).calm = s.calm := by
  simp [State.complete]

@[simp] theorem State.conflict_calm (k a b c d i : Nat) : (s.conflict k a b c d i).calm = s.calm := by
  unfold State.conflict; simp only; split <;> simp <;> rfl
@[simp] theorem State.endHeld_calm (h : Held) (c : Nat) : (s.endHeld h c).calm = s.calm := by
  unfold State.endHeld
  rw [foldl_calm _ (fun s x => by simp [State.epochDone])]
  simp [State.epochDone]
theorem State.epoch_calm (x : EpochSt) : State.calm { s with epoch := x } = s.calm := rfl
@[simp] theorem State.lastOut_calm (k : Nat) : (s.lastOut k).calm = s.calm := rfl
@[simp] theorem State.discard_calm (c : Nat) : (s.discard c).calm = s.calm := by
  unfold State.discard
  exact (State.epoch_calm _ _).trans (by simp)
@[simp] theorem State.discardSafe_calm (b : Bool) : (s.discardSafe b).calm = s.calm := by
  unfold State.discardSafe
  split
  · rfl
  · simp only
    split
    · simp
    · split <;> simp

@[simp] theorem State.safeFreeze_calm : s.safeFreeze.calm = s.calm := State.calm_of_outer s.safeFreeze_outer

@[simp] theorem State.safeCheck_calm : s.safeCheck.calm = s.calm := by
  unfold State.safeCheck
  split
  · rfl
  · simp only [State.event_calm, State.cause_calm, State.count_calm, State.discardSafe_calm]
    split <;> simp

@[simp] theorem State.safeFollow_calm : s.safeFollow.calm = s.calm := by simp [State.safeFollow]

@[simp] theorem State.noteHolds_calm (old : State) : (State.noteHolds old s).calm = s.calm :=
  State.calm_of_outer (s.noteHolds_outer old)
@[simp] theorem State.noteHealth_calm (old : State) (pl : Plane) : (State.noteHealth old s pl).calm = s.calm := by
  unfold State.noteHealth; split <;> simp

@[simp] theorem State.frameDone_calm (p : Port) (q : BitVec 16) (r : Reply) (c : Nat) : (s.frameDone p q r c).calm = s.calm := by
  unfold State.frameDone; simp only; repeat' split
  all_goals simp
@[simp] theorem State.hostCopy_calm (n : Option Nat) (c : Nat) : (s.hostCopy n c).calm = s.calm := by
  unfold State.hostCopy
  split
  · rfl
  · simp only; split <;> split <;> simp
@[simp] theorem State.laneBump_calm (i a : Nat) : (s.laneBump i a).calm = s.calm := by simp [State.laneBump]
@[simp] theorem State.discardFrames_calm : s.discardFrames.calm = s.calm := by
  unfold State.discardFrames
  simp only
  rw [foldl_calm _ (fun s x => by simp), State.updOsc_calm,
    foldl_calm _ (fun s x => by
      unfold State.discardLane
      simp only
      rw [foldl_calm _ (fun s x => by simp), State.updEgress_calm])]
@[simp] theorem State.noteSafe_calm (old : State) : (State.noteSafe old s).calm = s.calm := by
  unfold State.noteSafe; split <;> simp
@[simp] theorem State.noteDefer_calm : s.noteDefer.calm = s.calm := by
  unfold State.noteDefer
  split
  · rfl
  · rfl
@[simp] theorem State.bistEvent_calm (c : Nat) (l : List Nat) : (s.bistEvent c l).calm = s.calm := by
  unfold State.bistEvent; split <;> simp
@[simp] theorem State.clearGrant_calm : s.clearGrant.calm = s.calm := by
  unfold State.clearGrant
  split
  · rfl
  · simp only; repeat' split
    all_goals simp
@[simp] theorem State.runDone_calm (c : Nat) (o : Order) : (s.runDone c o).calm = s.calm := by simp [State.runDone]
@[simp] theorem State.noteLock_calm : s.noteLock.calm = s.calm := by unfold State.noteLock; split <;> simp
@[simp] theorem State.holdCheck_calm : s.holdCheck.calm = s.calm := by
  unfold State.holdCheck State.enterHoldState; split <;> simp

@[simp] theorem State.markRecorded_calm (pl : Plane) (l : List HoldRec) : (s.markRecorded pl l).calm = s.calm :=
  State.calm_of_outer (s.markRecorded_outer pl l)
@[simp] theorem State.fence_calm (c : Nat) : (s.fence c).calm = s.calm := by
  unfold State.fence
  split
  · rfl
  · simp only [State.tokenSignal]; repeat' split
    all_goals simp
@[simp] theorem State.restartDone_calm (pl : Plane) (c : Nat) : (s.restartDone pl c).calm = s.calm := by
  unfold State.restartDone; split <;> simp
@[simp] theorem State.planeFails_calm (pl : Plane) (b : Bool) (ty t sl c : Nat) :
    (s.planeFails pl b ty t sl c).calm = s.calm := by
  unfold State.planeFails; simp only [State.bistEvent_calm, State.cause_calm, State.count_calm]
  cases pl <;> simp only <;> split <;> simp
@[simp] theorem State.noteSlice_calm (pl : Plane) (a f : Bool) (ty c t : Nat) : (s.noteSlice pl a f ty c t).calm = s.calm := by
  simp [State.noteSlice]
@[simp] theorem State.masterReset_calm (m : Nat) (b : Option Nat) : (s.masterReset m b).calm = s.calm := by
  unfold State.masterReset State.burstCut; split <;> simp

/-! ### A self-test slice ends -/

@[simp] theorem State.updBist_lull (pl : Plane) (f : BistPlane → BistPlane) : (s.updBist pl f).lull = s.lull := by
  cases pl <;> rfl
@[simp] theorem State.setJob_lull (j : Option BistJob) : (s.setJob j).lull = s.lull := rfl

@[simp] theorem State.updBist_hush (pl : Plane) (f : BistPlane → BistPlane) : (s.updBist pl f).hush = s.hush :=
  State.hush_of_lull (s.updBist_lull pl f)
@[simp] theorem State.setJob_hush (j : Option BistJob) : (s.setJob j).hush = s.hush := rfl
@[simp] theorem State.setReg_hush (a : Nat) (v : Word) : (s.setReg a v).hush = s.hush := rfl
@[simp] theorem State.count_hush (a : Nat) : (s.count a).hush = s.hush := rfl
@[simp] theorem State.cause_hush (p i : Nat) : (s.cause p i).hush = s.hush := rfl
@[simp] theorem State.event_hush (p c : Nat) (l : List Word) : (s.event p c l).hush = s.hush :=
  State.hush_of_calm (s.event_calm p c l)
@[simp] theorem State.bistEvent_hush (c : Nat) (l : List Nat) : (s.bistEvent c l).hush = s.hush :=
  State.hush_of_calm (s.bistEvent_calm c l)
@[simp] theorem State.complete_hush (p op c : Nat) (o : Order) : (s.complete p op c o).hush = s.hush :=
  State.hush_of_calm (s.complete_calm p op c o)
@[simp] theorem State.updPlane_hush (pl : Plane) (f : PlaneRec → PlaneRec) : (s.updPlane pl f).hush = s.hush :=
  State.hush_of_calm (s.updPlane_calm pl f)
@[simp] theorem State.updToken_hush (f : TokenSt → TokenSt) : (s.updToken f).hush = s.hush := rfl
@[simp] theorem State.fence_hush (c : Nat) : (s.fence c).hush = s.hush := State.hush_of_calm (s.fence_calm c)
@[simp] theorem State.clearGrant_hush : s.clearGrant.hush = s.hush := State.hush_of_calm s.clearGrant_calm
@[simp] theorem State.restartDone_hush (pl : Plane) (c : Nat) : (s.restartDone pl c).hush = s.hush :=
  State.hush_of_calm (s.restartDone_calm pl c)
@[simp] theorem State.planeFails_hush (pl : Plane) (b : Bool) (ty t sl c : Nat) :
    (s.planeFails pl b ty t sl c).hush = s.hush := State.hush_of_calm (s.planeFails_calm pl b ty t sl c)
@[simp] theorem State.noteSlice_hush (pl : Plane) (a f : Bool) (ty c t : Nat) : (s.noteSlice pl a f ty c t).hush = s.hush :=
  State.hush_of_calm (s.noteSlice_calm pl a f ty c t)
@[simp] theorem State.masterReset_hush (m : Nat) (b : Option Nat) : (s.masterReset m b).hush = s.hush :=
  State.hush_of_calm (s.masterReset_calm m b)

@[simp] theorem State.runDone_hush (c : Nat) (o : Order) : (s.runDone c o).hush = s.hush :=
  State.hush_of_calm (s.runDone_calm c o)
@[simp] theorem State.runDone_lull (c : Nat) (o : Order) : (s.runDone c o).lull = s.lull :=
  State.lull_of_calm (s.runDone_calm c o)

theorem foldl_hush {α : Type} (f : State → α → State) (h : ∀ s x, (f s x).hush = s.hush) (l : List α) (s : State) :
    (l.foldl f s).hush = s.hush := by
  induction l generalizing s with
  | nil => rfl
  | cons x t ih => rw [List.foldl_cons, ih, h]

@[simp] theorem State.updPair_hush (pl : Plane) (t : Nat) (f : Pair → Pair) : (s.updPair pl t f).hush = s.hush := rfl
@[simp] theorem State.newPass_hush (pl : Plane) (t : Nat) : (s.newPass pl t).hush = s.hush := by simp [State.newPass]
@[simp] theorem State.beginRounds_hush (pl : Plane) (t : Nat) : (s.beginRounds pl t).hush = s.hush := by
  unfold State.beginRounds; split <;> simp
@[simp] theorem State.beginIdle_hush (pl : Plane) (t : Nat) : (s.beginIdle pl t).hush = s.hush := by
  unfold State.beginIdle; simp only; split <;> simp
@[simp] theorem State.restartPair_hush (pl : Plane) (t : Nat) : (s.restartPair pl t).hush = s.hush := by
  simp [State.restartPair]
@[simp] theorem State.restartSeq_hush (pl : Plane) : (s.restartSeq pl).hush = s.hush :=
  foldl_hush _ (fun s t => by simp) _ _
@[simp] theorem State.calStart_hush (pl : Plane) : (s.calStart pl).hush = s.hush := rfl
@[simp] theorem State.calAbort_hush (pl : Plane) : (s.calAbort pl).hush = s.hush := by
  unfold State.calAbort
  split
  · rfl
  · simp only
    split
    · exact (State.restartSeq_hush _ _).trans rfl
    · rw [State.complete_hush]; exact (State.restartSeq_hush _ _).trans rfl
@[simp] theorem State.planeDown_hush (pl : Plane) (st : PlaneSt) (c : Nat) : (s.planeDown pl st c).hush = s.hush := by
  unfold State.planeDown; simp only; split <;> simp
/-- A plane whose START fails leaves the rest of the device alone. -/
@[simp] theorem State.startFails_hush (pl : Plane) : (s.planeStartDone pl false).hush = s.hush := by
  unfold State.planeStartDone; simp only; split <;> simp
@[simp] theorem State.jobNext_hush (pl : Plane) (n : Nat) : (s.jobNext pl n).hush = s.hush := by
  unfold State.jobNext
  split
  · rfl
  · simp only; split <;> simp
@[simp] theorem State.nextRun_hush (pl : Plane) (n : Nat) : (s.nextRun pl n).hush = s.hush := by
  unfold State.nextRun; simp only; repeat' split
  all_goals simp
@[simp] theorem State.endRun_hush (pl : Plane) : (s.endRun pl).hush = s.hush := by
  unfold State.endRun; simp only; repeat' split
  all_goals simp
@[simp] theorem State.restoreTile_hush (pl : Plane) (t : Nat) : (s.restoreTile pl t).hush = s.hush := by
  unfold State.restoreTile; split <;> simp
@[simp] theorem State.sliceAbort_hush (pl : Plane) (c : Nat) : (s.sliceAbort pl c).hush = s.hush := by
  unfold State.sliceAbort State.sliceDrop State.passTile
  split
  · rfl
  · split
    · simp
    · simp only; repeat' split
      all_goals simp

@[simp] theorem State.setReg_lull (a : Nat) (v : Word) : (s.setReg a v).lull = s.lull := rfl
@[simp] theorem State.cause_lull (p i : Nat) : (s.cause p i).lull = s.lull := rfl
@[simp] theorem State.bistEvent_lull (c : Nat) (l : List Nat) : (s.bistEvent c l).lull = s.lull :=
  State.lull_of_calm (s.bistEvent_calm c l)
@[simp] theorem State.complete_lull (p op c : Nat) (o : Order) : (s.complete p op c o).lull = s.lull :=
  State.lull_of_calm (s.complete_calm p op c o)

/-- Where no slice is in progress, following a command up only begins runs and ends the RUN of a plane that left service. -/
theorem State.followBistOn_lull (old : State) (pl : Plane) (h : (s.bistOf pl).slice = none) :
    (s.followBistOn old pl).lull = s.lull := by
  unfold State.followBistOn
  simp only [h]
  repeat' split
  all_goals simp
@[simp] theorem State.followBistOn_hush (old : State) (pl : Plane) : (s.followBistOn old pl).hush = s.hush := by
  unfold State.followBistOn
  extract_lets held cal s1 a b s2 s3
  have e1 : s1.hush = s.hush := by
    simp only [s1]
    split
    · rfl
    · repeat' split
      all_goals simp
  have e2 : s2.hush = s1.hush := by simp only [s2]; split <;> simp
  have e3 : s3.hush = s2.hush := by simp only [s3]; split <;> simp
  have e : s3.hush = s.hush := e3.trans (e2.trans e1)
  split
  · exact e
  · split
    · exact e
    · simpa using e
@[simp] theorem State.followBist_hush (old : State) : (s.followBist old).hush = s.hush := by simp [State.followBist]

@[simp] theorem State.bistEvent_bist (c : Nat) (l : List Nat) : (s.bistEvent c l).bist = s.bist := by
  unfold State.bistEvent; split <;> simp
@[simp] theorem State.runDone_bist (c : Nat) (o : Order) : (s.runDone c o).bist = s.bist := by simp [State.runDone]
@[simp] theorem State.updBist_a_b (f : BistPlane → BistPlane) : (s.updBist .a f).bist.b = s.bist.b := rfl
@[simp] theorem State.setJob_b (j : Option BistJob) : (s.setJob j).bist.b = s.bist.b := rfl

/-- Following plane A up with no slice in progress leaves plane B's self-test alone. -/
theorem State.followBistOn_b (old : State) (h : (s.bistOf .a).slice = none) : (s.followBistOn old .a).bist.b = s.bist.b := by
  unfold State.followBistOn
  simp only [h]
  repeat' split
  all_goals simp

/-! ### The closing of a command -/

theorem State.calm_bist {t : State} (h : s.calm = t.calm) : s.bist = t.bist := (congrArg State.bist h :)
@[simp] theorem State.follow_hush (old : State) : (State.follow old s).hush = s.hush := by
  unfold State.follow
  rw [State.hush_of_calm (State.holdCheck_calm _), State.hush_of_calm (State.noteLock_calm _), State.followBist_hush]
  exact State.hush_of_calm (by simp)

/-- With no slice in progress, what follows from a command keeps the calm part of the state but for self-test. -/
theorem State.follow_lull (old : State) (h : s.NoSlice) : (State.follow old s).lull = s.lull := by
  unfold State.follow
  rw [State.lull_of_calm (State.holdCheck_calm _), State.lull_of_calm (State.noteLock_calm _)]
  generalize hx : (State.noteSafe old (State.noteHealth old (State.noteHealth old s .a) .b).safeFollow).noteDefer = x
  have c : x.calm = s.calm := by simp [← hx]
  have b := State.calm_bist _ c
  have ha : (x.bistOf .a).slice = none := by show x.bist.a.slice = none; rw [b]; exact h.1
  have hb : (x.bistOf .b).slice = none := by show x.bist.b.slice = none; rw [b]; exact h.2
  unfold State.followBist
  have k := State.followBistOn_lull (x.followBistOn old .a) old .b
    ((congrArg BistPlane.slice (State.followBistOn_b x old ha)).trans hb)
  rw [k, State.followBistOn_lull _ _ _ ha]
  exact State.lull_of_calm c

@[simp] theorem State.noteInt_calm : s.noteInt.calm = s.calm := by
  have h : ∀ (x : State) (b : Bool), State.calm { x with nint := b } = x.calm := fun _ _ => rfl
  unfold State.noteInt
  simp only [h]
  split <;> simp

@[simp] theorem State.noteDrives_calm (old : State) : (State.noteDrives old s).calm = s.calm := by
  unfold State.noteDrives; split <;> simp

/-- With nothing waiting at the ports and nothing looped back there is nothing to issue. -/
theorem State.drain_eq (h : s.NoneWaiting) : s.drain = s := by
  obtain ⟨h0, h1, l0, l1⟩ := h
  have a : s.echoPort .e0 = s := by
    unfold State.echoPort
    show List.foldl _ (s.updLink .e0 fun l => { l with looped := [] }) s.e0.looped = s
    rw [l0, List.foldl_nil]
    show { s with e0 := { s.e0 with looped := [] } } = s
    rw [← l0]
  have b : s.echoPort .e1 = s := by
    unfold State.echoPort
    show List.foldl _ (s.updLink .e1 fun l => { l with looped := [] }) s.e1.looped = s
    rw [l1, List.foldl_nil]
    show { s with e1 := { s.e1 with looped := [] } } = s
    rw [← l1]
  unfold State.drain
  rw [a, b]
  simp [State.drainPort, State.link, h0, h1]

/-- With a feed valid, the check of the power at most notes that there is some. -/
theorem State.powerCheck_valid (hv : s.pla.valid = true ∨ s.plb.valid = true) :
    s.powerCheck = s ∨ s.powerCheck = s.updDev fun d => { d with unpowered := false } := by
  have off : (!s.pla.valid && !s.plb.valid) = false := by rcases hv with h | h <;> simp [h]
  unfold State.powerCheck
  simp only [off]
  split
  · exact .inl rfl
  · exact .inr rfl
theorem State.powerCheck_calm (hv : s.pla.valid = true ∨ s.plb.valid = true) : s.powerCheck.calm = s.calm := by
  rcases s.powerCheck_valid hv with h | h <;> rw [h]
  rfl
theorem State.powerCheck_bist (hv : s.pla.valid = true ∨ s.plb.valid = true) : s.powerCheck.bist = s.bist :=
  State.calm_bist _ (s.powerCheck_calm hv)

theorem State.noneWaiting_congr {t : State} (h : s.hush = t.hush) (hw : t.NoneWaiting) : s.NoneWaiting :=
  ⟨(congrArg (fun y : State => y.e0.waiting) h :).trans hw.1, (congrArg (fun y : State => y.e1.waiting) h :).trans hw.2.1,
    (congrArg (fun y : State => y.e0.looped) h :).trans hw.2.2.1, (congrArg (fun y : State => y.e1.looped) h :).trans hw.2.2.2⟩

/-- What remains of the closing once everything has followed: with nothing waiting it changes only drives and nINT. -/
theorem State.finish_tail (old x : State) (hw : s.NoneWaiting) (h : x.hush = s.hush) :
    (State.noteDrives old x.drain).noteInt.calm = x.calm := by
  rw [State.drain_eq x (State.noneWaiting_congr x h hw), State.noteInt_calm, State.noteDrives_calm]

/-- The closing of a command, with a feed valid and no request waiting, keeps the calm part but for self-test and
conversion. -/
theorem State.finish_hush (old : State) (hv : s.pla.valid = true ∨ s.plb.valid = true) (hw : s.NoneWaiting) :
    (State.finish old s).hush = s.hush := by
  have p : s.powerCheck.hush = s.hush := State.hush_of_calm (s.powerCheck_calm hv)
  unfold State.finish
  simp only
  split
  · rw [State.hush_of_calm (State.finish_tail s old _ hw (by simp [p]))]; simp [p]
  · rw [State.hush_of_calm (State.finish_tail s old _ hw p)]; exact p

/-- And with no self-test slice in progress, it keeps conversion too. -/
theorem State.finish_lull (old : State) (hv : s.pla.valid = true ∨ s.plb.valid = true) (hw : s.NoneWaiting) (hs : s.NoSlice) :
    (State.finish old s).lull = s.lull := by
  have p : s.powerCheck.lull = s.lull := State.lull_of_calm (s.powerCheck_calm hv)
  have b := s.powerCheck_bist hv
  unfold State.finish
  simp only
  split
  · rw [State.lull_of_calm (State.finish_tail s old _ hw (by simp [State.hush_of_lull p])),
      State.follow_lull s.powerCheck old (by rw [State.NoSlice, b]; exact hs)]
    exact p
  · rw [State.lull_of_calm (State.finish_tail s old _ hw (State.hush_of_lull p))]; exact p

end Sys2Proof.Machine
end

