-- ==== Sys2Proof/Laws/ClosingRegs.lean ====
section
/-!
SUPPORT. Which registers what follows from a command may write: those of `closingMayWrite`, and no other.
-/

namespace Sys2Proof.Machine

/-- The registers that nothing that follows from a command may write. -/
def State.kept (s : State) : Nat → Word := fun a => if closingMayWrite a then 0 else s.reg a

@[simp] theorem mayWrite_SHEEP_LAST_MOVE : closingMayWrite Reg.SHEEP_LAST_MOVE = true := by decide
@[simp] theorem mayWrite_SHEEP_LAST_PORTS : closingMayWrite Reg.SHEEP_LAST_PORTS = true := by decide
@[simp] theorem mayWrite_SHEEP_LAST_WAVES : closingMayWrite Reg.SHEEP_LAST_WAVES = true := by decide
@[simp] theorem mayWrite_SHEEP_LAST_NS : closingMayWrite Reg.SHEEP_LAST_NS = true := by decide
@[simp] theorem mayWrite_SHEEP_LAST_EPOCH : closingMayWrite Reg.SHEEP_LAST_EPOCH = true := by decide
@[simp] theorem mayWrite_SHEEP_ABANDON_CNT : closingMayWrite Reg.SHEEP_ABANDON_CNT = true := by decide
@[simp] theorem mayWrite_EPOCH_CONFLICT_CNT : closingMayWrite Reg.EPOCH_CONFLICT_CNT = true := by decide
@[simp] theorem mayWrite_EPOCH_ABORT_CNT : closingMayWrite Reg.EPOCH_ABORT_CNT = true := by decide
@[simp] theorem mayWrite_TOKEN_SAFE_CNT : closingMayWrite Reg.TOKEN_SAFE_CNT = true := by decide
@[simp] theorem mayWrite_OSC_TX_REFUSE_CNT : closingMayWrite Reg.OSC_TX_REFUSE_CNT = true := by decide
@[simp] theorem mayWrite_OSC_HOSTQ_DROP_CNT : closingMayWrite Reg.OSC_HOSTQ_DROP_CNT = true := by decide
@[simp] theorem mayWrite_THM_DEFER_CNT : closingMayWrite Reg.THM_DEFER_CNT = true := by decide
@[simp] theorem mayWrite_INTR_NINT_CNT : closingMayWrite Reg.INTR_NINT_CNT = true := by decide
@[simp] theorem mayWrite_BIST_ABORT_CNT : closingMayWrite Reg.BIST_ABORT_CNT = true := by decide
@[simp] theorem mayWrite_BIST_LAST_SLICE : closingMayWrite Reg.BIST_LAST_SLICE = true := by decide
@[simp] theorem mayWrite_BIST_FAIL_CNT : closingMayWrite Reg.BIST_FAIL_CNT = true := by decide
@[simp] theorem mayWrite_BIST_FAIL_A : closingMayWrite Reg.BIST_FAIL_A = true := by decide
@[simp] theorem mayWrite_BIST_FAIL_B : closingMayWrite Reg.BIST_FAIL_B = true := by decide
@[simp] theorem mayWrite_BIST_SIG_A : closingMayWrite Reg.BIST_SIG_A = true := by decide
@[simp] theorem mayWrite_BIST_SIG_B : closingMayWrite Reg.BIST_SIG_B = true := by decide
@[simp] theorem mayWrite_CHAIN_EVT_DROP_CNT : closingMayWrite Reg.CHAIN_EVT_DROP_CNT = true := by decide
@[simp] theorem mayWrite_RESP_DROP (p : Port) : closingMayWrite (Reg.EHR_RESP_DROP_CNT p) = true := by cases p <;> decide
@[simp] theorem mayWrite_PL_FAIL_CNT (pl : Plane) : closingMayWrite (Reg.PL_FAIL_CNT pl) = true := by cases pl <;> decide
@[simp] theorem mayWrite_status_TOKEN : closingMayWrite (cmdStatus 0x04) = true := by decide
@[simp] theorem mayWrite_status_BIST : closingMayWrite (cmdStatus 0x07) = true := by decide
@[simp] theorem mayWrite_status_CONV : closingMayWrite (cmdStatus 0x15) = true := by decide
@[simp] theorem mayWrite_MTX_RST_CNT_M7 : closingMayWrite (Reg.MTX_RST_CNT_M0 + 28) = true := by decide
@[simp] theorem mayWrite_MTX_LAST_RESET : closingMayWrite Reg.MTX_LAST_RESET = true := by decide
@[simp] theorem mayWrite_status_EPOCH : closingMayWrite (cmdStatus 0x13) = true := by decide

theorem mayWrite_header (page k : Nat) (h : [0x010, 0x01C, 0x020].contains k = true) :
    closingMayWrite (Reg.base page + k) = true := by
  have hk : k = 0x010 ∨ k = 0x01C ∨ k = 0x020 := by simpa using h
  have e : (Reg.base page + k) % 0x1000 = k := by
    unfold Reg.base; omega
  simp only [closingMayWrite, e, h, Bool.or_true, Bool.true_or]

@[simp] theorem mayWrite_cause (page : Nat) : closingMayWrite (Reg.base page + 0x010) = true := mayWrite_header _ _ rfl
@[simp] theorem mayWrite_error (page : Nat) : closingMayWrite (Reg.base page + 0x01C) = true := mayWrite_header _ _ rfl
@[simp] theorem mayWrite_event (page : Nat) : closingMayWrite (Reg.base page + 0x020) = true := mayWrite_header _ _ rfl

@[simp] theorem mayWrite_safeDrop (i : Nat) : closingMayWrite (laneWord i cSAFE_DROP) = true := by
  have e1 : 0x41000 ≤ laneWord i cSAFE_DROP := by unfold laneWord; omega
  have e2 : laneWord i cSAFE_DROP % 0x80 = cSAFE_DROP := by unfold laneWord cSAFE_DROP; omega
  simp [closingMayWrite, e1, e2]

theorem State.kept_congr {s t : State} (h : s.regs = t.regs) : s.kept = t.kept := by
  funext a; unfold State.kept; rw [State.reg_congr h]

variable (s : State)

@[simp] theorem State.setReg_kept (a : Nat) (v : Word) (h : closingMayWrite a = true) : (s.setReg a v).kept = s.kept := by
  funext b
  unfold State.kept
  split
  · rfl
  · exact s.reg_setReg_ne v (by rintro rfl; simp_all)
@[simp] theorem State.count_kept (a : Nat) (h : closingMayWrite a = true) : (s.count a).kept = s.kept := s.setReg_kept a _ h
@[simp] theorem State.happen_kept (a n : Nat) : (s.happen a n).kept = s.kept := rfl
@[simp] theorem State.latest_kept (a k : Nat) (v : Word) (h : closingMayWrite a = true) : (s.latest a k v).kept = s.kept := by
  unfold State.latest; split
  · rfl
  · exact s.setReg_kept a v h
@[simp] theorem State.cause_kept (p i : Nat) : (s.cause p i).kept = s.kept := s.setReg_kept _ _ (mayWrite_cause p)
@[simp] theorem State.enqueue_kept (e : Event) : (s.enqueue e).kept = s.kept := by
  unfold State.enqueue
  split
  · rfl
  · exact (State.kept_congr rfl).trans (s.count_kept _ mayWrite_CHAIN_EVT_DROP_CNT)
@[simp] theorem State.eventOf_kept (n p c a b e : Nat) (l : List Word) : (s.eventOf n p c a b e l).kept = s.kept := by
  unfold State.eventOf; split <;> simp
@[simp] theorem State.eventAt_kept (p c a b e : Nat) (l : List Word) : (s.eventAt p c a b e l).kept = s.kept :=
  s.eventOf_kept 0 p c a b e l
@[simp] theorem State.event_kept (p c : Nat) (l : List Word) : (s.event p c l).kept = s.kept := by simp [State.event]
@[simp] theorem State.outputEvent_kept (c q : Nat) : (s.outputEvent c q).kept = s.kept := by
  simp [State.outputEvent]
@[simp] theorem State.sheepEvent_kept (c : Nat) (l : List Word) : (s.sheepEvent c l).kept = s.kept := by
  simp [State.sheepEvent]
@[simp] theorem State.updElem_kept (e : Nat) (f : Elem → Elem) : (s.updElem e f).kept = s.kept := rfl
@[simp] theorem State.updLp_kept (pl : Plane) (e : Nat) (f : Lp → Lp) : (s.updLp pl e f).kept = s.kept := rfl
@[simp] theorem State.updLps_kept (e : Nat) (f : Lp → Lp) : (s.updLps e f).kept = s.kept := rfl
@[simp] theorem State.markRecorded_kept (pl : Plane) (l : List HoldRec) : (s.markRecorded pl l).kept = s.kept := by
  unfold State.markRecorded
  induction l generalizing s with
  | nil => rfl
  | cons x t ih => rw [List.foldl_cons, ih]; rfl
@[simp] theorem State.updTrans_kept (f : Trans → Trans) : (s.updTrans f).kept = s.kept := rfl
@[simp] theorem State.updDrv_kept (f : Drive → Drive) : (s.updDrv f).kept = s.kept := rfl
@[simp] theorem State.updToken_kept (f : TokenSt → TokenSt) : (s.updToken f).kept = s.kept := rfl
@[simp] theorem State.updSafe_kept (f : SafeSt → SafeSt) : (s.updSafe f).kept = s.kept := rfl
@[simp] theorem State.updDev_kept (f : DevSt → DevSt) : (s.updDev f).kept = s.kept := rfl
@[simp] theorem State.updOsc_kept (f : OscSt → OscSt) : (s.updOsc f).kept = s.kept := rfl
@[simp] theorem State.updEgress_kept (i : Nat) (f : Egress → Egress) : (s.updEgress i f).kept = s.kept := rfl
@[simp] theorem State.setJob_kept (j : Option BistJob) : (s.setJob j).kept = s.kept := rfl
@[simp] theorem State.setLink_kept (p : Port) (l : LinkPort) : (s.setLink p l).kept = s.kept := by cases p <;> rfl
@[simp] theorem State.updPlane_kept (pl : Plane) (f : PlaneRec → PlaneRec) : (s.updPlane pl f).kept = s.kept := by cases pl <;> rfl
@[simp] theorem State.updBist_kept (pl : Plane) (f : BistPlane → BistPlane) : (s.updBist pl f).kept = s.kept := by cases pl <;> rfl

@[simp] theorem State.transmit_kept (p : Port) (op : BitVec 4) (m : BitVec 48) (f : LinkFrame) :
    (s.transmit p op m f).kept = s.kept := by
  unfold State.transmit
  split
  · exact State.kept_congr (by simp)
  · simp
@[simp] theorem State.respond_kept (p : Port) (q : BitVec 16) (t : BitVec 12) (m : BitVec 48) (a : Word) (c : Nat)
    (l : List Word) : (s.respond p q t m a c l).kept = s.kept := by simp [State.respond]
@[simp] theorem State.retire_kept (p : Port) (t : BitVec 12) : (s.retire p t).kept = s.kept := by simp [State.retire]
@[simp] theorem State.answer_kept (o : Order) (c : Nat) (w : Word) : (s.answer o c w).kept = s.kept := by
  unfold State.answer
  split
  · rfl
  · split <;> simp
@[simp] theorem State.completeX_kept (p op c x : Nat) (o : Option Order) (h : closingMayWrite (cmdStatus p) = true) :
    (s.completeX p op c x o).kept = s.kept := by
  unfold State.completeX; split <;> split <;> simp [h]
@[simp] theorem State.complete_kept (p op c : Nat) (o : Order) (h : closingMayWrite (cmdStatus p) = true) :
    (s.complete p op c o).kept = s.kept := by simp [State.complete, h]

/-- What every step of a fold keeps, the fold keeps. -/
theorem foldl_kept {α : Type} (f : State → α → State) (h : ∀ s x, (f s x).kept = s.kept) (l : List α) (s : State) :
    (l.foldl f s).kept = s.kept := by
  induction l generalizing s with
  | nil => rfl
  | cons x t ih => rw [List.foldl_cons, ih, h]

theorem State.each_kept (l : List Nat) (f : State → Nat → State) (h : ∀ s x, (f s x).kept = s.kept) :
    (s.each l f).kept = s.kept := foldl_kept f h l s

@[simp] theorem State.setCode_kept (e c : Nat) : (s.setCode e c).kept = s.kept := rfl
@[simp] theorem State.fresh_kept (e : Nat) : (s.fresh e).kept = s.kept := by
  simp [State.fresh, State.freshOn]
@[simp] theorem State.setSt_kept (e : Nat) (st : ElSt) : (s.setSt e st).kept = s.kept := by
  unfold State.setSt; simp only; split <;> simp
@[simp] theorem State.enterHold_kept (e c : Nat) (d : HoldDrive) : (s.enterHold e c d).kept = s.kept := by
  simp [State.enterHold]
@[simp] theorem State.enterRamp_kept (e : Nat) : (s.enterRamp e).kept = s.kept := by simp [State.enterRamp]
@[simp] theorem State.blank_kept (e : Nat) : (s.blank e).kept = s.kept := by
  unfold State.blank; split <;> simp
@[simp] theorem State.unblank_kept (e : Nat) : (s.unblank e).kept = s.kept := by
  unfold State.unblank; split <;> simp
@[simp] theorem State.park_kept (e : Nat) : (s.park e).kept = s.kept := by unfold State.park; split <;> simp
@[simp] theorem State.updPair_kept (pl : Plane) (t : Nat) (f : Pair → Pair) : (s.updPair pl t f).kept = s.kept := rfl
@[simp] theorem State.beginRounds_kept (pl : Plane) (t : Nat) : (s.beginRounds pl t).kept = s.kept := by
  unfold State.beginRounds; split <;> simp
@[simp] theorem State.beginIdle_kept (pl : Plane) (t : Nat) : (s.beginIdle pl t).kept = s.kept := by
  unfold State.beginIdle; simp only; split <;> simp
@[simp] theorem State.holdTile_kept (t : Nat) : (s.holdTile t).kept = s.kept := by
  have held : ∀ (x : State) (l : List Nat), State.kept { x with trans := { x.trans with held := l } } = x.kept := fun _ _ => rfl
  unfold State.holdTile
  simp only [State.beginIdle_kept, held]
  split <;> simp
@[simp] theorem State.handOver_kept (e : Nat) : (s.handOver e).kept = s.kept := by simp [State.handOver]
@[simp] theorem State.stepElem_kept (e : Nat) : (s.stepElem e).kept = s.kept := by
  unfold State.stepElem; split <;> simp
@[simp] theorem State.kickElem_kept (e : Nat) : (s.kickElem e).kept = s.kept := by
  unfold State.kickElem; simp only; split
  · simp
  · split <;> simp

@[simp] theorem State.nextWaves_kept (w : List (List Nat)) : (s.nextWaves w).kept = s.kept := by
  induction w generalizing s with
  | nil => rfl
  | cons x t ih =>
    unfold State.nextWaves
    split
    · rfl
    · rw [ih]; exact State.each_kept _ _ _ fun s x => s.kickElem_kept x

@[simp] theorem State.parkCells_kept : s.parkCells.kept = s.kept :=
  State.each_kept _ _ _ fun s _ => foldl_kept _ (fun s e => by split <;> simp) _ s

@[simp] theorem State.foldOffsets_kept : s.foldOffsets.kept = s.kept := by
  unfold State.foldOffsets
  simp only [State.updTrans_kept]
  exact foldl_kept _ (fun s x => by simp) _ _

@[simp] theorem State.endTransition_kept : s.endTransition.kept = s.kept := by
  unfold State.endTransition; simp only; split <;> simp

@[simp] theorem State.checkEnd_kept : s.checkEnd.kept = s.kept := by
  unfold State.checkEnd; simp only; repeat' split
  all_goals simp

@[simp] theorem State.unblankCircuit_kept (q : Nat) : (s.unblankCircuit q).kept = s.kept := by
  unfold State.unblankCircuit; split <;> simp

@[simp] theorem State.lateUnblank_kept (q : Nat) : (s.lateUnblank q).kept = s.kept := by simp [State.lateUnblank]

@[simp] theorem State.checkSettled_kept : s.checkSettled.kept = s.kept := by
  unfold State.checkSettled
  split
  · rfl
  · simp only [State.checkEnd_kept]
    rw [State.each_kept _ _ _ fun s q => by simp, State.each_kept _ _ _ fun s q => by split <;> simp]

@[simp] theorem State.updCell_kept (c : Nat) (f : CellRec → CellRec) : (s.updCell c f).kept = s.kept := rfl
@[simp] theorem State.startTransition_kept (m : CMap) : (s.startTransition m).kept = s.kept := by
  unfold State.startTransition
  simp only [State.checkSettled_kept]
  rw [State.each_kept _ _ _ fun s c => by simp, foldl_kept _ (fun s e => by simp),
    State.each_kept _ _ _ fun s e => by simp, State.each_kept _ _ _ fun s e => by simp]
  rfl

@[simp] theorem State.waveStart_kept : s.waveStart.kept = s.kept := by simp [State.waveStart]

@[simp] theorem State.transSafe_kept : s.transSafe.kept = s.kept := by
  have hold : ∀ (s : State) (e : Nat) (P : Prop) [Decidable P],
      (if s.scFault e then s
        else (if P then s.setCode e (s.targetCode e (s.actCell (e / 2))) else s).enterHold e 3 .loop).kept = s.kept := by
    intro s e P _; split
    · rfl
    · split <;> simp
  have park : ∀ (s : State) (P : Prop) [Decidable P], (if P then s.parkCells else s).kept = s.kept := by
    intro s P _; split <;> simp
  unfold State.transSafe
  simp only [State.checkEnd_kept, State.nextWaves_kept, State.updTrans_kept]
  rw [State.each_kept _ _ _ fun s q => by
    split
    · rfl
    · exact foldl_kept _ (fun s e => by simp) _ _]
  split
  · simp only [State.sheepEvent_kept, State.cause_kept, State.count_kept, State.updTrans_kept, mayWrite_SHEEP_ABANDON_CNT]
    rw [State.each_kept _ _ _ fun s e => (hold _ _ True).trans (hold s e True),
      State.each_kept _ _ _ fun s e => hold s e True, park]
  · rfl

@[simp] theorem State.safeFreeze_kept : s.safeFreeze.kept = s.kept := by
  unfold State.safeFreeze
  simp only
  rw [foldl_kept _ (fun s c => by simp)]
  simp only [State.updDrv_kept]
  rw [State.each_kept _ _ _ fun s c => foldl_kept _ (fun s e => by
    split
    · split <;> simp
    · rfl) _ _]
  simp

@[simp] theorem State.conflict_kept (k a b c d i : Nat) : (s.conflict k a b c d i).kept = s.kept := by
  have h : ((s.count Reg.EPOCH_CONFLICT_CNT).cause 0x13 1).kept = s.kept := by simp
  unfold State.conflict; simp only; split <;> rw [State.eventAt_kept] <;> exact (State.kept_congr rfl).trans h
@[simp] theorem State.endHeld_kept (h : Held) (c : Nat) : (s.endHeld h c).kept = s.kept := by
  unfold State.endHeld
  rw [foldl_kept _ (fun s x => by simp [State.epochDone])]
  simp [State.epochDone]
theorem State.epoch_kept (x : EpochSt) : State.kept { s with epoch := x } = s.kept := rfl
@[simp] theorem State.lastOut_kept (k : Nat) : (s.lastOut k).kept = s.kept := rfl
@[simp] theorem State.discard_kept (c : Nat) : (s.discard c).kept = s.kept := by
  unfold State.discard
  exact (State.epoch_kept _ _).trans (by simp)
@[simp] theorem State.discardSafe_kept (b : Bool) : (s.discardSafe b).kept = s.kept := by
  unfold State.discardSafe
  split
  · rfl
  · simp only
    split
    · simp
    · split <;> simp


@[simp] theorem State.safeCheck_kept : s.safeCheck.kept = s.kept := by
  unfold State.safeCheck
  split
  · rfl
  · simp only [State.event_kept, State.cause_kept, State.count_kept, mayWrite_TOKEN_SAFE_CNT,
      State.discardSafe_kept]
    split <;> simp

@[simp] theorem State.safeFollow_kept : s.safeFollow.kept = s.kept := by simp [State.safeFollow]

@[simp] theorem State.noteHolds_kept (old : State) : (State.noteHolds old s).kept = s.kept := by
  unfold State.noteHolds
  split
  · split
    · rfl
    · simp only; split <;> simp
  · rfl
@[simp] theorem State.noteHealth_kept (old : State) (pl : Plane) : (State.noteHealth old s pl).kept = s.kept := by
  unfold State.noteHealth; split <;> simp

@[simp] theorem State.frameDone_kept (p : Port) (q : BitVec 16) (r : Reply) (c : Nat) : (s.frameDone p q r c).kept = s.kept := by
  unfold State.frameDone; simp only; repeat' split
  all_goals simp
@[simp] theorem State.hostCopy_kept (n : Option Nat) (c : Nat) : (s.hostCopy n c).kept = s.kept := by
  unfold State.hostCopy
  split
  · rfl
  · simp only; split <;> split <;> simp
@[simp] theorem State.laneBump_kept (i : Nat) : (s.laneBump i cSAFE_DROP).kept = s.kept := by simp [State.laneBump]
@[simp] theorem State.discardFrames_kept : s.discardFrames.kept = s.kept := by
  unfold State.discardFrames
  simp only
  rw [foldl_kept _ (fun s x => by simp), State.updOsc_kept,
    foldl_kept _ (fun s x => by
      unfold State.discardLane
      simp only
      rw [foldl_kept _ (fun s x => by simp), State.updEgress_kept])]
@[simp] theorem State.noteSafe_kept (old : State) : (State.noteSafe old s).kept = s.kept := by
  unfold State.noteSafe; split <;> simp
@[simp] theorem State.noteDefer_kept : s.noteDefer.kept = s.kept := by
  unfold State.noteDefer
  split
  · exact (State.kept_congr rfl).trans (s.count_kept _ mayWrite_THM_DEFER_CNT)
  · rfl
@[simp] theorem State.bistEvent_kept (c : Nat) (l : List Nat) : (s.bistEvent c l).kept = s.kept := by
  unfold State.bistEvent; split <;> simp
@[simp] theorem State.clearGrant_kept : s.clearGrant.kept = s.kept := by
  unfold State.clearGrant
  split
  · rfl
  · simp only; repeat' split
    all_goals simp
@[simp] theorem State.runDone_kept (c : Nat) (o : Order) : (s.runDone c o).kept = s.kept := by
  simp [State.runDone]
@[simp] theorem State.noteLock_kept : s.noteLock.kept = s.kept := by unfold State.noteLock; split <;> simp
@[simp] theorem State.holdCheck_kept : s.holdCheck.kept = s.kept := by
  unfold State.holdCheck State.enterHoldState; split <;> simp

@[simp] theorem State.fence_kept (c : Nat) : (s.fence c).kept = s.kept := by
  unfold State.fence
  split
  · rfl
  · simp only [State.tokenSignal]; repeat' split
    all_goals simp
@[simp] theorem State.restartDone_kept (pl : Plane) (c : Nat) : (s.restartDone pl c).kept = s.kept := by
  unfold State.restartDone; split <;> simp
@[simp] theorem State.planeFails_kept (pl : Plane) (b : Bool) (ty t sl c : Nat) :
    (s.planeFails pl b ty t sl c).kept = s.kept := by
  unfold State.planeFails; simp only [State.bistEvent_kept, State.cause_kept, State.count_kept,
    mayWrite_BIST_FAIL_CNT]
  cases pl <;> simp only <;> split <;> simp
@[simp] theorem State.noteSlice_kept (pl : Plane) (a f : Bool) (ty c t : Nat) : (s.noteSlice pl a f ty c t).kept = s.kept := by
  simp [State.noteSlice]
@[simp] theorem State.masterReset_kept (b : Option Nat) : (s.masterReset 7 b).kept = s.kept := by
  unfold State.masterReset State.burstCut; split <;> simp
@[simp] theorem State.newPass_kept (pl : Plane) (t : Nat) : (s.newPass pl t).kept = s.kept := by simp [State.newPass]
@[simp] theorem State.restartPair_kept (pl : Plane) (t : Nat) : (s.restartPair pl t).kept = s.kept := by
  simp [State.restartPair]
@[simp] theorem State.restartSeq_kept (pl : Plane) : (s.restartSeq pl).kept = s.kept :=
  State.each_kept _ _ _ fun s t => by simp
@[simp] theorem State.calStart_kept (pl : Plane) : (s.calStart pl).kept = s.kept := rfl
@[simp] theorem State.calAbort_kept (pl : Plane) : (s.calAbort pl).kept = s.kept := by
  unfold State.calAbort
  split
  · rfl
  · simp only
    split
    · exact (State.restartSeq_kept _ _).trans rfl
    · rw [State.complete_kept _ _ _ _ _ mayWrite_status_CONV]; exact (State.restartSeq_kept _ _).trans rfl
@[simp] theorem State.planeDown_kept (pl : Plane) (st : PlaneSt) (c : Nat) : (s.planeDown pl st c).kept = s.kept := by
  unfold State.planeDown; simp only; split <;> simp
@[simp] theorem State.startFails_kept (pl : Plane) : (s.planeStartDone pl false).kept = s.kept := by
  unfold State.planeStartDone; simp only; split <;> simp
@[simp] theorem State.jobNext_kept (pl : Plane) (n : Nat) : (s.jobNext pl n).kept = s.kept := by
  unfold State.jobNext
  split
  · rfl
  · simp only; split <;> simp
@[simp] theorem State.nextRun_kept (pl : Plane) (n : Nat) : (s.nextRun pl n).kept = s.kept := by
  unfold State.nextRun; simp only; repeat' split
  all_goals simp
@[simp] theorem State.endRun_kept (pl : Plane) : (s.endRun pl).kept = s.kept := by
  unfold State.endRun
  cases pl <;> simp only <;> (repeat' split) <;> simp
@[simp] theorem State.restoreTile_kept (pl : Plane) (t : Nat) : (s.restoreTile pl t).kept = s.kept := by
  unfold State.restoreTile; split <;> simp
@[simp] theorem State.sliceAbort_kept (pl : Plane) (c : Nat) : (s.sliceAbort pl c).kept = s.kept := by
  unfold State.sliceAbort State.sliceDrop State.passTile
  split
  · rfl
  · split
    · simp
    · simp only; repeat' split
      all_goals simp
@[simp] theorem State.followBistOn_kept (old : State) (pl : Plane) : (s.followBistOn old pl).kept = s.kept := by
  unfold State.followBistOn
  extract_lets held cal s1 a b s2 s3
  have e1 : s1.kept = s.kept := by
    simp only [s1]
    split
    · rfl
    · repeat' split
      all_goals simp
  have e2 : s2.kept = s1.kept := by simp only [s2]; split <;> simp
  have e3 : s3.kept = s2.kept := by
    simp only [s3]
    split
    · cases pl <;> simp
    · rfl
  have e : s3.kept = s.kept := e3.trans (e2.trans e1)
  split
  · exact e
  · split
    · exact e
    · simpa using e
@[simp] theorem State.followBist_kept (old : State) : (s.followBist old).kept = s.kept := by simp [State.followBist]

/-- What follows from a command keeps the kept part of the state. -/
@[simp] theorem State.follow_kept (old : State) : (State.follow old s).kept = s.kept := by simp [State.follow]

@[simp] theorem State.noteInt_kept : s.noteInt.kept = s.kept := by
  have h : ∀ (x : State) (b : Bool), State.kept { x with nint := b } = x.kept := fun _ _ => rfl
  unfold State.noteInt
  simp only [h]
  split <;> simp

@[simp] theorem State.noteDrives_kept (old : State) : (State.noteDrives old s).kept = s.kept := by
  unfold State.noteDrives; split <;> simp

/-- The closing of a command, with a feed valid and no request waiting at the ports, writes no register but those of
`closingMayWrite`. -/
theorem State.finish_kept (old : State) (hv : s.pla.valid = true ∨ s.plb.valid = true) (hw : s.NoneWaiting) :
    (State.finish old s).kept = s.kept := by
  have tail : ∀ x : State, x.hush = s.hush → x.kept = s.kept → (State.noteDrives old x.drain).noteInt.kept = s.kept := by
    intro x hx hk
    rw [State.drain_eq x (State.noneWaiting_congr x hx hw), State.noteInt_kept, State.noteDrives_kept, hk]
  have p : s.powerCheck.hush = s.hush := State.hush_of_calm (s.powerCheck_calm hv)
  have k : s.powerCheck.kept = s.kept := by
    rcases s.powerCheck_valid hv with h | h
    · rw [h]
    · exact (congrArg State.kept h).trans rfl
  unfold State.finish
  simp only
  split
  · exact tail _ (by simp [p]) (by simp [k])
  · exact tail _ p k

/-- A register outside `closingMayWrite` reads after the closing as it did before. -/
theorem State.finish_reg (old : State) (hv : s.pla.valid = true ∨ s.plb.valid = true) (hw : s.NoneWaiting) {a : Nat}
    (h : closingMayWrite a = false) : (State.finish old s).reg a = s.reg a := by
  generalize hx : State.finish old s = x
  have k : x.kept = s.kept := by rw [← hx]; exact s.finish_kept old hv hw
  have e := congrFun k a
  unfold State.kept at e
  rwa [h, if_neg Bool.false_ne_true, if_neg Bool.false_ne_true] at e

/-- A register outside `closingMayWrite` reads in the next state as it did right after the command's own effect. -/
theorem State.seal_reg (dt : Nat) (u : State) (hv : u.pla.valid = true ∨ u.plb.valid = true) (hw : u.NoneWaiting) {a : Nat}
    (h : closingMayWrite a = false) : (s.seal dt u).reg a = u.reg a := by
  have k := u.finish_reg (s.advance dt) hv hw h
  unfold State.seal
  generalize State.finish (s.advance dt) u = x at k ⊢
  exact k

end Sys2Proof.Machine
end

