-- ==== Sys2Proof/Laws/Exec.lean ====
section
/-!
SUPPORT. What every command is: an effect of its own, dt after the command before it, closed by what follows.
-/

namespace Sys2Proof.Machine

/-- Every command is `runAny` of some effect. -/
theorem exec_runAny (c : Instr) (s : State) : ∃ dt f, exec c s = s.runAny dt f := by
  cases c with
  | connect => unfold exec execConnect State.runCmd; exact ⟨_, _, rfl⟩
  | connectObj => unfold exec execConnectObj State.runCmd; exact ⟨_, _, rfl⟩
  | release => unfold exec execRelease State.runCmd; exact ⟨_, _, rfl⟩
  | duplex => unfold exec execDuplex State.runCmd; exact ⟨_, _, rfl⟩
  | pin => unfold exec execPin State.runCmd; exact ⟨_, _, rfl⟩
  | unpin => unfold exec execUnpin State.runCmd; exact ⟨_, _, rfl⟩
  | solveIncr => unfold exec execSolveIncr State.runCmd; exact ⟨_, _, rfl⟩
  | solveFull => unfold exec execSolveFull State.runCmd; exact ⟨_, _, rfl⟩
  | directMap => unfold exec execDirectMap State.runCmd; exact ⟨_, _, rfl⟩
  | clearStage => unfold exec execClearStage State.runCmd; exact ⟨_, _, rfl⟩
  | solveDone => unfold exec execSolveDone State.run; exact ⟨_, _, rfl⟩
  | prepare => unfold exec execPrepare State.runCmd; exact ⟨_, _, rfl⟩
  | prepareDone => unfold exec execPrepareDone State.run; exact ⟨_, _, rfl⟩
  | commitNow => unfold exec execCommitNow State.runCmd; exact ⟨_, _, rfl⟩
  | commitAt => unfold exec execCommitAt State.runCmd; exact ⟨_, _, rfl⟩
  | abort => unfold exec execAbort State.runCmd; exact ⟨_, _, rfl⟩
  | prestage => unfold exec execPrestage State.runCmd; exact ⟨_, _, rfl⟩
  | leaseExpiry => unfold exec execLeaseExpiry State.run; exact ⟨_, _, rfl⟩
  | scheduledTimeReached => unfold exec execScheduledTimeReached State.run; exact ⟨_, _, rfl⟩
  | commit => unfold exec execCommit State.run; exact ⟨_, _, rfl⟩
  | restoreCommit => unfold exec execRestoreCommit State.run; exact ⟨_, _, rfl⟩
  | kickEnd => unfold exec execKickEnd State.run; exact ⟨_, _, rfl⟩
  | settleTimeout => unfold exec execSettleTimeout State.run; exact ⟨_, _, rfl⟩
  | arrivalInjection => unfold exec execArrivalInjection State.run; exact ⟨_, _, rfl⟩
  | loopUpdate => unfold exec execLoopUpdate State.run; exact ⟨_, _, rfl⟩
  | elementTableWrite => unfold exec execElementTableWrite State.run; exact ⟨_, _, rfl⟩
  | cellTableWrite => unfold exec execCellTableWrite State.run; exact ⟨_, _, rfl⟩
  | warmAll => unfold exec execWarmAll State.run; exact ⟨_, _, rfl⟩
  | hold => unfold exec execHold State.runCmd; exact ⟨_, _, rfl⟩
  | resume => unfold exec execResume State.runCmd; exact ⟨_, _, rfl⟩
  | clearFault => unfold exec execClearFault State.runCmd; exact ⟨_, _, rfl⟩
  | setPer => unfold exec execSetPer State.runCmd; exact ⟨_, _, rfl⟩
  | arm => unfold exec execArm State.runCmd; exact ⟨_, _, rfl⟩
  | stop => unfold exec execStop State.runCmd; exact ⟨_, _, rfl⟩
  | trigger => unfold exec execTrigger State.runCmd; exact ⟨_, _, rfl⟩
  | clear => unfold exec execClear State.runCmd; exact ⟨_, _, rfl⟩
  | conversionSlot => unfold exec execConversionSlot State.run; exact ⟨_, _, rfl⟩
  | injectionRequest => unfold exec execInjectionRequest State.run; exact ⟨_, _, rfl⟩
  | injectionComplete => unfold exec execInjectionComplete State.run; exact ⟨_, _, rfl⟩
  | inject => unfold exec execInject State.runCmd; exact ⟨_, _, rfl⟩
  | selfCal => unfold exec execSelfCal State.runCmd; exact ⟨_, _, rfl⟩
  | calDone => unfold exec execCalDone State.run; exact ⟨_, _, rfl⟩
  | haccStart => unfold exec execHaccStart State.runCmd; exact ⟨_, _, rfl⟩
  | haccStop => unfold exec execHaccStop State.runCmd; exact ⟨_, _, rfl⟩
  | haccDone => unfold exec execHaccDone State.run; exact ⟨_, _, rfl⟩
  | ringCalibration => unfold exec execRingCalibration State.run; exact ⟨_, _, rfl⟩
  | tileTableWrite => unfold exec execTileTableWrite State.run; exact ⟨_, _, rfl⟩
  | setRange => unfold exec execSetRange State.runCmd; exact ⟨_, _, rfl⟩
  | sync => unfold exec execSync State.runCmd; exact ⟨_, _, rfl⟩
  | fwWrite => unfold exec execFwWrite State.run; exact ⟨_, _, rfl⟩
  | deglitchHoldEnd => unfold exec execDeglitchHoldEnd State.run; exact ⟨_, _, rfl⟩
  | drvSc => unfold exec execDrvSc State.run; exact ⟨_, _, rfl⟩
  | scFlagClear => unfold exec execScFlagClear State.run; exact ⟨_, _, rfl⟩
  | nclrFall => unfold exec execNclrFall; exact ⟨_, _, rfl⟩
  | nclrRise => unfold exec execNclrRise; exact ⟨_, _, rfl⟩
  | inputVoaRelease => unfold exec execInputVoaRelease State.run; exact ⟨_, _, rfl⟩
  | relightTimeout => unfold exec execRelightTimeout State.run; exact ⟨_, _, rfl⟩
  | feedValid => unfold exec execFeedValid; exact ⟨_, _, rfl⟩
  | feedInvalid => unfold exec execFeedInvalid; exact ⟨_, _, rfl⟩
  | planeFaultDetect => unfold exec execPlaneFaultDetect; exact ⟨_, _, rfl⟩
  | leaseRenewal => unfold exec execLeaseRenewal State.run; exact ⟨_, _, rfl⟩
  | aliveMark => unfold exec execAliveMark State.run; exact ⟨_, _, rfl⟩
  | leaseEnd => unfold exec execLeaseEnd State.run; exact ⟨_, _, rfl⟩
  | heartbeat => unfold exec execHeartbeat State.run; exact ⟨_, _, rfl⟩
  | heartbeatMiss => unfold exec execHeartbeatMiss State.run; exact ⟨_, _, rfl⟩
  | tokenGrant => unfold exec execTokenGrant State.run; exact ⟨_, _, rfl⟩
  | tokenFree => unfold exec execTokenFree State.run; exact ⟨_, _, rfl⟩
  | fencedCheckEnd => unfold exec execFencedCheckEnd State.run; exact ⟨_, _, rfl⟩
  | planeStartDone => unfold exec execPlaneStartDone State.run; exact ⟨_, _, rfl⟩
  | regulatorWarn => unfold exec execRegulatorWarn State.run; exact ⟨_, _, rfl⟩
  | regWarnClear => unfold exec execRegWarnClear State.run; exact ⟨_, _, rfl⟩
  | autoHandover => unfold exec execAutoHandover State.run; exact ⟨_, _, rfl⟩
  | handover => unfold exec execHandover State.runCmd; exact ⟨_, _, rfl⟩
  | planeRestart => unfold exec execPlaneRestart State.runCmd; exact ⟨_, _, rfl⟩
  | resync => unfold exec execResync State.runCmd; exact ⟨_, _, rfl⟩
  | safeEnter => unfold exec execSafeEnter State.runCmd; exact ⟨_, _, rfl⟩
  | safeExit => unfold exec execSafeExit State.runCmd; exact ⟨_, _, rfl⟩
  | nsafeHoldFall => unfold exec execNsafeHoldFall; exact ⟨_, _, rfl⟩
  | nsafeHoldRise => unfold exec execNsafeHoldRise; exact ⟨_, _, rfl⟩
  | laserFail => unfold exec execLaserFail State.run; exact ⟨_, _, rfl⟩
  | retry => unfold exec execRetry State.runCmd; exact ⟨_, _, rfl⟩
  | retryEnd => unfold exec execRetryEnd State.run; exact ⟨_, _, rfl⟩
  | laneLinkUp => unfold exec execLaneLinkUp State.run; exact ⟨_, _, rfl⟩
  | laneLinkDown => unfold exec execLaneLinkDown State.run; exact ⟨_, _, rfl⟩
  | frameReceive => unfold exec execFrameReceive State.run; exact ⟨_, _, rfl⟩
  | queueAdmission => unfold exec execQueueAdmission State.run; exact ⟨_, _, rfl⟩
  | transmitStart => unfold exec execTransmitStart State.run; exact ⟨_, _, rfl⟩
  | transmitEnd => unfold exec execTransmitEnd State.run; exact ⟨_, _, rfl⟩
  | hostFrameDelivery => unfold exec execHostFrameDelivery State.run; exact ⟨_, _, rfl⟩
  | floodApply => unfold exec execFloodApply State.runCmd; exact ⟨_, _, rfl⟩
  | laneCfgWrite => unfold exec execLaneCfgWrite State.run; exact ⟨_, _, rfl⟩
  | sweepVisit => unfold exec execSweepVisit State.run; exact ⟨_, _, rfl⟩
  | search => unfold exec execSearch State.runCmd; exact ⟨_, _, rfl⟩
  | next => unfold exec execNext State.runCmd; exact ⟨_, _, rfl⟩
  | flushLane => unfold exec execFlushLane State.runCmd; exact ⟨_, _, rfl⟩
  | flushDone => unfold exec execFlushDone State.run; exact ⟨_, _, rfl⟩
  | insertStatic => unfold exec execInsertStatic State.runCmd; exact ⟨_, _, rfl⟩
  | delete => unfold exec execDelete State.runCmd; exact ⟨_, _, rfl⟩
  | shaperWrite => unfold exec execShaperWrite State.run; exact ⟨_, _, rfl⟩
  | copy => unfold exec execCopy State.runCmd; exact ⟨_, _, rfl⟩
  | gateApply => unfold exec execGateApply State.runCmd; exact ⟨_, _, rfl⟩
  | gateCancel => unfold exec execGateCancel State.runCmd; exact ⟨_, _, rfl⟩
  | gateSwitch => unfold exec execGateSwitch State.run; exact ⟨_, _, rfl⟩
  | gateEntryBoundary => unfold exec execGateEntryBoundary State.run; exact ⟨_, _, rfl⟩
  | setTime => unfold exec execSetTime State.runCmd; exact ⟨_, _, rfl⟩
  | acceptStep => unfold exec execAcceptStep State.runCmd; exact ⟨_, _, rfl⟩
  | acceptPath => unfold exec execAcceptPath State.runCmd; exact ⟨_, _, rfl⟩
  | servoReset => unfold exec execServoReset State.runCmd; exact ⟨_, _, rfl⟩
  | announceTimeout => unfold exec execAnnounceTimeout State.run; exact ⟨_, _, rfl⟩
  | ptpMessageSend => unfold exec execPtpMessageSend State.run; exact ⟨_, _, rfl⟩
  | trefLoss => unfold exec execTrefLoss State.run; exact ⟨_, _, rfl⟩
  | trefRestore => unfold exec execTrefRestore State.run; exact ⟨_, _, rfl⟩
  | ppsInEdge => unfold exec execPpsInEdge State.run; exact ⟨_, _, rfl⟩
  | ppsInMiss => unfold exec execPpsInMiss State.run; exact ⟨_, _, rfl⟩
  | noPps => unfold exec execNoPps State.run; exact ⟨_, _, rfl⟩
  | ppsOutPulse => unfold exec execPpsOutPulse State.run; exact ⟨_, _, rfl⟩
  | ppsOutWidthEnd => unfold exec execPpsOutWidthEnd State.run; exact ⟨_, _, rfl⟩
  | ehrLinkUp => unfold exec execEhrLinkUp; exact ⟨_, _, rfl⟩
  | ehrLinkDown => unfold exec execEhrLinkDown; exact ⟨_, _, rfl⟩
  | hiBer => unfold exec execHiBer; exact ⟨_, _, rfl⟩
  | fecUncorr => unfold exec execFecUncorr; exact ⟨_, _, rfl⟩
  | read => unfold exec execRead; exact ⟨_, _, rfl⟩
  | write => unfold exec execWrite; exact ⟨_, _, rfl⟩
  | writePosted => unfold exec execWritePosted; exact ⟨_, _, rfl⟩
  | rmw => unfold exec execRmw; exact ⟨_, _, rfl⟩
  | command => unfold exec execCommand; exact ⟨_, _, rfl⟩
  | frame => unfold exec execFrame; exact ⟨_, _, rfl⟩
  | enumAssign => unfold exec execEnumAssign; exact ⟨_, _, rfl⟩
  | enumFinal => unfold exec execEnumFinal; exact ⟨_, _, rfl⟩
  | ping => unfold exec execPing; exact ⟨_, _, rfl⟩
  | invalidOpcode => unfold exec execInvalidOpcode; exact ⟨_, _, rfl⟩
  | forward => unfold exec execForward; exact ⟨_, _, rfl⟩
  | eventSend => unfold exec execEventSend; exact ⟨_, _, rfl⟩
  | chainReset => unfold exec execChainReset State.runCmd; exact ⟨_, _, rfl⟩
  | masterReset => unfold exec execMasterReset State.runCmd; exact ⟨_, _, rfl⟩
  | mtxParkWrite => unfold exec execMtxParkWrite State.run; exact ⟨_, _, rfl⟩
  | ehrCfgWrite => unfold exec execEhrCfgWrite State.run; exact ⟨_, _, rfl⟩
  | registerWrite => unfold exec execRegisterWrite State.run; exact ⟨_, _, rfl⟩
  | snapshotRead => unfold exec execSnapshotRead State.run; exact ⟨_, _, rfl⟩
  | multiwordWrite => unfold exec execMultiwordWrite State.run; exact ⟨_, _, rfl⟩
  | intForce => unfold exec execIntForce State.run; exact ⟨_, _, rfl⟩
  | pageSoftReset => unfold exec execPageSoftReset State.run; exact ⟨_, _, rfl⟩
  | tempSample => unfold exec execTempSample; exact ⟨_, _, rfl⟩
  | pwrLimit => unfold exec execPwrLimit State.run; exact ⟨_, _, rfl⟩
  | bulkEvaluation => unfold exec execBulkEvaluation State.run; exact ⟨_, _, rfl⟩
  | bulkRelease => unfold exec execBulkRelease State.run; exact ⟨_, _, rfl⟩
  | thmLevelWrite => unfold exec execThmLevelWrite State.run; exact ⟨_, _, rfl⟩
  | pwrModeWrite => unfold exec execPwrModeWrite State.run; exact ⟨_, _, rfl⟩
  | sliceStart => unfold exec execSliceStart State.run; exact ⟨_, _, rfl⟩
  | sliceEnd => unfold exec execSliceEnd State.run; exact ⟨_, _, rfl⟩
  | sliceBudgetEnd => unfold exec execSliceBudgetEnd State.run; exact ⟨_, _, rfl⟩
  | run => unfold exec execRun State.runCmd; exact ⟨_, _, rfl⟩
  | wipe => unfold exec execWipe State.runCmd; exact ⟨_, _, rfl⟩
  | wipeDone => unfold exec execWipeDone State.run; exact ⟨_, _, rfl⟩
  | record => unfold exec execRecord State.runCmd; exact ⟨_, _, rfl⟩
  | journalRecordStart => unfold exec execJournalRecordStart State.run; exact ⟨_, _, rfl⟩
  | journalRecordEnd => unfold exec execJournalRecordEnd State.run; exact ⟨_, _, rfl⟩
  | autoRestoreWrite => unfold exec execAutoRestoreWrite State.run; exact ⟨_, _, rfl⟩
  | nresetFall => unfold exec execNresetFall; exact ⟨_, _, rfl⟩
  | nresetRise => unfold exec execNresetRise; exact ⟨_, _, rfl⟩
  | resetEnd => unfold exec execResetEnd; exact ⟨_, _, rfl⟩
  | fuseLoadDone => unfold exec execFuseLoadDone State.run; exact ⟨_, _, rfl⟩
  | tableWipeEnd => unfold exec execTableWipeEnd State.run; exact ⟨_, _, rfl⟩
  | laserWarmupEnd => unfold exec execLaserWarmupEnd State.run; exact ⟨_, _, rfl⟩
  | lockLate => unfold exec execLockLate State.run; exact ⟨_, _, rfl⟩
  | ready => unfold exec execReady State.run; exact ⟨_, _, rfl⟩
  | returnArm => unfold exec execReturnArm State.runCmd; exact ⟨_, _, rfl⟩
  | returnCommit => unfold exec execReturnCommit State.runCmd; exact ⟨_, _, rfl⟩
  | returnArmExpiry => unfold exec execReturnArmExpiry State.run; exact ⟨_, _, rfl⟩
  | returnMarkerDone => unfold exec execReturnMarkerDone State.run; exact ⟨_, _, rfl⟩
  | pcsSynchronised => unfold exec execPcsSynchronised State.run; exact ⟨_, _, rfl⟩
  | blockLock => unfold exec execBlockLock; exact ⟨_, _, rfl⟩
  | lossOfSignal => unfold exec execLossOfSignal State.run; exact ⟨_, _, rfl⟩
  | timeBasePllLock => unfold exec execTimeBasePllLock State.run; exact ⟨_, _, rfl⟩
  | backwardSlewEnd => unfold exec execBackwardSlewEnd State.run; exact ⟨_, _, rfl⟩
  | ditherTick => unfold exec execDitherTick State.run; exact ⟨_, _, rfl⟩
  | testAccessPort => unfold exec execTestAccessPort; exact ⟨_, _, rfl⟩

/-- A next state is closed by what follows from the command's effect. -/
theorem exec_next_seal {c : Instr} {s t : State} (h : exec c s = .next t) : ∃ dt u, t = s.seal dt u := by
  obtain ⟨dt, f, e⟩ := exec_runAny c s
  rw [e] at h
  unfold State.runAny at h
  split at h
  · cases h
  · cases h
    exact ⟨_, _, rfl⟩

end Sys2Proof.Machine
end

