-- ==== Sys2Proof/WellFormed.lean ====
section
/-!
DEFINITION. Which commands are well formed: operands the wire or the measuring circuit can carry (R207, R278, R279, R296,
R315, R316, R326, R344). The machine's meaning does not depend on it; the queue of a real device holds only such commands.
-/

namespace Sys2Proof

/-- A link frame: a payload of at most 352 words (R278). -/
def LinkFrame.wf (f : LinkFrame) : Bool := decide (f.payload.length ≤ 352)

/-- Is an opcode one that no host sends or that is not assigned (R279)? -/
def invalidOp (op : BitVec 4) : Bool := op == 5 || op == 6 || decide (10 ≤ op.toNat)

/-- The well-formed commands. -/
def Instr.wf : Instr → Bool
  | .injectionRequest _ _ _ who chan _ _ _ => who != .sheep || decide (chan.val < 16)
  | .calDone _ _ l => decide (l.length ≤ 4864)
  | .ringCalibration _ _ l => decide (l.length ≤ 608)
  | .sliceEnd _ _ l => decide (l.length ≤ 24)
  | .fuseLoadDone _ c u => c.all (fun w => !(u.contains w))
  | .frameReceive _ _ f => decide (f.octets.length ≤ 65535)
  | .tempSample _ _ a b => decide (a + b < 65536)
  | .bulkEvaluation _ power => decide (power < 65536)
  | .read _ _ f => f.wf
  | .write _ _ f => f.wf
  | .writePosted _ _ f => f.wf
  | .rmw _ _ f => f.wf
  | .command _ _ f => f.wf
  | .frame _ _ f => f.wf
  | .ping _ _ f => f.wf
  | .enumAssign _ _ f => f.wf && f.payload.all fun w => !(w.getLsbD 31)
  | .enumFinal _ _ f => f.wf && (f.payload.head?.map fun w => w.getLsbD 31) == some true
  | .invalidOpcode _ _ op f => f.wf && invalidOp op
  | .forward _ _ _ f => f.wf
  | .snapshotRead _ _ a => decide (a.toNat % 4 = 0)
  | .multiwordWrite _ _ a vs => decide (1 ≤ vs.length ∧ a.val % 1024 + vs.length ≤ 1024)
  | .connect .. => true
  | .connectObj .. => true
  | .release .. => true
  | .duplex .. => true
  | .pin .. => true
  | .unpin .. => true
  | .solveIncr .. => true
  | .solveFull .. => true
  | .directMap .. => true
  | .clearStage .. => true
  | .solveDone .. => true
  | .prepare .. => true
  | .prepareDone .. => true
  | .commitNow .. => true
  | .commitAt .. => true
  | .abort .. => true
  | .prestage .. => true
  | .leaseExpiry .. => true
  | .scheduledTimeReached .. => true
  | .commit .. => true
  | .restoreCommit .. => true
  | .kickEnd .. => true
  | .settleTimeout .. => true
  | .arrivalInjection .. => true
  | .loopUpdate .. => true
  | .elementTableWrite .. => true
  | .cellTableWrite .. => true
  | .warmAll .. => true
  | .hold .. => true
  | .resume .. => true
  | .clearFault .. => true
  | .setPer .. => true
  | .arm .. => true
  | .stop .. => true
  | .trigger .. => true
  | .clear .. => true
  | .conversionSlot .. => true
  | .injectionComplete .. => true
  | .inject .. => true
  | .selfCal .. => true
  | .haccStart .. => true
  | .haccStop .. => true
  | .haccDone .. => true
  | .tileTableWrite .. => true
  | .setRange .. => true
  | .sync .. => true
  | .fwWrite .. => true
  | .deglitchHoldEnd .. => true
  | .drvSc .. => true
  | .scFlagClear .. => true
  | .nclrFall .. => true
  | .nclrRise .. => true
  | .inputVoaRelease .. => true
  | .relightTimeout .. => true
  | .feedValid .. => true
  | .feedInvalid .. => true
  | .planeFaultDetect .. => true
  | .leaseRenewal .. => true
  | .aliveMark .. => true
  | .leaseEnd .. => true
  | .heartbeat .. => true
  | .heartbeatMiss .. => true
  | .tokenGrant .. => true
  | .tokenFree .. => true
  | .fencedCheckEnd .. => true
  | .planeStartDone .. => true
  | .regulatorWarn .. => true
  | .regWarnClear .. => true
  | .autoHandover .. => true
  | .handover .. => true
  | .planeRestart .. => true
  | .resync .. => true
  | .safeEnter .. => true
  | .safeExit .. => true
  | .nsafeHoldFall .. => true
  | .nsafeHoldRise .. => true
  | .laserFail .. => true
  | .retry .. => true
  | .retryEnd .. => true
  | .laneLinkUp .. => true
  | .laneLinkDown .. => true
  | .queueAdmission .. => true
  | .transmitStart .. => true
  | .transmitEnd .. => true
  | .hostFrameDelivery .. => true
  | .floodApply .. => true
  | .laneCfgWrite .. => true
  | .sweepVisit .. => true
  | .search .. => true
  | .next .. => true
  | .flushLane .. => true
  | .flushDone .. => true
  | .insertStatic .. => true
  | .delete .. => true
  | .shaperWrite .. => true
  | .copy .. => true
  | .gateApply .. => true
  | .gateCancel .. => true
  | .gateSwitch .. => true
  | .gateEntryBoundary .. => true
  | .setTime .. => true
  | .acceptStep .. => true
  | .acceptPath .. => true
  | .servoReset .. => true
  | .announceTimeout .. => true
  | .ptpMessageSend .. => true
  | .trefLoss .. => true
  | .trefRestore .. => true
  | .ppsInEdge .. => true
  | .ppsInMiss .. => true
  | .noPps .. => true
  | .ppsOutPulse .. => true
  | .ppsOutWidthEnd .. => true
  | .ehrLinkUp .. => true
  | .ehrLinkDown .. => true
  | .hiBer .. => true
  | .fecUncorr .. => true
  | .eventSend .. => true
  | .chainReset .. => true
  | .masterReset .. => true
  | .mtxParkWrite .. => true
  | .ehrCfgWrite .. => true
  | .registerWrite .. => true
  | .intForce .. => true
  | .pageSoftReset .. => true
  | .pwrLimit .. => true
  | .bulkRelease .. => true
  | .thmLevelWrite .. => true
  | .pwrModeWrite .. => true
  | .sliceStart .. => true
  | .sliceBudgetEnd .. => true
  | .run .. => true
  | .wipe .. => true
  | .wipeDone .. => true
  | .record .. => true
  | .journalRecordStart .. => true
  | .journalRecordEnd .. => true
  | .autoRestoreWrite .. => true
  | .nresetFall .. => true
  | .nresetRise .. => true
  | .resetEnd .. => true
  | .tableWipeEnd .. => true
  | .laserWarmupEnd .. => true
  | .lockLate .. => true
  | .ready .. => true
  | .returnArm .. => true
  | .returnCommit .. => true
  | .returnArmExpiry .. => true
  | .returnMarkerDone .. => true
  | .pcsSynchronised .. => true
  | .blockLock .. => true
  | .lossOfSignal .. => true
  | .timeBasePllLock .. => true
  | .backwardSlewEnd .. => true
  | .ditherTick .. => true
  | .testAccessPort .. => true

end Sys2Proof
end

