-- ==== Sys2Proof/Laws/PerInstr.lean ====
section
/-!
SUPPORT. What holds of each command as syntax, one lemma per constructor: a well-formed command that came over the Ehreri
link carries at most 352 words (R278).
-/

namespace Sys2Proof.Laws.FrameFits

/-- The link frame a command came in, if it came in one. -/
def carried : Instr → Option LinkFrame
  | .read _ _ f => some f
  | .write _ _ f => some f
  | .writePosted _ _ f => some f
  | .rmw _ _ f => some f
  | .command _ _ f => some f
  | .frame _ _ f => some f
  | .enumAssign _ _ f => some f
  | .enumFinal _ _ f => some f
  | .ping _ _ f => some f
  | .invalidOpcode _ _ _ f => some f
  | .forward _ _ _ f => some f
  | _ => none

/-- A well-formed command's link frame carries at most 352 words. -/
def Statement (i : Instr) : Prop := i.wf = true → ∀ f, carried i = some f → f.payload.length ≤ 352

theorem connect (dt : Nat) (o : Order) (a0 : Word) (a1 : Word) : Statement (.connect dt o a0 a1) :=
  fun _ _ e => nomatch e
theorem connectObj (dt : Nat) (o : Order) (a0 : Word) (a1 : Word) : Statement (.connectObj dt o a0 a1) :=
  fun _ _ e => nomatch e
theorem release (dt : Nat) (o : Order) (a0 : Word) : Statement (.release dt o a0) :=
  fun _ _ e => nomatch e
theorem duplex (dt : Nat) (o : Order) (a0 : Word) (a1 : Word) : Statement (.duplex dt o a0 a1) :=
  fun _ _ e => nomatch e
theorem pin (dt : Nat) (o : Order) (a0 : Word) : Statement (.pin dt o a0) :=
  fun _ _ e => nomatch e
theorem unpin (dt : Nat) (o : Order) (a0 : Word) : Statement (.unpin dt o a0) :=
  fun _ _ e => nomatch e
theorem solveIncr (dt : Nat) (o : Order) : Statement (.solveIncr dt o) :=
  fun _ _ e => nomatch e
theorem solveFull (dt : Nat) (o : Order) : Statement (.solveFull dt o) :=
  fun _ _ e => nomatch e
theorem directMap (dt : Nat) (o : Order) : Statement (.directMap dt o) :=
  fun _ _ e => nomatch e
theorem clearStage (dt : Nat) (o : Order) : Statement (.clearStage dt o) :=
  fun _ _ e => nomatch e
theorem solveDone (dt : Nat) : Statement (.solveDone dt) :=
  fun _ _ e => nomatch e
theorem prepare (dt : Nat) (o : Order) (a0 : Word) (a3 : Word) : Statement (.prepare dt o a0 a3) :=
  fun _ _ e => nomatch e
theorem prepareDone (dt : Nat) : Statement (.prepareDone dt) :=
  fun _ _ e => nomatch e
theorem commitNow (dt : Nat) (o : Order) (a0 : Word) (a3 : Word) : Statement (.commitNow dt o a0 a3) :=
  fun _ _ e => nomatch e
theorem commitAt (dt : Nat) (o : Order) (a0 : Word) (a1 : Word) (a2 : Word) (a3 : Word) : Statement (.commitAt dt o a0 a1 a2 a3) :=
  fun _ _ e => nomatch e
theorem abort (dt : Nat) (o : Order) (a0 : Word) (a3 : Word) : Statement (.abort dt o a0 a3) :=
  fun _ _ e => nomatch e
theorem prestage (dt : Nat) (o : Order) (a0 : Word) : Statement (.prestage dt o a0) :=
  fun _ _ e => nomatch e
theorem leaseExpiry (dt : Nat) : Statement (.leaseExpiry dt) :=
  fun _ _ e => nomatch e
theorem scheduledTimeReached (dt : Nat) : Statement (.scheduledTimeReached dt) :=
  fun _ _ e => nomatch e
theorem commit (dt : Nat) : Statement (.commit dt) :=
  fun _ _ e => nomatch e
theorem restoreCommit (dt : Nat) : Statement (.restoreCommit dt) :=
  fun _ _ e => nomatch e
theorem kickEnd (dt : Nat) (e : Fin 9728) : Statement (.kickEnd dt e) :=
  fun _ _ e => nomatch e
theorem settleTimeout (dt : Nat) (q : Fin 512) : Statement (.settleTimeout dt q) :=
  fun _ _ e => nomatch e
theorem arrivalInjection (dt : Nat) (q : Fin 512) : Statement (.arrivalInjection dt q) :=
  fun _ _ e => nomatch e
theorem loopUpdate (dt : Nat) (pl : Plane) (e : Fin 9728) : Statement (.loopUpdate dt pl e) :=
  fun _ _ e => nomatch e
theorem elementTableWrite (dt : Nat) (e : Fin 9728) (word : Fin 8) (v : Word) : Statement (.elementTableWrite dt e word v) :=
  fun _ _ e => nomatch e
theorem cellTableWrite (dt : Nat) (c : Fin 4352) (word : Fin 8) (v : Word) : Statement (.cellTableWrite dt c word v) :=
  fun _ _ e => nomatch e
theorem warmAll (dt : Nat) : Statement (.warmAll dt) :=
  fun _ _ e => nomatch e
theorem hold (dt : Nat) (o : Order) (a0 : Word) (a1 : Word) : Statement (.hold dt o a0 a1) :=
  fun _ _ e => nomatch e
theorem resume (dt : Nat) (o : Order) (a0 : Word) (a1 : Word) : Statement (.resume dt o a0 a1) :=
  fun _ _ e => nomatch e
theorem clearFault (dt : Nat) (o : Order) (a0 : Word) (a1 : Word) : Statement (.clearFault dt o a0 a1) :=
  fun _ _ e => nomatch e
theorem setPer (dt : Nat) (o : Order) (a0 : Word) (a1 : Word) : Statement (.setPer dt o a0 a1) :=
  fun _ _ e => nomatch e
theorem arm (dt : Nat) (o : Order) (a0 : Word) : Statement (.arm dt o a0) :=
  fun _ _ e => nomatch e
theorem stop (dt : Nat) (o : Order) (a0 : Word) : Statement (.stop dt o a0) :=
  fun _ _ e => nomatch e
theorem trigger (dt : Nat) (o : Order) (a0 : Word) : Statement (.trigger dt o a0) :=
  fun _ _ e => nomatch e
theorem clear (dt : Nat) (o : Order) (a0 : Word) : Statement (.clear dt o a0) :=
  fun _ _ e => nomatch e
theorem conversionSlot (dt : Nat) (pl : Plane) (t : Fin 608) (raw0 : BitVec 12) (raw1 : BitVec 12) : Statement (.conversionSlot dt pl t raw0 raw1) :=
  fun _ _ e => nomatch e
theorem injectionRequest (dt : Nat) (pl : Plane) (t : Fin 608) (who : InjWho) (chan : Fin 20) (acq : Fin 4) (gain : Fin 4) (acquiring : Bool) : Statement (.injectionRequest dt pl t who chan acq gain acquiring) :=
  fun _ _ e => nomatch e
theorem injectionComplete (dt : Nat) (pl : Plane) (t : Fin 608) (raw : BitVec 12) : Statement (.injectionComplete dt pl t raw) :=
  fun _ _ e => nomatch e
theorem inject (dt : Nat) (o : Order) (a0 : Word) (a1 : Word) : Statement (.inject dt o a0 a1) :=
  fun _ _ e => nomatch e
theorem selfCal (dt : Nat) (o : Order) (a0 : Word) : Statement (.selfCal dt o a0) :=
  fun _ _ e => nomatch e
theorem calDone (dt : Nat) (pl : Plane) (readings : List CalReading) : Statement (.calDone dt pl readings) :=
  fun _ _ e => nomatch e
theorem haccStart (dt : Nat) (o : Order) (a0 : Word) (a1 : Word) : Statement (.haccStart dt o a0 a1) :=
  fun _ _ e => nomatch e
theorem haccStop (dt : Nat) (o : Order) (a0 : Word) (a1 : Word) : Statement (.haccStop dt o a0 a1) :=
  fun _ _ e => nomatch e
theorem haccDone (dt : Nat) : Statement (.haccDone dt) :=
  fun _ _ e => nomatch e
theorem ringCalibration (dt : Nat) (pl : Plane) (residuals : List RingResidual) : Statement (.ringCalibration dt pl residuals) :=
  fun _ _ e => nomatch e
theorem tileTableWrite (dt : Nat) (t : Fin 608) (word : Fin 64) (v : Word) : Statement (.tileTableWrite dt t word v) :=
  fun _ _ e => nomatch e
theorem setRange (dt : Nat) (o : Order) (a0 : Word) (a1 : Word) : Statement (.setRange dt o a0 a1) :=
  fun _ _ e => nomatch e
theorem sync (dt : Nat) (o : Order) (a0 : Word) (a1 : Word) : Statement (.sync dt o a0 a1) :=
  fun _ _ e => nomatch e
theorem fwWrite (dt : Nat) (t : Fin 608) (fw : BitVec 16) : Statement (.fwWrite dt t fw) :=
  fun _ _ e => nomatch e
theorem deglitchHoldEnd (dt : Nat) (e : Fin 9728) : Statement (.deglitchHoldEnd dt e) :=
  fun _ _ e => nomatch e
theorem drvSc (dt : Nat) (pl : Plane) (e : Fin 9728) : Statement (.drvSc dt pl e) :=
  fun _ _ e => nomatch e
theorem scFlagClear (dt : Nat) (v : Word) : Statement (.scFlagClear dt v) :=
  fun _ _ e => nomatch e
theorem nclrFall (dt : Nat) : Statement (.nclrFall dt) :=
  fun _ _ e => nomatch e
theorem nclrRise (dt : Nat) : Statement (.nclrRise dt) :=
  fun _ _ e => nomatch e
theorem inputVoaRelease (dt : Nat) (p : Fin 512) : Statement (.inputVoaRelease dt p) :=
  fun _ _ e => nomatch e
theorem relightTimeout (dt : Nat) (q : Fin 512) : Statement (.relightTimeout dt q) :=
  fun _ _ e => nomatch e
theorem feedValid (dt : Nat) (pl : Plane) : Statement (.feedValid dt pl) :=
  fun _ _ e => nomatch e
theorem feedInvalid (dt : Nat) (pl : Plane) : Statement (.feedInvalid dt pl) :=
  fun _ _ e => nomatch e
theorem planeFaultDetect (dt : Nat) (pl : Plane) (cause : BitVec 3) (reg : BitVec 6) : Statement (.planeFaultDetect dt pl cause reg) :=
  fun _ _ e => nomatch e
theorem leaseRenewal (dt : Nat) : Statement (.leaseRenewal dt) :=
  fun _ _ e => nomatch e
theorem aliveMark (dt : Nat) (pl : Plane) : Statement (.aliveMark dt pl) :=
  fun _ _ e => nomatch e
theorem leaseEnd (dt : Nat) : Statement (.leaseEnd dt) :=
  fun _ _ e => nomatch e
theorem heartbeat (dt : Nat) (pl : Plane) : Statement (.heartbeat dt pl) :=
  fun _ _ e => nomatch e
theorem heartbeatMiss (dt : Nat) (pl : Plane) : Statement (.heartbeatMiss dt pl) :=
  fun _ _ e => nomatch e
theorem tokenGrant (dt : Nat) (pl : Plane) (gap : Nat) : Statement (.tokenGrant dt pl gap) :=
  fun _ _ e => nomatch e
theorem tokenFree (dt : Nat) : Statement (.tokenFree dt) :=
  fun _ _ e => nomatch e
theorem fencedCheckEnd (dt : Nat) (pl : Plane) (ok : Bool) : Statement (.fencedCheckEnd dt pl ok) :=
  fun _ _ e => nomatch e
theorem planeStartDone (dt : Nat) (pl : Plane) (ok : Bool) : Statement (.planeStartDone dt pl ok) :=
  fun _ _ e => nomatch e
theorem regulatorWarn (dt : Nat) (pl : Plane) (reg : Fin 6) : Statement (.regulatorWarn dt pl reg) :=
  fun _ _ e => nomatch e
theorem regWarnClear (dt : Nat) (pl : Plane) (reg : Fin 6) : Statement (.regWarnClear dt pl reg) :=
  fun _ _ e => nomatch e
theorem autoHandover (dt : Nat) : Statement (.autoHandover dt) :=
  fun _ _ e => nomatch e
theorem handover (dt : Nat) (o : Order) : Statement (.handover dt o) :=
  fun _ _ e => nomatch e
theorem planeRestart (dt : Nat) (o : Order) (a0 : Word) : Statement (.planeRestart dt o a0) :=
  fun _ _ e => nomatch e
theorem resync (dt : Nat) (o : Order) : Statement (.resync dt o) :=
  fun _ _ e => nomatch e
theorem safeEnter (dt : Nat) (o : Order) : Statement (.safeEnter dt o) :=
  fun _ _ e => nomatch e
theorem safeExit (dt : Nat) (o : Order) : Statement (.safeExit dt o) :=
  fun _ _ e => nomatch e
theorem nsafeHoldFall (dt : Nat) : Statement (.nsafeHoldFall dt) :=
  fun _ _ e => nomatch e
theorem nsafeHoldRise (dt : Nat) : Statement (.nsafeHoldRise dt) :=
  fun _ _ e => nomatch e
theorem laserFail (dt : Nat) (n : Fin 32) : Statement (.laserFail dt n) :=
  fun _ _ e => nomatch e
theorem retry (dt : Nat) (o : Order) (a0 : Word) : Statement (.retry dt o a0) :=
  fun _ _ e => nomatch e
theorem retryEnd (dt : Nat) (ok : Bool) : Statement (.retryEnd dt ok) :=
  fun _ _ e => nomatch e
theorem laneLinkUp (dt : Nat) (i : Fin 512) : Statement (.laneLinkUp dt i) :=
  fun _ _ e => nomatch e
theorem laneLinkDown (dt : Nat) (i : Fin 512) : Statement (.laneLinkDown dt i) :=
  fun _ _ e => nomatch e
theorem frameReceive (dt : Nat) (i : Fin 512) (f : LaneFrame) : Statement (.frameReceive dt i f) :=
  fun _ _ e => nomatch e
theorem queueAdmission (dt : Nat) (i : Fin 512) : Statement (.queueAdmission dt i) :=
  fun _ _ e => nomatch e
theorem transmitStart (dt : Nat) (i : Fin 512) : Statement (.transmitStart dt i) :=
  fun _ _ e => nomatch e
theorem transmitEnd (dt : Nat) (i : Fin 512) : Statement (.transmitEnd dt i) :=
  fun _ _ e => nomatch e
theorem hostFrameDelivery (dt : Nat) : Statement (.hostFrameDelivery dt) :=
  fun _ _ e => nomatch e
theorem floodApply (dt : Nat) (o : Order) (a0 : Word) : Statement (.floodApply dt o a0) :=
  fun _ _ e => nomatch e
theorem laneCfgWrite (dt : Nat) (i : Fin 512) (v : Word) : Statement (.laneCfgWrite dt i v) :=
  fun _ _ e => nomatch e
theorem sweepVisit (dt : Nat) (n : Fin 1048576) : Statement (.sweepVisit dt n) :=
  fun _ _ e => nomatch e
theorem search (dt : Nat) (o : Order) (a0 : Word) : Statement (.search dt o a0) :=
  fun _ _ e => nomatch e
theorem next (dt : Nat) (o : Order) (a0 : Word) (a1 : Word) : Statement (.next dt o a0 a1) :=
  fun _ _ e => nomatch e
theorem flushLane (dt : Nat) (o : Order) (a0 : Word) : Statement (.flushLane dt o a0) :=
  fun _ _ e => nomatch e
theorem flushDone (dt : Nat) : Statement (.flushDone dt) :=
  fun _ _ e => nomatch e
theorem insertStatic (dt : Nat) (o : Order) (a0 : Word) (a1 : Word) (a2 : Word) : Statement (.insertStatic dt o a0 a1 a2) :=
  fun _ _ e => nomatch e
theorem delete (dt : Nat) (o : Order) (a0 : Word) : Statement (.delete dt o a0) :=
  fun _ _ e => nomatch e
theorem shaperWrite (dt : Nat) (off : Fin 4096) (v : Word) : Statement (.shaperWrite dt off v) :=
  fun _ _ e => nomatch e
theorem copy (dt : Nat) (o : Order) (a0 : Word) (a1 : Word) : Statement (.copy dt o a0 a1) :=
  fun _ _ e => nomatch e
theorem gateApply (dt : Nat) (o : Order) (a0 : Word) (a1 : Word) : Statement (.gateApply dt o a0 a1) :=
  fun _ _ e => nomatch e
theorem gateCancel (dt : Nat) (o : Order) (a0 : Word) (a1 : Word) : Statement (.gateCancel dt o a0 a1) :=
  fun _ _ e => nomatch e
theorem gateSwitch (dt : Nat) (i : Fin 512) : Statement (.gateSwitch dt i) :=
  fun _ _ e => nomatch e
theorem gateEntryBoundary (dt : Nat) (i : Fin 512) : Statement (.gateEntryBoundary dt i) :=
  fun _ _ e => nomatch e
theorem setTime (dt : Nat) (o : Order) (a0 : Word) (a1 : Word) (a2 : Word) : Statement (.setTime dt o a0 a1 a2) :=
  fun _ _ e => nomatch e
theorem acceptStep (dt : Nat) (o : Order) : Statement (.acceptStep dt o) :=
  fun _ _ e => nomatch e
theorem acceptPath (dt : Nat) (o : Order) : Statement (.acceptPath dt o) :=
  fun _ _ e => nomatch e
theorem servoReset (dt : Nat) (o : Order) : Statement (.servoReset dt o) :=
  fun _ _ e => nomatch e
theorem announceTimeout (dt : Nat) (i : Fin 512) : Statement (.announceTimeout dt i) :=
  fun _ _ e => nomatch e
theorem ptpMessageSend (dt : Nat) (i : Fin 512) (kind : PtpKind) : Statement (.ptpMessageSend dt i kind) :=
  fun _ _ e => nomatch e
theorem trefLoss (dt : Nat) : Statement (.trefLoss dt) :=
  fun _ _ e => nomatch e
theorem trefRestore (dt : Nat) (f25 : Bool) : Statement (.trefRestore dt f25) :=
  fun _ _ e => nomatch e
theorem ppsInEdge (dt : Nat) : Statement (.ppsInEdge dt) :=
  fun _ _ e => nomatch e
theorem ppsInMiss (dt : Nat) : Statement (.ppsInMiss dt) :=
  fun _ _ e => nomatch e
theorem noPps (dt : Nat) : Statement (.noPps dt) :=
  fun _ _ e => nomatch e
theorem ppsOutPulse (dt : Nat) : Statement (.ppsOutPulse dt) :=
  fun _ _ e => nomatch e
theorem ppsOutWidthEnd (dt : Nat) : Statement (.ppsOutWidthEnd dt) :=
  fun _ _ e => nomatch e
theorem ehrLinkUp (dt : Nat) (p : Port) : Statement (.ehrLinkUp dt p) :=
  fun _ _ e => nomatch e
theorem ehrLinkDown (dt : Nat) (p : Port) : Statement (.ehrLinkDown dt p) :=
  fun _ _ e => nomatch e
theorem hiBer (dt : Nat) (p : Port) : Statement (.hiBer dt p) :=
  fun _ _ e => nomatch e
theorem fecUncorr (dt : Nat) (p : Port) : Statement (.fecUncorr dt p) :=
  fun _ _ e => nomatch e
theorem read (dt : Nat) (p : Port) (f : LinkFrame) : Statement (.read dt p f) :=
  fun h _ e => Option.some.inj e ▸ of_decide_eq_true h
theorem write (dt : Nat) (p : Port) (f : LinkFrame) : Statement (.write dt p f) :=
  fun h _ e => Option.some.inj e ▸ of_decide_eq_true h
theorem writePosted (dt : Nat) (p : Port) (f : LinkFrame) : Statement (.writePosted dt p f) :=
  fun h _ e => Option.some.inj e ▸ of_decide_eq_true h
theorem rmw (dt : Nat) (p : Port) (f : LinkFrame) : Statement (.rmw dt p f) :=
  fun h _ e => Option.some.inj e ▸ of_decide_eq_true h
theorem command (dt : Nat) (p : Port) (f : LinkFrame) : Statement (.command dt p f) :=
  fun h _ e => Option.some.inj e ▸ of_decide_eq_true h
theorem frame (dt : Nat) (p : Port) (f : LinkFrame) : Statement (.frame dt p f) :=
  fun h _ e => Option.some.inj e ▸ of_decide_eq_true h
theorem enumAssign (dt : Nat) (p : Port) (f : LinkFrame) : Statement (.enumAssign dt p f) :=
  fun h _ e => Option.some.inj e ▸ of_decide_eq_true (Bool.and_eq_true_iff.mp h).1
theorem enumFinal (dt : Nat) (p : Port) (f : LinkFrame) : Statement (.enumFinal dt p f) :=
  fun h _ e => Option.some.inj e ▸ of_decide_eq_true (Bool.and_eq_true_iff.mp h).1
theorem ping (dt : Nat) (p : Port) (f : LinkFrame) : Statement (.ping dt p f) :=
  fun h _ e => Option.some.inj e ▸ of_decide_eq_true h
theorem invalidOpcode (dt : Nat) (p : Port) (op : BitVec 4) (f : LinkFrame) : Statement (.invalidOpcode dt p op f) :=
  fun h _ e => Option.some.inj e ▸ of_decide_eq_true (Bool.and_eq_true_iff.mp h).1
theorem forward (dt : Nat) (p : Port) (op : BitVec 4) (f : LinkFrame) : Statement (.forward dt p op f) :=
  fun h _ e => Option.some.inj e ▸ of_decide_eq_true h
theorem eventSend (dt : Nat) (n : Nat) : Statement (.eventSend dt n) :=
  fun _ _ e => nomatch e
theorem chainReset (dt : Nat) (o : Order) (a0 : Word) : Statement (.chainReset dt o a0) :=
  fun _ _ e => nomatch e
theorem masterReset (dt : Nat) (o : Order) (a0 : Word) (beats : BitVec 16) : Statement (.masterReset dt o a0 beats) :=
  fun _ _ e => nomatch e
theorem mtxParkWrite (dt : Nat) (v : Word) : Statement (.mtxParkWrite dt v) :=
  fun _ _ e => nomatch e
theorem ehrCfgWrite (dt : Nat) (p : Port) (v : Word) : Statement (.ehrCfgWrite dt p v) :=
  fun _ _ e => nomatch e
theorem registerWrite (dt : Nat) (p : Port) (seq : BitVec 16) (addr : Fin 131072) (v : Word) : Statement (.registerWrite dt p seq addr v) :=
  fun _ _ e => nomatch e
theorem snapshotRead (dt : Nat) (p : Port) (addr : Word) : Statement (.snapshotRead dt p addr) :=
  fun _ _ e => nomatch e
theorem multiwordWrite (dt : Nat) (p : Port) (addr : Fin 131072) (vs : List Word) : Statement (.multiwordWrite dt p addr vs) :=
  fun _ _ e => nomatch e
theorem intForce (dt : Nat) (page : Fin 128) (v : Word) : Statement (.intForce dt page v) :=
  fun _ _ e => nomatch e
theorem pageSoftReset (dt : Nat) (page : Fin 128) : Statement (.pageSoftReset dt page) :=
  fun _ _ e => nomatch e
theorem tempSample (dt : Nat) (sample : Option Int) (feedA : Nat) (feedB : Nat) : Statement (.tempSample dt sample feedA feedB) :=
  fun _ _ e => nomatch e
theorem pwrLimit (dt : Nat) : Statement (.pwrLimit dt) :=
  fun _ _ e => nomatch e
theorem bulkEvaluation (dt : Nat) (power : Nat) : Statement (.bulkEvaluation dt power) :=
  fun _ _ e => nomatch e
theorem bulkRelease (dt : Nat) : Statement (.bulkRelease dt) :=
  fun _ _ e => nomatch e
theorem thmLevelWrite (dt : Nat) (lvl : ThmLevel) (v : Word) : Statement (.thmLevelWrite dt lvl v) :=
  fun _ _ e => nomatch e
theorem pwrModeWrite (dt : Nat) (v : Word) : Statement (.pwrModeWrite dt v) :=
  fun _ _ e => nomatch e
theorem sliceStart (dt : Nat) (pl : Plane) : Statement (.sliceStart dt pl) :=
  fun _ _ e => nomatch e
theorem sliceEnd (dt : Nat) (pl : Plane) (readings : List (CheckReading × CheckReading)) : Statement (.sliceEnd dt pl readings) :=
  fun _ _ e => nomatch e
theorem sliceBudgetEnd (dt : Nat) (pl : Plane) : Statement (.sliceBudgetEnd dt pl) :=
  fun _ _ e => nomatch e
theorem run (dt : Nat) (o : Order) (a0 : Word) (a1 : Word) : Statement (.run dt o a0 a1) :=
  fun _ _ e => nomatch e
theorem wipe (dt : Nat) (o : Order) : Statement (.wipe dt o) :=
  fun _ _ e => nomatch e
theorem wipeDone (dt : Nat) : Statement (.wipeDone dt) :=
  fun _ _ e => nomatch e
theorem record (dt : Nat) (o : Order) : Statement (.record dt o) :=
  fun _ _ e => nomatch e
theorem journalRecordStart (dt : Nat) : Statement (.journalRecordStart dt) :=
  fun _ _ e => nomatch e
theorem journalRecordEnd (dt : Nat) : Statement (.journalRecordEnd dt) :=
  fun _ _ e => nomatch e
theorem autoRestoreWrite (dt : Nat) (v : Word) : Statement (.autoRestoreWrite dt v) :=
  fun _ _ e => nomatch e
theorem nresetFall (dt : Nat) : Statement (.nresetFall dt) :=
  fun _ _ e => nomatch e
theorem nresetRise (dt : Nat) : Statement (.nresetRise dt) :=
  fun _ _ e => nomatch e
theorem resetEnd (dt : Nat) : Statement (.resetEnd dt) :=
  fun _ _ e => nomatch e
theorem fuseLoadDone (dt : Nat) (corr : List (BitVec 14)) (uncorr : List (BitVec 14)) : Statement (.fuseLoadDone dt corr uncorr) :=
  fun _ _ e => nomatch e
theorem tableWipeEnd (dt : Nat) : Statement (.tableWipeEnd dt) :=
  fun _ _ e => nomatch e
theorem laserWarmupEnd (dt : Nat) : Statement (.laserWarmupEnd dt) :=
  fun _ _ e => nomatch e
theorem lockLate (dt : Nat) : Statement (.lockLate dt) :=
  fun _ _ e => nomatch e
theorem ready (dt : Nat) : Statement (.ready dt) :=
  fun _ _ e => nomatch e
theorem returnArm (dt : Nat) (o : Order) (a0 : Word) (a1 : Word) : Statement (.returnArm dt o a0 a1) :=
  fun _ _ e => nomatch e
theorem returnCommit (dt : Nat) (o : Order) (a0 : Word) (a1 : Word) : Statement (.returnCommit dt o a0 a1) :=
  fun _ _ e => nomatch e
theorem returnArmExpiry (dt : Nat) : Statement (.returnArmExpiry dt) :=
  fun _ _ e => nomatch e
theorem returnMarkerDone (dt : Nat) : Statement (.returnMarkerDone dt) :=
  fun _ _ e => nomatch e
theorem pcsSynchronised (dt : Nat) (r : PcsReport) : Statement (.pcsSynchronised dt r) :=
  fun _ _ e => nomatch e
theorem blockLock (dt : Nat) (p : Port) : Statement (.blockLock dt p) :=
  fun _ _ e => nomatch e
theorem lossOfSignal (dt : Nat) (i : Fin 512) (los : Bool) (power : BitVec 16) : Statement (.lossOfSignal dt i los power) :=
  fun _ _ e => nomatch e
theorem timeBasePllLock (dt : Nat) (f25 : Bool) : Statement (.timeBasePllLock dt f25) :=
  fun _ _ e => nomatch e
theorem backwardSlewEnd (dt : Nat) : Statement (.backwardSlewEnd dt) :=
  fun _ _ e => nomatch e
theorem ditherTick (dt : Nat) : Statement (.ditherTick dt) :=
  fun _ _ e => nomatch e
theorem testAccessPort (dt : Nat) (op : TapOp) : Statement (.testAccessPort dt op) :=
  fun _ _ e => nomatch e

end Sys2Proof.Laws.FrameFits
end

