-- ==== Sys2Proof/Tests/Slice0.lean ====
section
/-!
SUPPORT. Tests: an ill-formed command for every check of WellFormed, small computations with results taken from the manual or
worked out by hand from it, and for every statement with hypotheses a state and operands that meet them, clause by clause.
-/

namespace Sys2Proof.Tests

open Sys2Proof.Machine

/-! ### States and operands of the witnesses -/

/-- A READY device. -/
def rdy : State := { State.reset with dev := { State.reset.dev with state := 1 } }

/-- An order that came as no transaction, and one that waits for its answer. -/
def ord : Order := ⟨.e0, 7, none⟩
def cmdOrd : Order := ⟨.e1, 0xFFFF, some ⟨3, 5, 0, true⟩⟩

/-- A request of an opcode under sequence 7 of port E0. -/
def req : Req := .entered ord 1 0 511 1 none none

/-- Two circuits that share no line, and one that takes input 0. -/
def org : Origin := ⟨1, 1, 7, none, none⟩
def circ (q p mid : Nat) : Circuit := ⟨q, p, mid, 1, false, org⟩

/-- A dynamic object on a lane. -/
def obj (lane : Nat) : ObjEntry := ⟨false, true, false, none, false, lane, 1, 0⟩

/-! ### Statements on the queue, the life cycle and what surrounds every command -/

/-- The witnesses give the state s' that a command finds. Where nothing is due it is its own s, with dt = 0; where time must
have passed they name it as `s.elapsed + dt`, or as `s.advance dt`. -/
theorem witness_time (s : State) (ha : s.osc.arrived = []) :
    s = s.advance 0 ∧ s = (s.advance 0).settleArrived ∧ ∀ dt, (s.advance dt).elapsed = s.elapsed + dt :=
  ⟨s.advance_zero.symm, by rw [s.advance_zero, s.settleArrived_eq ha], fun dt => State.advance_elapsed s dt⟩

theorem witness_EveryCommandRuns :
    2 ≤ rdy.lifeState ∧ { rdy with dev := { rdy.dev with lifeBits := 0 } }.lifeState < 2 ∧ rdy.pending = [] := by decide

theorem witness_LifeCycleNeverMovesBack : ∃ t, exec (.ditherTick 1) rdy = .next t :=
  ⟨_, State.run_next rdy 1 _ (by decide)⟩

theorem witness_IntFollowsEveryStep : rdy.IntFollows ∧ step rdy = .next rdy := ⟨by decide, rfl⟩

theorem witness_ClosingLeavesAlone : (rdy.pla.valid = true ∨ rdy.plb.valid = true) ∧ rdy.NoneWaiting ∧
    closingMayWrite Reg.DRV_NCLR_CNT = false ∧ rdy.NoSlice ∧ rdy.trans.waveAt = none ∧ rdy.drv.freshAt = []
    ∧ rdy.obj.sweep = none ∧ rdy.osc.arrived = [] ∧ rdy.osc.loops = [] := by decide

theorem witness_CompletionReports :
    ord.reply = none ∧ cmdOrd.reply = some ⟨3, 5, 0, true⟩
      ∧ ({ rdy with e1 := { rdy.e1 with link := true } }.link cmdOrd.port).link = true := by decide

/-! ### Paths and the route solver -/

theorem witness_PathReachesItsOutput : (511 < 512 ∧ 0 < 512 ∧ 255 < 256) ∧ lineAt 511 0 255 0 = 511 ∧ lineAt 511 0 255 17 = 0 := by
  decide

theorem witness_RemovalReturnsCellsToPark (m : CMap) (h : m = [circ 0 0 0, circ 511 511 255]) :
    (∀ c ∈ m, c.inp < 512 ∧ c.out < 512 ∧ c.mid < 256)
      ∧ (∀ c ∈ m, ∀ d ∈ m, c.out ≠ d.out → shareLine c.inp c.out c.mid d.inp d.out d.mid = false)
      ∧ (∃ c ∈ m, c.out ≠ 511 ∧ ∃ h ∈ c.path, h.cell = 0)
      ∧ ∀ c ∈ m, c.out ≠ 511 → ∀ h ∈ c.path, h.cell ≠ 4351 := by
  subst h; decide

theorem witness_FreePathIsBest_found : freePath [] 511 511 = some 0 := by decide +kernel
theorem witness_FreePathIsBest_none : freePath [circ 0 0 0] 0 511 = none := by decide +kernel

theorem witness_RequestsAreListed (s : State)
    (h : s = { rdy with obj := { rdy.obj with objs := [(5, obj 0), (6, obj 511)] } }) :
    s.Staging ∧ s.Unlisted ord ∧ s.bell.list.length < 1024
      ∧ fld 2 1 0 ≠ 3 ∧ fld 0 24 16 ≠ fld 511 8 0
      ∧ fld 0x20000006 29 28 ≠ 3 ∧ fld 5 19 0 ≠ fld 0x20000006 19 0 ∧ fld 5 19 0 ≠ 0 ∧ fld 5 19 0 ≠ 0xFFFFF
      ∧ fld 0x20000006 19 0 ≠ 0 ∧ fld 0x20000006 19 0 ≠ 0xFFFFF
      ∧ s.objPort (fld 5 19 0) = some 0 ∧ s.objPort (fld 0x20000006 19 0) = some 511
      ∧ (s.bell.stg.at_ (fld 511 8 0)).map (·.cls) ≠ some 0 := by
  subst h; decide

theorem witness_ClassThreeIsBad : rdy.Staging ∧ rdy.Unlisted ord ∧ fld 3 1 0 = 3 ∧ fld 0x30000000 29 28 = 3 := by decide

theorem witness_RepeatsChangeNothing (s : State) (h : s = { rdy with bell := { rdy.bell with list := [req] } }) :
    s.Ready ∧ ¬ s.Unlisted ord := by
  subst h; decide

theorem witness_PreparedMapLocks (s : State) (h : s = { rdy with epoch := { rdy.epoch with prep := some [] } }) :
    s.Ready ∧ s.epoch.restoring = false ∧ s.epoch.prep ≠ none ∧ s.Unlisted ord := by
  subst h; decide

theorem witness_SolvesStart (s : State) (h : s = { rdy with bell := { rdy.bell with list := [req] } }) :
    s.Staging ∧ s.bell.job = none ∧ (∃ r ∈ s.bell.list, r.covered = false) ∧ (∀ r ∈ s.bell.list, r.based = false)
      ∧ rdy.Staging ∧ ∀ r ∈ rdy.bell.list, r.covered = true := by
  subst h; decide

/-- A device in which a solve runs. -/
def solving (k : Nat) (base : CMap) : State :=
  { rdy with bell := { rdy.bell with job := some ⟨k, some ord, 0, [], base⟩, base := base, stg := base } }

theorem witness_SolvesEnd (k : Nat) (b : CMap) :
    (solving k b).InService ∧ (solving k b).bell.job = some ⟨k, some ord, 0, [], b⟩ ∧ (solving k b).epoch.job = none := by
  exact ⟨⟨(by decide : 2 ≤ rdy.lifeState), rfl⟩, rfl, rfl⟩

theorem witness_SolvesEnd_ok : ∃ m outs, solveFullMap [] [] [] (solving 2 []).bell.applied = .ok (m, outs) := ⟨[], [], rfl⟩

/-- Two pinned circuits whose outputs share a cell of the last stage, with the same route code: no full solve keeps both. -/
def clash : CMap := [{ circ 0 0 0 with pin := true }, { circ 1 256 0 with pin := true }]

theorem witness_SolvesEnd_error : ∃ q, solveFullMap clash [] clash (solving 2 clash).bell.applied = .error q := ⟨0, by decide⟩

/-- A device in whose BELL window input 0 is led straight to output 0 with class SERVICE. -/
def loaded : State :=
  { rdy with regs := ((List.range 17).map fun k => (0x11800 + 64 * k, 1)) ++ [(0x11C40, 1), (0x11C80, 1)] }

theorem witness_TracesAreRoutes : loaded.trace 17 0 0 0 = some (0, 0) := by decide +kernel

/-- The map it defines. -/
def loadedMap : CMap := [⟨0, 0, 0, 1, false, ⟨1, 4, 7, none, none⟩⟩]

theorem witness_StagingIsReplacedWhole :
    loaded.Staging ∧ loaded.bell.job = none ∧ loaded.bell.list = [] ∧ loaded.bell.baseDirect = none
      ∧ { loaded with bell := { loaded.bell with base := loadedMap } }.bell.base = loadedMap ∧ loadedMap.sameAs loadedMap = true
      ∧ (0 < 512 ∧ loaded.loadedInput 0 = true)
      ∧ loaded.tracedMap (portSrc ord.port) ord.seq.toNat ((List.range 512).filter loaded.loadedInput) = some loadedMap
      ∧ (∀ k ∈ loaded.bell.stg, k.pinned = true → ∃ c ∈ loadedMap, c.out = k.out ∧ c.inp = k.inp ∧ c.mid = k.mid)
      ∧ loadedMap.sameAs loaded.bell.base = false := by decide +kernel

/-- A base that another source's DIRECT_MAP of an empty map has set: one of lower rank is replaced, one of higher rank stays. -/
theorem witness_StagingIsReplacedWhole_clash (s : State) (h : s = { loaded with bell := { loaded.bell with baseDirect := some (1, 5) } }) :
    s.Parts loadedMap 0 ∧ s.bell.baseDirect = some (1, 5) ∧ portSrc ord.port ≤ 1 ∧ 1 < portSrc { ord with port := .e1 }.port
      ∧ s.epoch.clog.length < 64 ∧ 64 ≤ (List.replicate 64 ((0 : Word), (0 : Word))).length := by
  subst h; exact ⟨⟨by decide, by decide, fun y k => absurd k (by omega)⟩, by decide⟩

theorem loaded_cells : ∀ a, a < 17 → ∀ b, b < 256 → loaded.loadedCell (256 * a + b) ≠ 3
    ∧ (loaded.loadedCell (256 * a + b) ≠ 0 → (loadedMap.hopIn (256 * a + b)).isSome = true) := by decide +kernel

theorem witness_StagingIsReplacedWhole_cells (c : Nat) (h : c < 4352) : loaded.loadedCell c ≠ 3
    ∧ (loaded.loadedCell c ≠ 0 → (loadedMap.hopIn c).isSome = true) := by
  have k := loaded_cells (c / 256) (by omega) (c % 256) (by omega)
  rwa [Nat.div_add_mod] at k

/-! ### Epochs and transitions -/

/-- A READY device whose staging side holds one new circuit. -/
def staged : State := { rdy with bell := { rdy.bell with stg := [circ 511 511 255] } }

theorem staged_preparable : staged.Preparable := by
  unfold State.Preparable; exact ⟨rfl, rfl, by decide, ⟨511, by decide, by decide⟩, Or.inr (by decide)⟩

theorem witness_PrepareTakesStagingMap (a0 a3 : Word) (h : a0 = 1 ∧ a3 = 0 ∨ a0 = 0 ∧ a3 = 0x8FFF0000) :
    staged.Ready ∧ staged.epoch.restoring = false ∧ staged.epoch.job = none ∧ staged.mustSolve = false
      ∧ (bit a3 31 = true ∨ a0.toNat = staged.nextEpoch) := by
  rcases h with ⟨rfl, rfl⟩ | ⟨rfl, rfl⟩ <;> decide

theorem witness_PrepareTakesStagingMap_done (s : State)
    (h : s = { staged with epoch := { staged.epoch with job := some ⟨5, some ⟨3, ord, 1, 0, 0, 0⟩, none, 0, []⟩ } }) :
    s.Preparable ∧ s.InService ∧ s.epoch.job = some ⟨5, some ⟨3, ord, 1, 0, 0, 0⟩, none, 0, []⟩ := by
  subst h; exact ⟨staged_preparable, by decide, rfl⟩

/-- A READY device with a map prepared whose lease has one unit of time left. -/
def prepd : State :=
  { rdy with epoch := { rdy.epoch with prep := some [circ 511 511 255], leaseEnd := 1 }, token := { rdy.token with holder := some .a } }

theorem witness_CommitsReplaceTheActiveMap :
    prepd.InService ∧ prepd.epoch.prep = some [circ 511 511 255] ∧ prepd.canCommit = true
      ∧ prepd.elapsed + 0 < prepd.epoch.leaseEnd ∧ prepd.Ready ∧ prepd.epoch.restoring = false ∧ prepd.epoch.job = none
      ∧ prepd.epoch.held = none ∧ prepd.Names 1 0 ∧ prepd.Names 0 0x80000000 := by decide

/-- The same device with a commit order held. -/
def heldFor (op T : Nat) : State :=
  { prepd with epoch := { prepd.epoch with held := some ⟨⟨op, ord, 1, 0, 0, 0⟩, T, false, []⟩ } }

theorem witness_CommitsReplaceTheActiveMap_held :
    (heldFor 1 0).InService ∧ (heldFor 1 0).canCommit = true ∧ (heldFor 1 0).elapsed + 0 < (heldFor 1 0).epoch.leaseEnd
      ∧ (∃ h, (heldFor 1 0).epoch.held = some h ∧ h.cmd.op = 1 ∧ h.late = false ∧ h.waiters = [])
      ∧ (heldFor 2 20).canCommit = true ∧ (∃ h, (heldFor 2 20).epoch.held = some h ∧ h.cmd.op = 2 ∧ h.late = false
        ∧ h.waiters = [] ∧ h.at_ ≤ ((heldFor 2 20).advance 0).nowNs + 20) :=
  ⟨by decide, by decide, by decide, ⟨_, rfl, rfl, rfl, rfl⟩, by decide, ⟨_, rfl, rfl, rfl, rfl, by decide⟩⟩

theorem witness_PreparedMapsAreHeldAndDiscarded :
    prepd.InService ∧ prepd.Ready ∧ prepd.epoch.held = none ∧ prepd.Names 1 0 ∧ prepd.safe.active = false
      ∧ (0 : Word).toNat < 1000000000 ∧ (prepd.advance 0).nowNs ≤ EpochCmd.time ⟨2, ord, 1, 0, 0, 0⟩
      ∧ EpochCmd.time ⟨2, ord, 1, 0, 0, 0⟩ * nsUnit
        < (prepd.advance 0).nowNs * nsUnit + (prepd.epoch.leaseEnd - (prepd.elapsed + 0))
      ∧ prepd.epoch.leaseEnd ≤ prepd.elapsed + 1 := by decide

/-- A READY device whose pre-staged set begins with one request: disconnect output 0. -/
def preset1 : State := { rdy with regs := [(0x13A00, 3)] }

theorem witness_StoredRequestsAreTaken : preset1.Staging ∧ 0 < fld 1 6 0 ∧ fld 1 6 0 ≤ 64
    ∧ (preset1.prestaged preset1.objPort (fld 1 6 0)).isSome = true
    ∧ preset1.bell.list.length + fld 1 6 0 ≤ 1024 ∧ (∀ r ∈ preset1.bell.list, r.src ≠ 3) := by decide

/-- A device in the restore step of its start. -/
def restore0 : State :=
  { State.reset with
    dev := { State.reset.dev with wiped := true, fuseOk := some true }
    token := { State.reset.token with granted := true, holder := some .b }
    regs := [(Reg.JRNL_AUTO_RESTORE, 1)] }

theorem witness_StoredRequestsAreTaken_restore : restore0.InService ∧ restore0.dev.state = 0 ∧ restore0.dev.restoreDone = false
    ∧ restore0.dev.wiped = true ∧ restore0.dev.fuseOk = some true ∧ restore0.token.granted = true ∧ restore0.dev.marker < 5
    ∧ restore0.rf Reg.JRNL_AUTO_RESTORE 2 0 ≠ 0 ∧ restore0.mayRestore = true ∧ restore0.restorable = []
    ∧ { restore0 with drv := { restore0.drv with nclrLow := true } }.mayRestore = false := by decide

theorem witness_StoredRequestsAreTaken_circuits (s t : State)
    (h : s = { restore0 with
      jrnl := { restore0.jrnl with v0 := true }, mem := [⟨circuitAddr 0 511 + 7, 0x80⟩] })
    (k : t = { s with
      regs := [(Reg.JRNL_AUTO_RESTORE, 4)], mem := [⟨circuitAddr 0 511 + 7, 0xC0⟩], therm := { s.therm with rate := true } }) :
    t.mayRestore = false ∧ t.restoreDefers = true ∧ t.epoch.deferred = false
      ∧ s.InService ∧ s.mayRestore = true ∧ s.rf Reg.JRNL_AUTO_RESTORE 2 0 ≠ 0 ∧ s.restorable ≠ [] := by
  subst k h; decide +kernel

theorem witness_TransitionsMoveOn (s : State)
    (h : s = { rdy with elems := [(8703, { elemDefault 8703 with st := .kick, kickTo := 7, kickEnd := 3 })] }) :
    s.InService ∧ (8703 : Fin 9728).val < 8704 ∧ (s.elem (8703 : Fin 9728)).st = .kick
      ∧ (s.elem (8703 : Fin 9728)).kickEnd ≤ s.elapsed + 3 ∧ s.trans.waves = [] ∧ s.trans.comp = [] := by
  subst h; decide

theorem witness_TransitionsMoveOn_timeout (s : State)
    (h : s = { rdy with trans := { rdy.trans with waiting := [(511, [4])], abandon := 1 } }) :
    s.trans.waiting.find? (fun x => x.1 == (511 : Fin 512).val) = some (511, [4])
      ∧ s.trans.start + us s.trans.to_ ≤ s.elapsed + us s.trans.to_ ∧ (s.trans.abandon < 2 ∨ s.trans.recovered = true) := by
  subst h; decide

theorem witness_TransitionsMoveOn_arrival (s : State)
    (h : s = { rdy with trans := { rdy.trans with arrivalDue := [(511, 1)] } }) :
    (s.advance 1).arrivalIsDue (511 : Fin 512) = true ∧ s.calibrates s.lead = false
      ∧ (s.pair s.lead (tileOf (ovoaOf (511 : Fin 512)))).queue = []
      ∧ (∀ i, (s.pair s.lead (tileOf (ovoaOf (511 : Fin 512)))).cur = some i → i.who ≠ 1 ∧ i.at_ ≠ s.elapsed) := by
  subst h; decide

/-! ### Loops and tables -/

/-- A READY device whose plane A holds the token, with element 8703 in LOCK. -/
def locked : State :=
  { rdy with
    token := { rdy.token with holder := some .a }
    elems := [(8703, { elemDefault 8703 with st := .lock })] }

theorem witness_LoopUpdatesKeepTheirWindows_missed : locked.InService ∧ locked.token.holder = some .a
    ∧ (8703 : Fin 9728).val < 8704 ∧ (locked.elem (8703 : Fin 9728)).st = .lock ∧ (locked.elem (8703 : Fin 9728)).hh = false
    ∧ (locked.elem (8703 : Fin 9728)).wrote = false ∧ locked.token.peerUp = false ∧ locked.drv.relight = []
    ∧ ((locked.advance 0).win .a (8703 : Fin 9728)).complete = false
    ∧ ((locked.advance 0).win .a (8703 : Fin 9728)).long = false := by decide

theorem witness_LoopUpdatesKeepTheirWindows (s : State)
    (h : s = { locked with accs := [(accKey .a 575 14, ⟨64, 64, 64, 64⟩), (accKey .a 575 15, ⟨64, 64, 64, 64⟩)] }) :
    ((s.advance 0).win .a (8703 : Fin 9728)).complete = true ∧ ((s.advance 0).win .a (8703 : Fin 9728)).long = false := by
  subst h; decide

/-- The holder's loop of element e, 0, 1 or 8704, with the light of a circuit from input 0 to output 0 at its taps. -/
def updating (e : Nat) (st : ElSt) (target : Nat) (sp : Option Int) : State :=
  { rdy with
    token := { rdy.token with holder := some .a }
    epoch := { rdy.epoch with active := [circ 0 0 0] }
    elems := [(e, { elemDefault e with st := st, target := target })]
    lps := [(lpKey .a e, { lpDefault (lpKey .a e) with sp := sp, code := some 30000 })]
    accs := [(0, ⟨6400000, 64, 6400000, 64⟩), (640, ⟨6400000, 64, 6400000, 64⟩), (641, ⟨64000, 64, 64000, 64⟩)] }

/-- A state whose fuse gives element 8704 the code 0 in BAR and its tile the range ×1. -/
def blackFuse (s : State) : State :=
  { s with
    fuse := (List.range 8).map fun i => (69632 + i, (0 : Byte))
    drv := { s.drv with ranges := [(tileOf 8704, some false)] } }

theorem witness_LoopUpdatesKeepTheirWindows_sw (st : ElSt)
    (h : st ∈ [.lock, .ramp, .settle, .fault 2, .hold 3, .hold 1, .kick, .parked, .off]) :
    (updating 0 st 0 (some 0)).Updates .a (0 : Fin 9728) ∧ ((updating 0 st 0 (some 0)).elem (0 : Fin 9728)).st = st := by
  simp only [List.mem_cons, List.not_mem_nil, or_false] at h
  rcases h with rfl | rfl | rfl | rfl | rfl | rfl | rfl | rfl | rfl <;> exact ⟨by constructor <;> decide, by decide⟩

theorem witness_LoopUpdatesKeepTheirWindows_tr (st : ElSt) (h : st ∈ [.lock, .ramp, .settle]) :
    (updating 1 st 0 none).Updates .a (1 : Fin 9728) ∧ ((updating 1 st 0 none).elem (1 : Fin 9728)).st = st := by
  simp only [List.mem_cons, List.not_mem_nil, or_false] at h
  rcases h with rfl | rfl | rfl <;> exact ⟨by constructor <;> decide, by decide⟩

theorem witness_LoopUpdatesKeepTheirWindows_voa (st : ElSt) (h : st ∈ [.lock, .ramp]) (t : Nat) (k : t ∈ [0, 0x7FFF]) :
    (blackFuse (updating 8704 st t none)).Updates .a (8704 : Fin 9728)
      ∧ ((blackFuse (updating 8704 st t none)).elem (8704 : Fin 9728)).st = st := by
  simp only [List.mem_cons, List.not_mem_nil, or_false] at h k
  rcases h with rfl | rfl <;> rcases k with rfl | rfl <;> exact ⟨by constructor <;> decide +kernel, by decide⟩

theorem witness_LoopUpdatesKeepTheirWindows_measured :
    (updating 0 .ramp 0 (some 0)).trans.needs (0 : Fin 9728) = false
      ∧ (updating 0 .ramp 0 (some 0)).measured .a (0 : Fin 9728) = some 166111
      ∧ (updating 0 .settle 0 none).swMeas .a (0 : Fin 9728) = .val 166111
      ∧ (updating 1 .settle 0 none).trMeas .a (1 : Fin 9728) = .val 0 166111
      ∧ (updating 0 .parked 0 none).effWarm ((0 : Fin 9728).val / 2) = false
      ∧ { updating 0 .parked 0 none with cells := [(0, { cellDefault 0 with inForce := true })] }.effWarm ((0 : Fin 9728).val / 2)
        = true := by decide +kernel

theorem witness_LoopUpdatesKeepTheirWindows_held (s t : State)
    (h : s = { updating 0 .lock 0 none with elems := [(0, { elemDefault 0 with st := .lock, hh := true })] })
    (k : t = { updating 8704 .lock 0 none with elems := [(8704, { elemDefault 8704 with st := .lock, target := 5, wrote := true })] }) :
    (s.InService ∧ s.token.holder = some .a ∧ (s.elem (0 : Fin 9728)).hh = true ∧ (s.elem (0 : Fin 9728)).st = .lock
      ∧ (s.win .a (0 : Fin 9728)).complete = true ∧ (s.win .a (0 : Fin 9728)).long = false ∧ s.token.peerUp = false
      ∧ s.drv.relight = [])
      ∧ t.InService ∧ t.token.holder = some .a ∧ (t.elem (8704 : Fin 9728)).hh = false ∧ (t.elem (8704 : Fin 9728)).wrote = true
      ∧ (t.elem (8704 : Fin 9728)).st = .lock := by
  subst h k; decide +kernel

/-- The same device with plane B in STANDBY. -/
def shadowing : State :=
  { updating 0 .lock 0 none with
    plb := { rdy.plb with st := .standby }
    token := { rdy.token with holder := some .a, peerUp := true }
    lps := [(lpKey .a 0, { lpDefault (lpKey .a 0) with code := some 30000, div := 3 }), (lpKey .b 0, { lpDefault (lpKey .b 0) with code := some 20000 })]
    accs := [(12800, ⟨6400000, 64, 6400000, 64⟩), (12801, ⟨64000, 64, 64000, 64⟩)] }

theorem witness_LoopUpdatesKeepTheirWindows_shadow : shadowing.InService ∧ shadowing.token.holder ≠ some .b
    ∧ (shadowing.plane .b).st = .standby ∧ shadowing.token.free = false ∧ (shadowing.elem (0 : Fin 9728)).st = .lock
    ∧ ¬ shadowing.transparent (0 : Fin 9728) ∧ (shadowing.elem (0 : Fin 9728)).target = (shadowing.lp .b (0 : Fin 9728)).tgt
    ∧ (shadowing.win .b (0 : Fin 9728)).complete = true ∧ (shadowing.win .b (0 : Fin 9728)).long = false
    ∧ shadowing.loopCode .b (0 : Fin 9728) ≤ 65535 := by decide +kernel

theorem witness_LoopUpdatesKeepTheirWindows_compared (s : State)
    (h : s = { shadowing with plb := { shadowing.plb with bistFail := true }, regs := [(Reg.TOKEN_CFG, 0x01005FA0)] }) :
    (shadowing.token.holder = some .a ∧ shadowing.token.peerUp = true ∧ (shadowing.plane (otherPlane .a)).st = .standby
      ∧ shadowing.drv.relight = [] ∧ (shadowing.elem (0 : Fin 9728)).hh = false ∧ (shadowing.elem (0 : Fin 9728)).wrote = false
      ∧ shadowing.scFlag .a (0 : Fin 9728) = false ∧ (shadowing.lp .a (0 : Fin 9728)).rail < 64
      ∧ (shadowing.lp .a (0 : Fin 9728)).miss < 63 ∧ (shadowing.win .a (0 : Fin 9728)).complete = false
      ∧ (shadowing.win .a (0 : Fin 9728)).long = false)
      ∧ shadowing.rf Reg.TOKEN_CFG 31 16 < 10000 ∧ shadowing.rf Reg.TOKEN_CFG 15 12 ≤ (shadowing.lp .a 0).div + 1
      ∧ (s.lp .a 0).div + 1 < s.rf Reg.TOKEN_CFG 15 12 ∧ shadowing.rf Reg.TOKEN_CFG 7 0 ≤ (shadowing.plane .a).score
      ∧ shadowing.rf Reg.TOKEN_CFG 7 0 ≤ (shadowing.plane .b).score ∧ (s.plane .b).score < s.rf Reg.TOKEN_CFG 7 0
      ∧ (s.plane .b).score < (s.plane .a).score := by
  subst h; decide +kernel

theorem witness_TableWritesStoreTheirFields : rdy.Ready ∧ fld 0x100000 20 16 ≤ 16 ∧ 16 < fld 0x110000 20 16
    ∧ fld 0x130000 20 16 ≤ 19 := by decide

theorem witness_LoopCommandsActOnTheirRange : fld 1 13 0 ≠ 0 ∧ fld 9727 13 0 + fld 1 13 0 ≤ 9728 ∧ fld 2 1 0 ≠ 3
    ∧ fld 0x400 10 0 ≠ 0 := by decide

theorem witness_TraceCommandsActOnTheirChannels (s : State)
    (h : s = { rdy with regs := [(chCfg 15, 0x58FFF), (chElem 15, 9727)] }) :
    s.Ready ∧ (15 < 16 ∧ bit 0x8000 15 = true)
      ∧ ∀ k, k < 16 → bit 0x8000 k = true → s.rf (chCfg k) 18 16 ≤ 5 ∧ s.rf (chCfg k) 15 13 ≤ 4 ∧ s.rf (chElem k) 13 0 ≤ 9727
        ∧ s.rf (chCfg k) 11 0 ≠ 0 ∧ (s.traceCh k).st ≠ 1 ∧ (s.traceCh k).st ≠ 2 := by
  subst h; decide

/-! ### Conversion -/

/-- A READY device whose planes convert. -/
def converting : State := { rdy with conv := { rdy.conv with runA := true, runB := true } }

theorem witness_SlotsFeedTheAccumulators : converting.InService ∧ converting.converts .b (607 : Fin 608) = true
    ∧ (converting.pair .b (607 : Fin 608)).cur = none ∧ (converting.pair .b (607 : Fin 608)).queue = []
    ∧ (converting.pair .b (607 : Fin 608)).rounds = false ∧ converting.tileHeld (607 : Fin 608) = false
    ∧ ((converting.pair .b (607 : Fin 608)).inForce (607 : Fin 608)).1 = false
    ∧ (∃ w, ((converting.pair .b (607 : Fin 608)).inForce (607 : Fin 608)).2[(converting.pair .b (607 : Fin 608)).ptr]? = some w
      ∧ bit w 0 = true ∧ bit w 2 = false ∧ fld w 20 16 ≤ 15) :=
  ⟨by decide, by decide, by decide, by decide, by decide, by decide, by decide, ⟨_, rfl, by decide, by decide, by decide⟩⟩

/-- The same device while the sequencer holds tile 32, in whose pair B `p` runs: cell 0 settles there. -/
def settlingIn (p : Pair) : State :=
  { converting with
    elems := [(0, { elemDefault 0 with st := .settle })]
    trans := { rdy.trans with waiting := [(0, [0])], held := [32] }
    pairs := [(pairKey .b 32, p)] }

theorem witness_SlotsFeedTheAccumulators_modes (s t : State)
    (h : s = { converting with pairs := [(pairKey .b 607, { pairDefault 0 with pass := some (true, [0x00020007, 0x00100002]) })] })
    (k : t = { converting with conv := { converting.conv with win := some ⟨607, [607], 0, 1⟩ } }) :
    ((s.pair .b (607 : Fin 608)).inForce (607 : Fin 608)).1 = true ∧ bit 0x00020007 2 = true ∧ bit 0x00100002 0 = false
      ∧ (∃ w, ((t.pair .b (607 : Fin 608)).inForce (607 : Fin 608)).2[(t.pair .b (607 : Fin 608)).ptr]? = some w ∧ bit w 1 = true)
      ∧ ((t.pair .b (607 : Fin 608)).inForce (607 : Fin 608)).1 = false ∧ t.winOpen (607 : Fin 608) t.sampledAt = true := by
  subst h k; exact ⟨by decide, by decide, by decide, ⟨_, rfl, by decide⟩, by decide, by decide⟩

theorem witness_SlotsFeedTheAccumulators_rounds (r d : Pair) (h : r = { pairDefault 0 with rounds := true, served := [0] })
    (k : d = { r with pos := 2 }) :
    (settlingIn (pairDefault 0)).tileHeld (32 : Fin 608) = true ∧ (settlingIn (pairDefault 0)).settling (32 : Fin 608) ≠ []
      ∧ (settlingIn r).converts .b (32 : Fin 608) = true ∧ (settlingIn r).pair .b (32 : Fin 608) = r ∧ r.cur = none ∧ r.queue = []
      ∧ r.rounds = true ∧ r.pos < 2 * r.served.length ∧ (r.inForce 32).2 ≠ []
      ∧ d.rounds = true ∧ 2 * d.served.length ≤ d.pos ∧ (∃ w, (d.inForce 32).2[d.ptr]? = some w)
      ∧ { settlingIn d with elems := [] }.settling (32 : Fin 608) = []
      ∧ { settlingIn d with elems := [(0, { elemDefault 0 with st := .kick })] }.tileHeld (32 : Fin 608) = true := by
  subst h k; exact ⟨by decide, by decide, by decide, by decide, rfl, rfl, rfl, by decide, by decide, rfl, by decide, ⟨_, rfl⟩, by decide, by decide⟩

/-- A READY device with injections queued and under way in plane A's pairs 0 to 4, all asked for at instant 0, and with a
self-test slice of plane A on tile 607. -/
def injecting : State :=
  { rdy with
    pairs := [(pairKey .a 0, { pairDefault 0 with queue := [⟨3, 0, 0, 0, 0, 0⟩] }),
      (pairKey .a 1, { pairDefault 0 with queue := [⟨3, 0, 0, 0, 0, 0⟩, ⟨2, 0, 0, 0, 0, 0⟩] }),
      (pairKey .a 2, { pairDefault 0 with cur := some ⟨1, 15, 3, 0, 511, 0⟩ }),
      (pairKey .a 3, { pairDefault 0 with cur := some ⟨2, 16, 0, 0, 0, 0⟩ }),
      (pairKey .a 4, { pairDefault 0 with cur := some ⟨3, 19, 0, 0, 0, 0⟩ })]
    bist := { rdy.bist with a := { rdy.bist.a with slice := some (0, 607, 20, 0) } } }

theorem witness_InjectionsQueueAndComplete : injecting.InService ∧ injecting.calibrates .a = false
    ∧ ((injecting.pair .a (607 : Fin 608)).cur = none ∧ (injecting.pair .a (607 : Fin 608)).queue = [])
    ∧ injecting.sliceMayInject .a (607 : Fin 608) = true := by decide

theorem witness_InjectionsQueueAndComplete_queued : (injecting.pair .a (0 : Fin 608)).queue.length < 2
    ∧ (∀ x ∈ (injecting.pair .a (0 : Fin 608)).cur.toList ++ (injecting.pair .a (0 : Fin 608)).queue, x.at_ ≠ injecting.elapsed + 1)
    ∧ ((injecting.pair .a (0 : Fin 608)).cur ≠ none ∨ (injecting.pair .a (0 : Fin 608)).queue ≠ [])
    ∧ injecting.conv.inject = none ∧ (injecting.pair .a (1 : Fin 608)).queue.length = 2
    ∧ (∀ x ∈ (injecting.pair .a (1 : Fin 608)).cur.toList ++ (injecting.pair .a (1 : Fin 608)).queue,
      x.at_ ≠ injecting.elapsed + 1) := by decide

theorem witness_InjectionsQueueAndComplete_sheep (s : State)
    (h : s = { rdy with trans := { rdy.trans with arrivalDue := [(511, 1)] } }) :
    (15 : Fin 20).val < 16 ∧ 9216 ≤ elemAt (607 : Fin 608) (15 : Fin 20)
      ∧ s.lead = s.lead ∧ (s.advance 1).arrivalIsDue (elemAt (607 : Fin 608) (15 : Fin 20) - 9216) = true
      ∧ (s.pair s.lead (607 : Fin 608)).cur = none ∧ (s.pair s.lead (607 : Fin 608)).queue = [] := by
  subst h; decide

theorem witness_InjectionsQueueAndComplete_done (s : State)
    (h : s = { injecting with bist := { rdy.bist with a := { rdy.bist.a with slice := some (0, 3, 20, 0) } } }) :
    ((s.pair .a (2 : Fin 608)).cur = some ⟨1, 15, 3, 0, 511, 0⟩ ∧ (s.pair .a (2 : Fin 608)).queue = [])
      ∧ (s.pair .a (3 : Fin 608)).cur = some ⟨2, 16, 0, 0, 0, 0⟩ ∧ (s.bistOf .a).slice = some (0, (3 : Fin 608).val, 20, 0)
      ∧ (s.pair .a (4 : Fin 608)).cur = some ⟨3, 19, 0, 0, 0, 0⟩ ∧ s.conv.inject = none := by
  subst h; decide

/-- A pair without a sequence that ends an injection while a cell of its tile settles, and a slice that asks for LOOPBACK. -/
theorem witness_InjectionsQueueAndComplete_idle (p : Pair) (s : State)
    (h : p = { pairDefault 0 with pass := some (true, []), cur := some ⟨3, 19, 0, 0, 0, 0⟩ })
    (k : s = { injecting with bist := { rdy.bist with a := { rdy.bist.a with slice := some (1, 607, 20, 0) } } }) :
    p.rounds = false ∧ (p.inForce 32).2[p.ptr]? = none ∧ (settlingIn p).tileHeld 32 = true ∧ (settlingIn p).settling 32 ≠ []
      ∧ (injecting.loopTurn .a 607 = none) ∧ (s.loopTurn .b 607 = none)
      ∧ ({ s with token := { s.token with holder := some .b } }.loopTurn .a 607).isSome = true := by
  subst h k; decide

/-- A READY device with a host window open on tile 607 for one more unit of time. -/
def windowed : State := { rdy with conv := { rdy.conv with win := some ⟨607, [607], 0, 1⟩ } }

theorem witness_InjectionsQueueAndComplete_inject : windowed.Ready ∧ fld 0xFF 7 0 ≠ 0
    ∧ fld 0x13125F 9 0 = (607 : Fin 608).val ∧ fld 0x13125F 20 16 ≤ 19 ∧ bit 0x13125F 12 = (Plane.b == .b)
    ∧ (windowed.advance 0).winOpen (607 : Fin 608) (windowed.elapsed + 0) = true ∧ windowed.conv.inject = none
    ∧ (windowed.pair .b (607 : Fin 608)).cur = none ∧ (windowed.pair .b (607 : Fin 608)).queue = [] := by decide

theorem witness_CalibrationsStoreTheirResults : rdy.Ready ∧ bit 1 0 = (Plane.b == .b) ∧ rdy.token.holder ≠ some .b
    ∧ ∀ p, rdy.calibrates p = false :=
  ⟨by decide, by decide, by decide, fun p => by cases p <;> decide⟩

theorem witness_CalibrationsStoreTheirResults_done (s : State) (l : List CalReading)
    (h : s = { rdy with conv := { rdy.conv with cal := some (.b, ord) } }) (hl : l = [⟨607, 1, 3, 245760, 16384⟩]) :
    s.InService ∧ s.conv.cal = some (.b, ord) ∧ (∀ r ∈ l, (factors r.high r.low).isSome = true)
      ∧ (l.map fun r => (r.tile, r.conv, r.gain)).Nodup := by
  subst h hl; decide

theorem witness_CalibrationsStoreTheirResults_ring (l : List RingResidual) (h : l = [⟨0, 1000⟩, ⟨607, -1001⟩]) :
    rdy.conv.runs .b = false ∧ converting.conv.runs .b = true ∧ (l.map (·.tile)).Nodup ∧ ∃ r ∈ l, 1000 < r.residual.natAbs := by
  subst h; decide

theorem witness_HostWindowsOpenAndClose : windowed.Ready ∧ windowed.rf Reg.CONV_HWIN 19 0 ≠ 0 ∧ fld 1 9 0 ≠ 0
    ∧ fld 607 9 0 + fld 1 9 0 ≤ 608 ∧ ([607] : List Nat) ≠ [] ∧ windowed.conv.win = some ⟨607, [607], 0, 1⟩
    ∧ (∀ t ∈ [607], fld 607 9 0 ≤ t ∧ t < fld 607 9 0 + fld 1 9 0) ∧ 1 ≤ windowed.elapsed + 1 := by decide

/-! ### Drive -/

theorem witness_DriveFollowsItsSettings (s : State)
    (h : s = { rdy with drv := { rdy.drv with ranges := [(607, some false)] } }) :
    s.Ready ∧ fld 607 9 0 ≤ 607 ∧ s.range2 (fld 607 9 0) ≠ bit 1 0
      ∧ (∀ e ∈ tileElems (fld 607 9 0), (s.elem e).st = .off) ∧ fld 608 9 0 ≠ 0 ∧ fld 0 9 0 + fld 608 9 0 ≤ 608 := by
  subst h; decide

theorem witness_DriveFollowsItsSettings_tick (s : State)
    (h : s = { rdy with drv := { rdy.drv with sines := [(607, ⟨0, 3, 0xFFFF, 0, 0, 0⟩)], holds := [⟨9727, 5, 0⟩] } }) :
    s.InService ∧ (tget sineDefault s.drv.sines 607).tick ≤ 3
      ∧ ∀ h ∈ s.drv.holds, h.elem = (9727 : Fin 9728).val → h.since + holdTime ≤ s.elapsed + ns 20 := by
  subst h; decide

theorem witness_ShortsClearsAndRelight_sc : locked.InService ∧ (locked.plane .a).pg = true
    ∧ locked.scFlag .a (8703 : Fin 9728) = false ∧ locked.token.holder = some .a
    ∧ (locked.elem (8703 : Fin 9728)).st.regulates = true ∧ 9727 < 9728 ∧ locked.rf Reg.DRV_SC_SEL 9 0 ≤ 607 := by decide

/-- A READY device whose clear has ended and whose hold cells have left their preset. -/
def lit : State :=
  { rdy with
    token := { rdy.token with holder := some .b }
    drv := { rdy.drv with clearing := false, silent := false, preset := false } }

theorem witness_ShortsClearsAndRelight_fall : lit.InService ∧ lit.drv.nclrLow = false ∧ lit.drv.clearing = false := by decide

theorem witness_ShortsClearsAndRelight_rise (s : State)
    (h : s = { lit with drv := { lit.drv with nclrLow := true, clearing := true } }) :
    s.InService ∧ s.drv.nclrLow = true ∧ s.drv.clearing = true ∧ s.token.holder ≠ none := by
  subst h; decide

theorem witness_ShortsClearsAndRelight_waits (s : State)
    (h : s = { lit with drv := { lit.drv with inWait := [(511, 0)], relight := [⟨511, some 0, false, []⟩] } }) :
    s.drv.inWait.find? (fun x => x.1 == (511 : Fin 512).val) = some (511, 0) ∧ 0 + us 10 ≤ s.elapsed + us 10
      ∧ s.drv.relight.find? (fun x => x.out == (511 : Fin 512).val) = some ⟨511, some 0, false, []⟩
      ∧ 0 + us (s.rf Reg.SHEEP_SETTLE_TO 15 0) < s.elapsed + (us (s.rf Reg.SHEEP_SETTLE_TO 15 0) + 1) := by
  subst h; decide

/-! ### Planes, token and safe-hold -/

/-- A READY device whose plane A is ACTIVE with the token until a lease's end, and plane B STANDBY. -/
def passing : State :=
  { rdy with
    pla := { rdy.pla with st := .active }
    plb := { rdy.plb with st := .standby }
    token := { rdy.token with holder := some .a, leaseEnd := us 50, peerUp := true } }

theorem witness_FeedsAndFaultsMovePlanes (s : State) (h : s = { passing with plb := { passing.plb with valid := false } }) :
    s.InService ∧ (s.plane .b).valid = false ∧ (passing.plane .a).valid = true ∧ (passing.plane (otherPlane .a)).valid = true
      ∧ 2 ≤ (2 : BitVec 3).toNat ∧ (5 : BitVec 3).toNat ≤ 5 ∧ (s.plane .a).st = .active ∧ s.token.holder = some .a
      ∧ s.token.holder ≠ some .b := by
  subst h; decide

theorem witness_LeasesAndHeartbeats (s : State) (h : s = { passing with plb := { passing.plb with beats := 14, misses := 2 } }) :
    s.InService ∧ s.token.holder ≠ none ∧ s.elapsed + (us 50 - 1) < s.token.leaseEnd ∧ (s.plane .b).st ≠ .off
      ∧ (s.plane (otherPlane .b)).st ≠ .off ∧ (s.plane .b).beats < 15 ∧ (s.plane .b).hbFail = false
      ∧ 3 ≤ (s.plane .b).misses + 1 ∧ (s.plane .a).misses + 1 < 3
      ∧ ((s.plane .b).st = .standby ∧ s.token.holder = some (otherPlane .b) ∧ (s.advance (us 10)).renewing = true)
      ∧ (s.advance (us 10 + 1)).renewing = false := by
  subst h; decide

theorem witness_TheTokenPasses_end : passing.InService ∧ passing.token.holder = some .a
    ∧ passing.token.leaseEnd ≤ passing.elapsed + us 50 := by decide

/-- A READY device whose plane A has been fenced and whose plane B requests the token. -/
def fencedA : State :=
  { lit with
    pla := { rdy.pla with st := .fenced }
    plb := { rdy.plb with st := .standby, request := true }
    token := { rdy.token with fenceAt := some 0, fenceCause := 2, old := some .a } }

theorem witness_TheTokenPasses : fencedA.InService ∧ fencedA.dev.state ≠ 2 ∧ fencedA.token.holder = none
    ∧ (fencedA.plane .b).st = .standby ∧ (fencedA.plane .b).request = true ∧ fencedA.token.fenceAt = some 0
    ∧ fencedA.token.old = some .a ∧ fencedA.token.free = false ∧ 0 + us 10 ≤ fencedA.elapsed + us 10
    ∧ fencedA.drv.clearing = false := by decide

theorem witness_TheTokenPasses_first (s : State) (h : s = { fencedA with
      pla := { rdy.pla with st := .failed }, token := { fencedA.token with fenceAt := none } }) :
    s.dev.state ≠ 2 ∧ s.token.holder = none ∧ (s.plane .b).st = .standby ∧ (s.plane .b).request = true
      ∧ s.token.fenceAt = none ∧ (∀ p, (s.plane p).st ≠ .start) ∧ (Plane.b = .a ∨ s.pla.st ≠ .standby) := by
  subst h
  exact ⟨by decide, by decide, by decide, by decide, by decide, fun p => by cases p <;> decide, by decide⟩

theorem witness_PlanesCheckAndStart : fencedA.Ready ∧ bit 0 0 = (Plane.a == .b) ∧ (fencedA.plane .a).st = .fenced := by decide

theorem witness_PlanesCheckAndStart_start (s : State)
    (h : s = { passing with
      plb := { passing.plb with st := .start, rung := true, restart := some ord }, elems := locked.elems, conv := converting.conv
      bist := { passing.bist with b := { passing.bist.b with started := 4 } } }) :
    s.InService ∧ (s.plane .b).st = .start ∧ s.mayPassStart .b = true ∧ s.token.holder = some .a ∧ Plane.a ≠ .b
      ∧ (∀ e ∈ s.touched, e < 9728) := by
  subst h; decide

theorem witness_PlanesCheckAndStart_clear (s : State) (h : s = { rdy with plb := { rdy.plb with st := .cleardrv } }) :
    s.Ready ∧ bit 1 0 = (Plane.b == .b) ∧ (s.plane .b).st = .cleardrv := by
  subst h; decide

theorem witness_HealthAndPlannedHandovers (s : State)
    (h : s = { passing with token := { passing.token with mismatchWait := true }, elems := locked.elems }) :
    s.InService ∧ (s.plane .a).st ≠ .off ∧ s.token.free = false ∧ s.token.holder = some .a
      ∧ (s.plane (otherPlane .a)).st = .standby ∧ s.Ready
      ∧ s.healthy (otherPlane .a) = true ∧ s.token.hoAt = none ∧ s.token.mismatchWait = true ∧ s.token.peerUp = true
      ∧ (s.plane .a).st = .active ∧ (∀ e ∈ s.touched, e < 9728) := by
  subst h; decide

/-- A READY device out of clear with a SAFETY and a BULK circuit active, elements of both in LOCK. -/
def lit2 : State :=
  { lit with
    epoch := { lit.epoch with active := [{ circ 511 511 255 with cls := 0 }, { circ 0 0 0 with cls := 2 }] }
    elems := [(0, { elemDefault 0 with st := .lock }), (8703, { elemDefault 8703 with st := .lock })] }

theorem witness_SafeHoldEntersAndEnds : rdy.Ready ∧ rdy.safe.active = false ∧ rdy.safe.causes = 0
    ∧ (∀ c ∈ CMap.lit lit2.epoch.active, c < 4352) ∧ (∀ c ∈ lit2.epoch.active, c.inp < 512 ∧ c.out < 512)
    ∧ (lit2.epoch.active.map (·.inp)).Nodup ∧ (lit2.epoch.active.map (·.out)).Nodup ∧ lit2.Ready ∧ lit2.safe.active = false
    ∧ lit2.safe.causes = 0 ∧ lit2.drv.clearing = false ∧ lit2.Still ∧ lit2.epoch.prep = none
    ∧ (0 ∈ CMap.lit lit2.epoch.active ∧ 0 ∉ lit2.safeCells) ∧ 8703 / 2 ∈ lit2.safeCells ∧ rdy.drv.clearing = true := by
  decide +kernel

theorem witness_SafeHoldEntersAndEnds_thaw (s : State)
    (h : s = { lit2 with
      safe := { rdy.safe with active := true, host := true }
      elems := [(0, { elemDefault 0 with st := .hold 3 }), (2, { elemDefault 0 with st := .hold 3 }),
        (ivoaOf 0, { elemDefault 8704 with clear := some 9, clearNow := some 9 }),
        (ivoaOf 1, { elemDefault 8705 with st := .hold 3 }), (ovoaOf 0, { elemDefault 9216 with st := .hold 3, clear := some 9, clearNow := some 9 }),
        (ovoaOf 1, { elemDefault 9217 with st := .hold 3 })]
      lps := [(lpKey .b (ivoaOf 0), { lpDefault (lpKey .b (ivoaOf 0)) with code := some 9 }),
        (lpKey .b (ovoaOf 0), { lpDefault (lpKey .b (ovoaOf 0)) with code := some 10 })] }) :
    (s.Ready ∧ s.safe.active = true ∧ s.safe.pin = false ∧ s.safe.unhealthy = false ∧ s.safe.bist = false ∧ s.drv.clearing = false
      ∧ s.actCell 0 ≠ .park ∧ s.actCell 1 = .park ∧ s.epoch.active.from_ 1 = none ∧ s.epoch.active.at_ 1 = none
      ∧ (s.elem (ivoaOf 1)).st = .hold 3 ∧ (s.elem (ovoaOf 1)).st = .hold 3)
      ∧ ∃ c ∈ s.epoch.active, (s.elem (ovoaOf c.out)).st = .hold 3 ∧ s.clearCode (ovoaOf c.out) ≠ s.loopCode s.lead (ovoaOf c.out)
        ∧ s.clearCode (ivoaOf c.inp) = s.loopCode s.lead (ivoaOf c.inp) := by
  subst h; exact ⟨by decide +kernel, _, List.mem_cons_of_mem _ List.mem_cons_self, by decide +kernel⟩

theorem witness_SafeHoldEntersAndEnds_exit (s t : State)
    (h : s = { rdy with safe := { rdy.safe with active := true, host := true } })
    (k : t = { rdy with safe := { rdy.safe with active := true, unhealthy := true } }) :
    (s.Ready ∧ s.safe.active = true ∧ s.safe.pin = false ∧ s.safe.unhealthy = false ∧ s.safe.bist = false)
      ∧ t.Ready ∧ t.safe.active = true ∧ (t.safe.pin = true ∨ t.safe.unhealthy = true ∨ t.safe.bist = true) := by
  subst h k; decide

/-! ### The supervisory plane -/

theorem witness_LasersFailAndRetry (s t : State) (h : s = { rdy with osc := { rdy.osc with failed := [31] } })
    (k : t = { rdy with osc := { rdy.osc with retry := some (ord, 31, 0) } }) :
    s.InService ∧ (0 : Fin 32).val ∉ s.osc.failed ∧ s.nowAt Reg.LASER_LAST ≤ (0 : Fin 32).val + 1
      ∧ s.Ready ∧ s.osc.retry = none ∧ fld 31 4 0 ∈ s.osc.failed
      ∧ t.InService ∧ t.osc.retry = some (ord, 31, 0) ∧ 0 + us 200 ≤ t.elapsed + us 200
      ∧ t.elapsed + (us 200 - 1) < 0 + us 200 := by
  subst h k; decide

/-- A READY device with lane 511 synchronised for long enough, and with LINK. -/
def synced : State := { rdy with osc := { rdy.osc with lanes := [(511, ⟨some 0, false, false, 0⟩)] } }
def linked : State := { rdy with osc := { rdy.osc with lanes := [(511, ⟨some 0, true, false, 0⟩)] } }

theorem witness_LanesComeAndGo : rdy.InService ∧ rdy.laneEn (0 : Fin 512) = true ∧ (rdy.lane (0 : Fin 512)).sync = none
    ∧ synced.laneEn (511 : Fin 512) = true ∧ (synced.lane (511 : Fin 512)).sync = some 0
    ∧ (synced.lane (511 : Fin 512)).link = false ∧ 0 + us 10000 ≤ synced.elapsed + us 10000
    ∧ (linked.lane (511 : Fin 512)).link = true ∧ bit 0x80000000 31 = true ∧ bit 0 31 = false := by decide

/-- A frame of IPv4 of n octets without its FCS. -/
def ipFrame (n : Nat) : LaneFrame := ⟨true, true, List.replicate 12 0 ++ [0x08] ++ List.replicate (n - 13) 0⟩

theorem witness_FramesAreCheckedAndFlooded (s : State)
    (h : s = { linked with regs := [(Reg.OSC_HOSTQ_CFG, 0x80000000)] }) :
    s.Ready ∧ s.Listens (511 : Fin 512) ∧ (rdy.lane (511 : Fin 512)).link = false
      ∧ (ipFrame 59).octets.length + 4 < 64 ∧ 64 ≤ (ipFrame 60).octets.length + 4 ∧ (ipFrame 60).octets.length + 4 ≤ 2048
      ∧ (ipFrame 60).codeOk = true ∧ (ipFrame 60).fcsOk = true ∧ etherType (ipFrame 60).octets = 0x0800
      ∧ s.safe.active = false ∧ s.rb Reg.OSC_HOSTQ_CFG 31 = true ∧ s.osc.hostq.length < 256
      ∧ s.hostOctets + ((ipFrame 60).octets.length + 4) ≤ 524288 ∧ fld 7 2 0 ≠ 0 := by
  subst h; decide

/-- A frame of an EtherType with the octets that follow it, padded to 60 octets without its FCS. -/
def etherFrame (t : Nat) (l : List Byte) : List Byte :=
  let f := octBE 12 0 ++ octBE 2 t ++ l
  f ++ List.replicate (60 - f.length) 0

/-- An object frame of class BULK from object 5 to an object, with HOP 1. -/
def objFrame (dst : Nat) : List Byte := etherFrame 0x88B6 (octBE 1 0x18 ++ octBE 5 (5 * 2 ^ 20 + dst) ++ octBE 1 1)

/-- A Sync of PTP version 2 in domain 0. -/
def syncFrame : List Byte := etherFrame 0x88F7 (octBE 1 0 ++ octBE 1 0x12)

theorem witness_FramesAreCheckedAndFlooded_types :
    isPtp syncFrame = true ∧ isPtp (ipFrame 60).octets = false ∧ isObject (ipFrame 60).octets = false
      ∧ etherType (etherFrame 0x8808 []) = 0x8808 ∧ etherType (objFrame 0) = 0x88B6 ∧ etherType syncFrame = 0x88F7
      ∧ 64 ≤ (objFrame 0).length + 4 ∧ (objFrame 0).length + 4 ≤ 2048 ∧ linked.rb Reg.PTP_CFG 27 = false ∧ { linked with regs := [(Reg.PTP_CFG, 0)] }.role = 0
      ∧ ptpVersion syncFrame = 2 ∧ ptpMinor syncFrame ≤ 1 ∧ ptpType syncFrame = 0 ∧ ptpTwoStep syncFrame = false
      ∧ ptpVersion (etherFrame 0x88F7 []) ≠ 2 := by decide +kernel

theorem witness_FramesAreCheckedAndFlooded_ptp (s t : State)
    (h : s = { linked with regs := [(Reg.PTP_CFG, 0x20000000), (Reg.PTP_MEMBER0 + 60, 0x80000000)] })
    (k : t = { linked with
      regs := [(Reg.PTP_CFG, 0x60000000), (Reg.PTP_MEMBER0 + 60, 0x80000000)], time := { rdy.time with slave := some 511, parent := 0 } }) :
    (s.Ready ∧ s.Listens (511 : Fin 512) ∧ s.rb Reg.PTP_CFG 27 = false ∧ s.role = 1 ∧ s.ptpMember (511 : Fin 512) = true)
      ∧ t.Ready ∧ t.Listens (511 : Fin 512) ∧ t.role = 3 ∧ t.ptpMember (511 : Fin 512) = true
      ∧ ptpDomain syncFrame = t.rf Reg.PTP_CFG 23 16 ∧ t.time.slave = some (511 : Fin 512).val
      ∧ ptpIdent syncFrame = t.time.parent ∧ t.rf Reg.TIME_CFG 29 28 = 0 ∧ t.time.servo.path = false
      ∧ t.time.path.suspended = false := by
  subst h k; decide +kernel

/-- A READY device that learns, in which a frame has come on lane 0 at this instant, with lanes 0 and 511 up and table `l`. -/
def came (f : List Byte) (l : Tbl (Option ObjEntry)) : State :=
  { rdy with
    regs := [(Reg.OSC_HOSTQ_CFG, 0x80000000), (Reg.LEARN_CFG, 0x80640000)]
    osc := { rdy.osc with arrived := [⟨0, 0, 0, f⟩], lanes := [(0, ⟨some 0, true, false, 0⟩), (511, ⟨some 0, true, false, 0⟩)] }
    obj := { rdy.obj with objs := l } }

theorem witness_FramesAreCheckedAndFlooded_object (f : List Byte) (h : f = objFrame 6) :
    (came f []).elapsed = 0 ∧ soundTag f ∧ ((came f []).atStamp 0).Teaches f ∧ ((came f []).atStamp 0).Conforms 0 f ∧ (came f []).safe.active = false ∧ tagHop f ≠ 0
      ∧ (came f []).objAt (tagSrc f) = none ∧ (came f []).used 0 < (came f []).quota 0 ∧ tagDst f ≠ 0 ∧ tagDst f ≠ 0xFFFFF
      ∧ ((came f []).settleArrived).objAt (tagDst f) = none
      ∧ (∃ e, ((came f []).settleArrived).objAt (tagSrc f) = some e ∧ e.lane = 0)
      ∧ ((came f [(6, some (obj 511))]).settleArrived).resolveLane (fun n => ((came f [(6, some (obj 511))]).lane n).link) (tagDst f)
        = some 511
      ∧ ((came f [(6, some (obj 7))]).settleArrived).resolveLane (fun n => ((came f [(6, some (obj 7))]).lane n).link) (tagDst f)
        = some 7 ∧ ((came f []).lane 7).link = false
      ∧ (came f []).dues = [] ∧ (came f []).dev.inReset = none := by
  subst h; decide +kernel

theorem witness_FramesAreCheckedAndFlooded_dst (f g k : List Byte) (h : f = objFrame 0) (h1 : g = objFrame 0xFFFFF)
    (h2 : k = objFrame 5) :
    tagDst f = 0 ∧ (came f []).HostRoom (frameLen f) ∧ tagDst g = 0xFFFFF
      ∧ ((came k []).settleArrived).resolveLane (fun n => ((came k []).lane n).link) (tagDst k) = some 0 := by
  subst h h1 h2; decide +kernel

theorem witness_FramesAreCheckedAndFlooded_tags (f g k : List Byte) (h : f = etherFrame 0x88B6 [])
    (h1 : g = etherFrame 0x88B6 [0x1C]) (h2 : k = etherFrame 0x88B6 [0x10]) :
    (came f []).osc.arrived = [⟨0, 0, 0, f⟩] ∧ isObject f = true ∧ tagVersion f ≠ 1 ∧ (came f []).HostRoom (frameLen f)
      ∧ tagVersion g = 1 ∧ tagClass g = 3 ∧ soundTag k ∧ ¬ ((came k []).atStamp 0).Teaches k ∧ tagHop k = 0 := by
  subst h h1 h2; decide +kernel

/-- Learn events of object 5 on lane 0: a hit, a conflict on another lane, a move after the hold, no room, and a dual entry. -/
theorem witness_FramesAreCheckedAndFlooded_learn (f : List Byte) (h : f = objFrame 6) :
    (came f [(5, some (obj 0))]).objAt 5 = some (obj 0)
      ∧ (came f [(5, some (obj 511))]).holdElapsed (obj 511) = false
      ∧ (came f [(5, some { obj 511 with age := true })]).holdElapsed { obj 511 with age := true } = true
      ∧ { came f [] with regs := [(0x6A800, 0)] }.quota 0 ≤ { came f [] with regs := [(0x6A800, 0)] }.used 0
      ∧ (came f [(5, some { obj 511 with static_ := true, dualOk := true })]).used 0 < (came f []).quota 0 := by
  subst h; decide +kernel

theorem witness_FramesAreCheckedAndFlooded_policed (f : List Byte) (s t : State) (h : f = objFrame 6)
    (k : s = { came f [] with sched := { rdy.sched with buckets := [(policerKey 0 2, ⟨0x80000000, 0, 0, 0, 0⟩)] } })
    (l : t = { came f [] with sched := { rdy.sched with buckets := [(policerKey 0 2, ⟨0x80000000, 65536, 65536000000, 0, 0⟩)] } }) :
    soundTag f ∧ s.osc.arrived = [⟨0, 0, 0, f⟩] ∧ ¬ (s.atStamp 0).Conforms 0 f ∧ (t.atStamp 0).Conforms 0 f ∧ ((t.atStamp 0).policer 0 f).en = true
      ∧ { t with safe := { t.safe with active := true } }.safe.active = true ∧ tagClass f ≠ 0 := by
  subst h k l; decide +kernel

/-- A copy of a frame of 60 octets on its way to queue 7. -/
def copy7 : QFrame := ⟨1, 0, 0, 7, false, none, (ipFrame 60).octets, .none⟩

theorem witness_EgressAdmitsAndSends (s : State)
    (h : s = { linked with sched := { rdy.sched with egress := [(511, ⟨[copy7], [], none, false, 0⟩)] } }) :
    s.Ready ∧ (s.egress (511 : Fin 512)).waiting = [copy7] ∧ copy7.entry ≤ s.elapsed + 1
      ∧ (s.lane (511 : Fin 512)).link = true ∧ copy7.host = none
      ∧ (s.egress (511 : Fin 512)).octets (fun x => x.queue == copy7.queue) + (copy7.octets.length + 4)
        ≤ (s.bucket (shaperKey (511 : Fin 512) copy7.queue)).limit * 1024
      ∧ (s.egress (511 : Fin 512)).octets (fun _ => true) + (copy7.octets.length + 4) ≤ 16384 := by
  subst h; decide

theorem witness_EgressAdmitsAndSends_send (s t : State)
    (h : s = { linked with sched := { rdy.sched with egress := [(511, ⟨[], [copy7], none, false, 1⟩)] } })
    (k : t = { linked with sched := { rdy.sched with egress := [(511, ⟨[], [], some (copy7, 0), false, 0⟩)] } }) :
    (s.advance 1).selectFrame (511 : Fin 512) = some copy7 ∧ (s.egress (511 : Fin 512)).tx = none
      ∧ (s.egress (511 : Fin 512)).free ≤ s.elapsed + 1 ∧ s.laneLpbk (511 : Fin 512) = false ∧ copy7.stamp = .none
      ∧ (t.egress (511 : Fin 512)).tx = some (copy7, 0)
      ∧ 0 + 8 * (copy7.octets.length + 12) * nsUnit ≤ t.elapsed + 8 * 72 * nsUnit := by
  subst h k; decide

theorem witness_EgressAdmitsAndSends_host (s : State)
    (h : s = { rdy with
      regs := [(Reg.SCHED_HOST_SHP, 0)], osc := { rdy.osc with hostq := [⟨0, 0, false, []⟩] }, e0 := { rdy.e0 with link := true } }) :
    s.osc.hostq = [⟨0, 0, false, []⟩] ∧ (s.link (if s.rb Reg.OSC_HOSTQ_CFG 0 then .e1 else .e0)).link = true
      ∧ ((s.bucket hostKey).at_ s.elapsedNs).maySend = true := by
  subst h; decide

theorem witness_EgressAdmitsAndSends_looped (s : State) (f : QFrame) (h : f = { copy7 with octets := objFrame 6 })
    (k : s = { linked with
      regs := [(laneWord 511 0, 0xC0000000)], sched := { rdy.sched with egress := [(511, ⟨[], [f], none, false, 0⟩)] } }) :
    s.Ready ∧ s.selectFrame (511 : Fin 512) = some f ∧ (s.egress (511 : Fin 512)).tx = none
      ∧ (s.egress (511 : Fin 512)).free ≤ s.elapsed ∧ s.laneLpbk (511 : Fin 512) = true ∧ f.stamp = .none
      ∧ isObject f.octets = true := by
  subst h k; decide +kernel

/-! ### Objects -/

/-- A READY device whose table holds a dynamic object with the given H and A, and sweeps from now on with 1 s intervals. -/
def sweeping (hit age : Bool) : State :=
  { rdy with
    regs := [(Reg.AGE_CFG, 2)]
    obj := { rdy.obj with ready := true, objs := [(5, some ⟨false, hit, age, none, false, 0, 1, 0⟩)], sweep := some ⟨0, 1, 0⟩ } }

theorem witness_SweepsAgeAndSearchesReport : (sweeping true false).InService ∧ (sweeping true false).obj.sweep = some ⟨0, 1, 0⟩
    ∧ (sweeping true false).rb Reg.AGE_CFG 1 = true
    ∧ ((sweeping true false).advance (ns 4768)).nowNs < 0 + 1 * 1000000000 ∧ 5 ≤ (5 : Fin 1048576).val
    ∧ ((sweeping true false).advance (ns 4768)).obj.sweep = some ⟨0, 1, 5⟩
    ∧ Sweep.instant ⟨0, 1, 5⟩ (5 : Fin 1048576).val ≤ ((sweeping true false).advance (ns 4768)).nowNs
    ∧ (sweeping true false).safe.active = false
    ∧ ((sweeping true false).advance (ns 4768)).objAt 5 = some ⟨false, true, false, none, false, 0, 1, 0⟩
    ∧ ((sweeping false true).advance (ns 4768)).objAt 5 = some ⟨false, false, true, none, false, 0, 1, 0⟩
    ∧ ((sweeping false false).advance (ns 4768)).objAt 5 = some ⟨false, false, false, none, false, 0, 1, 0⟩ := by decide +kernel

theorem witness_SweepsAgeAndSearchesReport_end (s : State) (h : s = (sweeping true false).advance (us 1000000)) :
    s.InService ∧ (∃ w, s.obj.sweep = some w ∧ w.start + w.interval * 1000000000 ≤ s.nowNs) := by
  subst h; exact ⟨by decide, _, rfl, by decide⟩

theorem witness_SweepsAgeAndSearchesReport_next (s : State) (h : s = sweeping false false) :
    bit 0x601 10 = true ∧ 512 < fld 0x601 9 0 ∧ fld 0x600 9 0 ≤ 512 ∧
    s.Ready ∧ s.obj.ready = true ∧ s.obj.flush = none ∧ fld 0xFFFFE 19 0 ≠ 0 ∧ fld 0xFFFFE 19 0 ≠ 0xFFFFF
      ∧ (s.obj.objs.map (·.1)).find? (fun n => decide (fld 4 19 0 < n) && (!(bit 0x400 10) || s.onLane n (fld 0x400 9 0)))
        = some 5 ∧ 5 < 2 ^ 20 := by
  subst h; decide

theorem witness_ObjectsAreFlushedInsertedAndDeleted (s : State) (h : s = sweeping true false) :
    s.Ready ∧ s.obj.ready = true ∧ s.obj.flush = none ∧ fld 511 9 0 ≤ 511 ∧ fld 0xFFFFE 19 0 ≠ 0 ∧ fld 0xFFFFE 19 0 ≠ 0xFFFFF
      ∧ fld 512 9 0 ≤ 512 ∧ fld 512 29 28 ≠ 3 ∧ bit 0 31 = false ∧ (bit 512 31 = true → fld 512 9 0 ≠ 512)
      ∧ s.nStatic < 16384 ∧ (∃ e, s.objAt 5 = some e ∧ e.static_ = false ∧ e.lane = fld 0 9 0) := by
  subst h; exact ⟨by decide, by decide, by decide, by decide, by decide, by decide, by decide, by decide, by decide, by decide,
    by decide, _, rfl, rfl, rfl⟩

theorem witness_ObjectsAreFlushedInsertedAndDeleted_static (s : State)
    (h : s = { sweeping true false with obj := { (sweeping true false).obj with
      objs := [(1, some ⟨true, false, false, none, false, 512, 0, 0⟩)], words := [(1, some 16383)] } }) :
    fld 1 19 0 ≠ 0 ∧ fld 1 19 0 ≠ 0xFFFFF ∧ (s.objAt (fld 1 19 0)).isSome = true
      ∧ tget noWord s.obj.words (fld 1 19 0) = some 16383 := by
  subst h; decide

theorem witness_ObjectsAreFlushedInsertedAndDeleted_done (s : State)
    (h : s = { rdy with obj := { rdy.obj with flush := some (ord, 2 ^ 20 - 1) } }) :
    s.InService ∧ s.obj.flush = some (ord, 2 ^ 20 - 1) ∧ 2 ^ 20 - 1 < 2 ^ 20 := by
  subst h; decide

/-! ### Egress scheduling -/

theorem witness_ShapersAreWrittenAndCopied (s : State) (h : s = { rdy with regs := [(Reg.SCHED_SEL, 511)] }) :
    s.Ready ∧ s.shaperAt (0x8A0 : Fin 4096) = some (5631, 0) ∧ s.shaperAt (0x8A4 : Fin 4096) = some (5631, 1) ∧ 5631 < hostKey
      ∧ fld 1 9 0 ≠ 0 ∧ fld 511 8 0 + fld 1 9 0 ≤ 512 := by
  subst h; decide

theorem witness_GatesTakeOver : rdy.Ready ∧ fld 1 9 0 ≠ 0 ∧ fld 511 8 0 + fld 1 9 0 ≤ 512
    ∧ (rdy.gate 511).pend = none ∧ rdy.badBank 511 (!(rdy.gate 511).act) = false
    ∧ (rdy.egress (511 : Fin 512)).tx = none := by decide

theorem witness_GatesTakeOver_all (i : Nat) (h : fld 511 8 0 ≤ i) (k : i < fld 511 8 0 + fld 1 9 0) :
    (rdy.gate i).pend = none ∧ rdy.badBank i (!(rdy.gate i).act) = false := by
  have h1 : fld 511 8 0 = 511 := by decide
  have h2 : fld 1 9 0 = 1 := by decide
  obtain rfl : i = 511 := by omega
  decide

theorem witness_GatesTakeOver_switch (s : State)
    (h : s = { rdy with sched := { rdy.sched with gates := [(511, ⟨true, some 0, 0⟩)], applies := [(511, [511])] } }) :
    s.InService ∧ (s.gate (511 : Fin 512)).pend = some 0 ∧ 0 ≤ (s.advance 0).nowNs
      ∧ (511, [(511 : Fin 512).val]) ∈ s.sched.applies := by
  subst h; decide

/-! ### Network time -/

theorem witness_TimeCommandsSteerTheServo : rdy.Ready ∧ 1000000000 ≤ (0x3B9ACA00 : Word).toNat
    ∧ (0x3B9AC9FF : Word).toNat < 1000000000
    ∧ ((fld 0 15 0 * 2 ^ 32 + (0 : Word).toNat) * 1000000000 + (0 : Word).toNat) * nsUnit < (rdy.advance 1).now
    ∧ (rdy.advance 0).now ≤ ((fld 0 15 0 * 2 ^ 32 + (0 : Word).toNat) * 1000000000 + (0 : Word).toNat) * nsUnit
    ∧ rdy.epoch.held = none ∧ rdy.time.servo.jump = none ∧ rdy.time.servo.path = false := by decide

/-- A READY device with a recorded jump, a path step and a backward slew. -/
def jumped (j : Int) : State :=
  { rdy with time := { rdy.time with servo := { rdy.time.servo with jump := some j, path := true, slew := some 1, state := 3 } } }

theorem witness_TimeCommandsSteerTheServo_accept : (jumped 0).Ready ∧ (jumped 0).time.servo.jump = some 0 ∧ (0 : Int) ≤ 0
    ∧ (jumped (-1)).time.servo.jump = some (-1) ∧ (-1 : Int) < 0 ∧ (jumped (-1)).epoch.held = none
    ∧ (jumped 0).time.servo.path = true ∧ (jumped 0).time.servo.slew = some 1
    ∧ ((jumped 0).advance 0).slewLeft.natAbs ≤ (jumped 0).stepLimit := by decide

theorem witness_TimeSourcesComeAndGo (s t : State)
    (h : s = { rdy with regs := [(Reg.TIME_CFG, 0x10000000)] })
    (k : t = { rdy with time := { rdy.time with
      trefOk := true
      servo := { rdy.time.servo with tref := true, everLocked := true }
      slave := some 511
      parent := 9
      ports := [(511, { portDefault 0 with masters := [⟨0, 0, 0, 0, 0, 9, none, 0, 0, 0, 0, 0xA0⟩] })] } }) :
    s.InService ∧ s.time.servo.tref = false ∧ s.time.trefOk = false ∧ s.rf Reg.TIME_CFG 29 28 = 1 ∧ s.time.servo.noPps = false
      ∧ s.time.edge.getD 0 + 2 * second ≤ s.elapsed + 2 * second
      ∧ t.InService ∧ t.time.servo.tref = true ∧ t.time.lossAt + us 1000000 ≤ t.elapsed + us 1000000
      ∧ t.masterPort (511 : Fin 512) = false ∧ t.heardAt (511 : Fin 512) = some 0
      ∧ 0 + t.announceTime ≤ t.elapsed + t.announceTime ∧ t.time.slave = some (511 : Fin 512).val
      ∧ t.rf Reg.TIME_CFG 29 28 = 0 ∧ t.time.servo.everLocked = true := by
  subst h k; decide

/-- A READY device that takes PPS edges and gives pulses, with the time source asked for, after an edge at the start. -/
def pulsed (src : Word) : State :=
  { rdy with
    regs := [(Reg.TIME_CFG, src), (Reg.PPS_CFG, 0xC0000000), (Reg.PPS_OUT_WIDTH, 1)]
    time := { rdy.time with edge := some 0, trefOk := true } }

theorem witness_PulsesAndMessagesAreTimed : (pulsed 0).InService ∧ (pulsed 0).rb Reg.PPS_CFG 30 = true
    ∧ (pulsed 0).time.edge = some 0 ∧ (pulsed 0).elapsed + (second / 2 - 1) < 0 + second / 2
    ∧ 0 + second / 2 ≤ (pulsed 0).elapsed + second / 2 ∧ (pulsed 0).rf Reg.TIME_CFG 29 28 ≠ 1
    ∧ (pulsed 0).time.servo.noPps = false
    ∧ max ((pulsed 0).time.edge.getD 0) (pulsed 0).time.missAt + second ≤ (pulsed 0).elapsed + second := by decide

theorem witness_PulsesAndMessagesAreTimed_source (s : State) (h : s = pulsed 0x10000000) :
    s.InService ∧ s.rb Reg.PPS_CFG 30 = true ∧ 0 + second / 2 ≤ s.elapsed + second ∧ s.rf Reg.TIME_CFG 29 28 = 1
      ∧ s.time.servo.path = false ∧ s.time.path.suspended = false ∧ s.time.servo.slew = none ∧ s.time.servo.jump = none
      ∧ (nearSecond (((s.advance second).now : Int) + sx 16 (s.rf Reg.PPS_IN_COMP 15 0) * nsUnit)).2.natAbs ≤ s.stepLimit
      ∧ s.time.servo.state ≠ 3 := by
  subst h; decide

theorem witness_PulsesAndMessagesAreTimed_out (s : State)
    (h : s = { pulsed 0 with time := { (pulsed 0).time with ppsOut := true } }) :
    (nearSecond ((((pulsed 0).advance (10 * nsUnit)).now : Int) - sx 16 ((pulsed 0).rf Reg.PPS_OUT_COMP 15 0) * nsUnit))
        = ((0 : Int), (10 * nsUnit : Int))
      ∧ (pulsed 0).rb Reg.PPS_CFG 31 = true ∧ (pulsed 0).time.trefOk = true ∧ (10 * nsUnit : Int).natAbs ≤ 10 * nsUnit
      ∧ (pulsed 0).time.ppsSec ≠ some (0 : Int).toNat ∧ (pulsed 0).time.ppsOut = false
      ∧ s.time.ppsOut = true ∧ s.time.ppsAt + us (s.rf Reg.PPS_OUT_WIDTH 19 0) ≤ s.elapsed + us 1 := by
  subst h; decide

theorem witness_PulsesAndMessagesAreTimed_messages (s : State)
    (h : s = { linked with regs := [(Reg.PTP_CFG, 0x80000000), (Reg.PTP_MEMBER0 + 60, 0x80000000)] }) :
    s.InService ∧ s.dev.state = 1 ∧ s.ptpMember (511 : Fin 512) = true ∧ s.masterPort (511 : Fin 512) = true := by
  subst h; decide

theorem witness_PulsesAndMessagesAreTimed_requests (s t : State)
    (h : s = { linked with
      regs := [(Reg.PTP_CFG, 0x60000000), (Reg.PTP_MEMBER0 + 60, 0x80000000)], time := { rdy.time with slave := some 511 } })
    (k : t = { linked with regs := [(Reg.PTP_CFG, 0x40000000), (Reg.PTP_MEMBER0 + 60, 0x80000000)] }) :
    (s.ptpMember (511 : Fin 512) = true ∧ (s.role = 3 ∨ s.role = 4) ∧ s.time.slave = some (511 : Fin 512).val ∧ s.peerDelay = false)
      ∧ t.ptpMember (511 : Fin 512) = true ∧ t.peerDelay = true ∧ t.role ≤ 4 := by
  subst h k; decide

/-! ### The Ehreri link -/

/-- A READY device, address 63, whose port E0 has LINK and nothing outstanding. -/
def chained : State :=
  { rdy with
    chain := { rdy.chain with enumerated := true, addr := 63 }
    e0 := { rdy.e0 with link := true, blockLock := true, since := some 0 } }

theorem witness_LinksRiseAndFall (s : State)
    (h : s = { rdy with e1 := { rdy.e1 with blockLock := true, since := some 0, out := [⟨0, 1⟩] } }) :
    s.InService ∧ (s.link .e1).since = some 0 ∧ (s.link .e1).link = false ∧ 0 + us 1000 ≤ s.elapsed + us 1000
      ∧ (chained.link .e0).link = true ∧ (chained.link .e0).hiBer = false
      ∧ bit (if s.strict .e1 then 0 else 0x40000000) 30 ≠ s.strict .e1 ∧ (s.link .e1).out ≠ [] ∧ (chained.link .e0).out = []
      ∧ (bit (chained.reg (Reg.EHR_CFG .e0)) 31 = chained.fecEn .e0 ∧ bit (chained.reg (Reg.EHR_CFG .e0)) 29 = chained.ehrLpbk .e0)
      ∧ bit (~~~chained.reg (Reg.EHR_CFG .e0)) 31 ≠ chained.fecEn .e0 := by
  subst h; decide

/-- A good frame for it. -/
def frm (len : BitVec 16) (addr : Word) (payload : List Word) : LinkFrame :=
  ⟨.good, 0x88B5, 2, 1, false, false, false, 63, 7, 9, len, addr, 0, 0, payload⟩

theorem witness_RequestsReadAndWrite_read (f : LinkFrame) (h : f = frm 1 0x78040 []) :
    chained.Takes .e0 0 f ∧ f.len ≠ 0 ∧ malformed 0 f (locate 0x78040).1 (locate 0x78040).2 = false
      ∧ ∀ i, i < f.len.toNat → chained.plainWord (0x78040 + 4 * i) (locate 0x78040).1 = true := by
  subst h; decide

theorem witness_RequestsReadAndWrite_rmw (f : LinkFrame) (h : f = frm 2 0x78014 [1, 1]) :
    chained.Takes .e0 3 f ∧ malformed 3 f (locate 0x78014).1 (locate 0x78014).2 = false
      ∧ chained.plainWord 0x78014 (locate 0x78014).1 = true := by
  subst h; decide

theorem witness_RequestsReadAndWrite_write (f : LinkFrame) (h : f = frm 1 0x78014 [1]) :
    chained.Takes .e0 1 f ∧ chained.Takes .e0 2 f ∧ f.len ≠ 0
      ∧ malformed 1 f (locate 0x78014).1 (locate 0x78014).2 = false
      ∧ f.len = 1 ∧ f.payload = [1] ∧ 0x78014 = Reg.base 0x78 + 0x014 ∧ 0x78 < 128 ∧ (pageInfo 0x78).isSome = true
      ∧ f.ackreq = false := by
  subst h; decide

theorem witness_RequestsReadAndWrite_command (f : LinkFrame) (i : PageInfo) (h : f = frm 1 0x11040 [1])
    (k : pageInfo 0x11 = some i) :
    chained.Takes .e0 4 f ∧ f.len ≠ 0 ∧ (locate 0x11040).1 = .page 0x11 i
      ∧ malformed 4 f (locate 0x11040).1 (locate 0x11040).2 = false ∧ i.cmd ≠ 0 ∧ 0x11040 % 0x1000 = i.cmd := by
  have k' : i = (pageInfo 0x11).get (by decide) := by simp [k]
  subst h k'; decide

theorem witness_FramesTravelTheLink : chained.Takes .e0 9 (frm 0 0 []) ∧ crooked (frm 0 0 []) = false
    ∧ chained.Takes .e0 9 (frm 0 2 []) ∧ crooked (frm 0 2 []) = true ∧ chained.Takes .e0 15 (frm 0 0 [])
    ∧ 10 ≤ (15 : BitVec 4).toNat ∧ chained.Takes .e0 7 (frm 352 0 (List.replicate 352 0)) ∧ (0 : Word).toNat % 4 = 0
    ∧ (352 : BitVec 16).toNat ≤ 352 ∧ bit 0 31 = false ∧ fld 0 9 0 = 0 ∧ (chained.link .e0).asmOpen = false := by decide

theorem witness_FramesTravelTheLink_forward (s : State) (f : LinkFrame)
    (h : s = { chained with e1 := { rdy.e1 with link := true } }) (k : f = { frm 0 0 [] with dev := 0 }) :
    2 ≤ s.lifeState ∧ f.fcs = .good ∧ headed f = true ∧ s.named f = false ∧ toAll 1 f = false ∧ (s.link .e0).link = true
      ∧ s.ehrLpbk .e0 = false ∧ (s.link (otherPort .e0)).link = true ∧ (chained.link (otherPort .e0)).link = false
      ∧ chained.named f = false ∧ s.ehrLpbk (otherPort .e0) = false
      ∧ { s with regs := [(Reg.EHR_CFG .e1, 0x20000000)] }.ehrLpbk (otherPort .e0) = true := by
  subst h k; decide

theorem witness_FramesTravelTheLink_enum (s : State) (h : s = { chained with e1 := { rdy.e1 with link := true } }) :
    s.InService ∧ (frm 1 0 [63]).fcs = .good ∧ headed (frm 1 0 [63]) = true ∧ (frm 1 0 [63]).payload = [63]
      ∧ crooked (frm 1 0 [63]) = false ∧ (frm 1 0 [63]).len ≠ 0 ∧ s.Admits .e0 (frm 1 0 [63]) ∧ chained.Admits .e0 (frm 1 0 [63])
      ∧ s.e0.link = true ∧ s.ehrLpbk .e0 = false ∧ bit 63 31 = false ∧ fld 63 6 0 ≤ 63
      ∧ s.e1.link = true ∧ chained.e1.link = false
      ∧ bit 65 31 = false ∧ 64 ≤ fld 64 6 0 ∧ 64 < fld 65 6 0 ∧ headed (frm 1 0 [65]) = true ∧ crooked (frm 1 0 [65]) = false
      ∧ headed (frm 1 0 [0xC0000040]) = true ∧ bit 0xC0000040 31 = true ∧ s.chain.enumerated = true ∧ 1 ≤ fld 0xC0000040 6 0
      ∧ fld 0xC0000040 6 0 ≤ 64 ∧ (frm 1 0 [0xC0000040]).ackreq = false := by
  subst h; decide

theorem witness_FramesTravelTheLink_events (s : State)
    (h : s = { chained with chain := { chained.chain with queue := [⟨0x1202, 7, 0, 1, 0, [], 0⟩] } }) :
    s.InService ∧ s.eventPort = some .e0 ∧ fitting 1 352 s.chain.queue ≠ 0 ∧ s.chain.queue.length ≤ 1024
      ∧ s.chain.dropped = 0 := by
  subst h; decide

/-! ### Register pages -/

theorem witness_RegistersAreWritten : rdy.Ready ∧ (pageInfo (4 * (0x11005 : Fin 131072).val / 0x1000)).isSome = true
    ∧ 4 * (0x11004 : Fin 131072).val % 0x1000 = 0x010 ∧ 4 * (0x11005 : Fin 131072).val % 0x1000 = 0x014
    ∧ bit 0x80000000 31 = true := by decide

theorem witness_RegistersAreWritten_withheld (s : State) (w : Withheld) (hw : w = ⟨0, 0x13, 3, 0x1204, [3]⟩)
    (h : s = { rdy with chain := { rdy.chain with withheld := [w] } }) :
    rdy.chain.withheld = [] ∧ w ∈ s.chain.withheld ∧ w.time = s.now ∧ w.page = 4 * (0x4C04 : Fin 131072).val / 0x1000
      ∧ bit 8 w.bit = true ∧ s.formed w.page w.code = true
      ∧ s.chain.queue.length + s.chain.withheld.length ≤ 1024 := by
  subst h hw; decide

theorem witness_RegistersAreWritten_counter (i : PageInfo) (k : pageInfo 0x78 = some i) :
    ∃ r ∈ blockRows 0x78, r.counter = true ∧ 4 * (Reg.TIME_STEP_CNT / 4) % 0x1000 = r.off ∧ i.cmd ≠ r.off
      ∧ (rdy.advance 0).hookWrite none Reg.TIME_STEP_CNT 0x80000000 = none := by
  have k' : i = (pageInfo 0x78).get (by decide) := by simp [k]
  subst k'; decide

theorem witness_RegistersAreWritten_peer : Reg.EHR_PEER_LO .e1 % 4 = 0 ∧ Reg.EHR_PEER_LO .e1 / 4 < 131072
    ∧ (pageInfo (Reg.EHR_PEER_LO .e1 / 0x1000)).isSome = true
    ∧ Reg.EHR_PEER_LO .e1 % 0x1000 + 4 * ([0, 0] : List Word).length ≤ 0x1000 := by decide

theorem witness_RegistersAreWritten_reads :
    (0x401FFFF8 : Word).toNat % 4 = 0 ∧ (locate (0x401FFFF8 : Word).toNat).1 ≠ .nowhere
      ∧ groupOf (0x401FFFF8 : Word).toNat (locate (0x401FFFF8 : Word).toNat).1 = some ((0x401FFFF8 : Word).toNat, 2)
      ∧ rdy.unready (0x401FFFF8 : Word).toNat (locate (0x401FFFF8 : Word).toNat).1 = false
      ∧ rdy.plainWord 0x78014 (locate 0x78014).1 = true ∧ (locate 0x78014).1 ≠ .nowhere ∧ (locate 0x78014).1 ≠ .frames
      ∧ Reg.MTX_WAIT_MAX_T0 % 4 = 0 ∧ pageInfo (127 : Fin 128) = none := by
  decide

theorem witness_RegistersAreWritten_reset (s : State)
    (h : s = { rdy with regs := [(Reg.base 0 + 0x024, 0x5AFE), (Reg.base 0x79 + 0x024, 0x5AFE)] }) :
    s.rf (Reg.base 0 + 0x024) 15 0 = 0x5AFE ∧
    (pageInfo (121 : Fin 128)).isSome = true ∧ (121 : Fin 128).val ≠ 0
      ∧ s.rf (Reg.base (121 : Fin 128) + 0x024) 15 0 = 0x5AFE
      ∧ (121 : Fin 128).val ≠ 3 ∧ (121 : Fin 128).val ≠ 11 ∧ (121 : Fin 128).val ≠ 12 ∧ (121 : Fin 128).val ≠ 120 := by
  subst h; decide

theorem witness_RegistersAreWritten_masters : (∀ t, t < 8 → pathExists (fld 0 (4 * t + 3) (4 * t)) t = true)
    ∧ (∃ t, t < 8 ∧ pathExists (fld 0x0000F000 (4 * t + 3) (4 * t)) t = false)
    ∧ fld 0 8 0 = 0 ∧ fld 0x1FF 8 0 % 2 ^ 7 ≠ 0 ∧ fld 0x180 8 0 ≠ 0 ∧ fld 0x180 8 0 % 2 ^ 7 = 0 ∧ bit 0x180 7 = true
    ∧ bit 0x180 8 = true ∧ (1 : BitVec 16) ≠ 0 := by decide

/-! ### Temperature, self-test and journal -/

theorem witness_TemperatureSetsTheLimits (s : State)
    (h : s = { rdy with therm := { rdy.therm with wUp := 7, tUp := 7, sUp := 7, bad := 7 } }) :
    s.InService ∧ s.therm.trip = false ∧ s.therm.sfault = false ∧ (-960 : Int) ≤ 2560 ∧ (2560 : Int) ≤ 2560 ∧ s.therm.warn = false
      ∧ s.therm.thr = false ∧ levelOf (s.reg Reg.THM_SHUTDOWN) ≤ 2560 ∧ 8 ≤ s.therm.sUp + 1
      ∧ (-960 : Int) < levelOf (s.reg Reg.THM_SHUTDOWN) ∧ s.therm.shut = false
      ∧ ((2561 : Int) < -960 ∨ (2560 : Int) < 2561) := by
  subst h; decide

theorem witness_TemperatureSetsTheLimits_writes : rdy.Ready
    ∧ levelOf (0 &&& 0x1FFFFF) < levelOf (rdy.reg Reg.THM_THROTTLE)
    ∧ levelOf (rdy.reg Reg.THM_THROTTLE) < levelOf (rdy.reg Reg.THM_SHUTDOWN)
    ∧ levelOf (rdy.reg Reg.THM_THROTTLE) ≤ levelOf (rdy.reg Reg.THM_THROTTLE &&& 0x1FFFFF)
    ∧ levelOf (rdy.reg Reg.THM_WARN) < levelOf (rdy.reg Reg.THM_THROTTLE &&& 0x1FFFFF)
    ∧ levelOf (rdy.reg Reg.THM_THROTTLE) < levelOf (w32 (at_ 20 16 (max (fld 0x7FFF 20 16) 10)
      + (if 2080 < levelOf 0x7FFF then 2080 else fld 0x7FFF 15 0))) ∧ fld 3 1 0 = 3 ∧ fld 2 1 0 ≠ 3 := by decide

theorem witness_TemperatureSetsTheLimits_limit (s t : State)
    (h : s = { rdy with therm := { rdy.therm with large := true, low := true, limit := 68 } })
    (k : t = { rdy with
      therm := { rdy.therm with marks := [511] }, epoch := { rdy.epoch with active := [{ circ 511 0 0 with cls := 2 }] } }) :
    s.InService ∧ s.therm.large = true ∧ s.therm.limitAt + (if s.therm.low then us 1000000 else 5 * us 1000000)
        ≤ s.elapsed + us 1000000
      ∧ s.therm.limit < 70 ∧ s.therm.skip = false ∧ min 6800 0xFFFF ≤ 100 * s.therm.limit
      ∧ 100 * s.therm.limit < min 6801 0xFFFF ∧ { s with therm := { s.therm with skip := true } }.therm.skip = true
      ∧ t.InService ∧ t.therm.marks ≠ [] ∧ t.trans.running = false ∧ t.epoch.prep = none ∧ t.bell.fulls = [] := by
  subst h k; decide

/-- A READY device whose plane A tests itself. -/
def testing (st : PlaneSt) : State := { rdy with pla := { rdy.pla with st := st, rung := true } }

theorem witness_SlicesMakeRuns : (testing .start).InService ∧ ((testing .start).bistOf .a).slice = none
    ∧ tilesFrom ((testing .start).bistOf .a).ty ((testing .start).bistOf .a).tile = some 0
    ∧ ((testing .start).advance 0).mayTest .a 0 = true ∧ ((testing .active).plane .a).st = .active
    ∧ fld 0x0F0 7 4 ≠ 0 ∧ fld 0xFF 7 0 ≠ 0 ∧ fld 0x0F0 31 8 = 0 ∧ bit 0x0F0 0 = (Plane.a == .b)
    ∧ ((testing .active).plane .a).st = .active ∧ (testing .active).bist.job = none
    ∧ ((testing .start).plane .a).st ≠ .active ∧ ((testing .start).plane .a).st ≠ .standby := by decide +kernel

theorem witness_SlicesMakeRuns_last : tilesFrom 2 (2 + 1) = some 3 := by decide +kernel

theorem witness_SlicesMakeRuns_slice (s : State)
    (h : s = { testing .active with
      safe := { rdy.safe with active := true }
      bist := { rdy.bist with a := { rdy.bist.a with ty := 2, tile := 2, slice := some (2, 2, 1, 0) }, job := some ⟨ord, .b, [0], false, false⟩ } }) :
    s.InService ∧ (s.bistOf .a).slice = some (2, 2, 1, 0) ∧ s.elapsed + us 1 ≤ 0 + us 1 ∧ 0 + us 1 ≤ s.elapsed + us 1
      ∧ (s.bistOf .a).ty = 2 ∧ (s.bistOf .a).tile = 2 ∧ s.safe.active = true ∧ s.bist.job ≠ none
      ∧ s.nowAt Reg.BIST_LAST_SLICE ≤ 4096 * planeIdx .a + 1024 * 2 + 2 + 1 := by
  subst h; decide

theorem witness_TheJournalRecordsMaps (s t : State) (h : s = { rdy with regs := [(Reg.base 0x09 + 0x024, 0x9E11)] })
    (k : t = { rdy with jrnl := { rdy.jrnl with wipeOrd := some ord, rec_ := some ⟨1, 1, 0, []⟩ } }) :
    s.Ready ∧ s.jrnl.wiping = false ∧ s.jrnl.orders = [] ∧ s.lifeState ≠ 3
      ∧ { s with dev := { s.dev with marker := 8 } }.lifeState = 3 ∧ s.rf (Reg.base 0x09 + 0x024) 15 0 = 0x9E11
      ∧ rdy.rf (Reg.base 0x09 + 0x024) 15 0 ≠ 0x9E11 ∧ t.InService ∧ t.jrnl.wipeOrd = some ord
      ∧ t.jrnl.rec_ = some ⟨1, 1, 0, []⟩ ∧ t.jrnl.orders = [] := by
  subst h k; decide

theorem witness_TheJournalRecordsMaps_record (s : State)
    (h : s = { rdy with dev := { rdy.dev with restoreDone := true }, jrnl := { rdy.jrnl with orders := [(ord, [])] } }) :
    s.InService ∧ (s.advance 0).mayRecord = true ∧ s.jrnl.slot = none ∧ s.jrnl.orders = [(ord, [])]
      ∧ sameWords [] [] = true := by
  subst h; decide +kernel

/-! ### Resets, the start and the return -/

theorem witness_ResetsBeginAndEnd (s : State)
    (h : s = { rdy with dev := { rdy.dev with inReset := some 5, softFrom := some 0 } }) :
    2 ≤ rdy.lifeState ∧ rdy.dev.nresetLow = false ∧ rdy.jrnl.rec_ = none ∧ rdy.jrnl.wiping = false
      ∧ (s.pla.valid = true ∨ s.plb.valid = true) ∧ s.therm.trip = false ∧ s.drv.nclrLow = false ∧ s.safe.pin = false
      ∧ s.dev.inReset = some 5 ∧ s.dev.nresetLow = false ∧ s.dev.softFrom = some 0 ∧ 0 + us 10 ≤ s.elapsed + us 10
      ∧ s.dev.stateAfter 5 = 0
      ∧ rdy.Ready ∧ fld 0xFFFFC4A1 15 0 = 0xC4A1 ∧ fld 0xC4A0 15 0 ≠ 0xC4A1 := by
  subst h; decide

theorem witness_ResetsBeginAndEnd_rise (s : State)
    (h : s = { rdy with dev := { rdy.dev with inReset := some 2, nresetLow := true } }) :
    (s.pla.valid = true ∨ s.plb.valid = true) ∧ s.therm.trip = false ∧ s.drv.nclrLow = false ∧ s.safe.pin = false
      ∧ s.dev.inReset = some 2 ∧ s.dev.nresetLow = true ∧ s.dev.softFrom = none ∧ s.dev.stateAfter 2 = 0 := by
  subst h; decide

theorem witness_ResetsBeginAndEnd_held (s t : State)
    (h : s = { rdy with dev := { rdy.dev with state := 2, inReset := some 5, softFrom := some 0 } })
    (k : t = { rdy with dev := { rdy.dev with state := 0, inReset := some 4 }, therm := { rdy.therm with trip := true, cool := 999 } }) :
    s.dev.stateAfter 5 = 2 ∧ s.dev.inReset = some 5
      ∧ t.dev.inReset = some 4 ∧ t.therm.trip = true ∧ (-960 : Int) < releaseOf (t.reg Reg.THM_SHUTDOWN)
      ∧ 1000 ≤ t.therm.cool + 1 ∧ (t.pla.valid = true ∨ t.plb.valid = true) ∧ t.drv.nclrLow = false ∧ t.safe.pin = false
      ∧ t.dev.nresetLow = false ∧ t.dev.softFrom = none ∧ t.dev.stateAfter 4 = 0
      ∧ { t with therm := { t.therm with cool := 998 } }.therm.cool + 1 < 1000 := by
  subst h k; decide

theorem witness_ResetsBeginAndEnd_unpowered (s t : State)
    (h : s = { rdy with pla := { rdy.pla with valid := false }, plb := { rdy.plb with valid := false } })
    (k : t = { rdy with pla := { rdy.pla with valid := true }, dev := { rdy.dev with nresetLow := true }, tap := { rdy.tap with ir := .extest } }) :
    2 ≤ s.lifeState ∧ s.pla.valid = false ∧ s.plb.valid = false
      ∧ 2 ≤ t.lifeState ∧ (t.pla.valid = true ∨ t.plb.valid = true) ∧ t.tap.ir = .extest ∧ t.dev.nresetLow = true := by
  subst h k; decide

/-- A device in START that has everything R370 asks for, with the marker given. -/
def starting (m : Nat) : State :=
  { State.reset with
    dev := { State.reset.dev with fuseOk := some true, lasers := true, lockDone := true, marker := m }
    obj := { State.reset.obj with ready := true }
    token := { State.reset.token with holder := some .a } }

theorem witness_TheStartReachesReady : State.reset.InService ∧ State.reset.dev.state = 0 ∧ State.reset.dev.fuseOk = none
    ∧ State.reset.dev.wiped = false ∧ State.reset.dev.marker < 5
    ∧ (State.reset.dev.fuseOk ≠ some true)
    ∧ ((starting 4).InService ∧ (starting 4).dev.state = 0 ∧ (starting 4).dev.fuseOk = some true ∧ (starting 4).obj.ready = true
      ∧ (starting 4).token.holder ≠ none ∧ (starting 4).dev.lasers = true ∧ (starting 4).dev.lockDone = true
      ∧ (starting 4).therm.shut = false ∧ (starting 4).dev.marker < 5)
    ∧ (starting 5).InService ∧ 5 ≤ (starting 5).dev.marker
    ∧ us 300 ≤ State.reset.elapsed + us 300 ∧ State.reset.elapsed < us 300 := by decide

/-- The steps of the start in their order: the fuse array loaded for the wipes, the wipes done for the lasers. -/
theorem witness_TheStartReachesReady_steps (s t : State)
    (h : s = { State.reset with dev := { State.reset.dev with fuseOk := some true }, clock := { State.reset.clock with elapsed := us 2000 } })
    (k : t = { State.reset with dev := { State.reset.dev with wiped := true }, clock := { State.reset.clock with elapsed := us 22000 } }) :
    s.InService ∧ s.dev.state = 0 ∧ s.dev.fuseOk ≠ none ∧ s.dev.wiped = false ∧ us 2000 ≤ s.elapsed ∧ s.dev.marker < 5
      ∧ s.elapsed < us 22000 ∧ s.elapsed < us 55000
      ∧ t.InService ∧ t.dev.state = 0 ∧ t.dev.wiped = true ∧ us 22000 ≤ t.elapsed := by
  subst h k; decide

theorem witness_TheStartReachesReady_words (i : Nat) (_ : i < 16384) : State.reset.staticUsed i = false := by
  simp [State.staticUsed, State.reset, Memory.readWord, Memory.readByte, tget, Memory.empty, bit]

theorem witness_TheStartReachesReady_late (s : State)
    (h : s = { State.reset with dev := { State.reset.dev with lockAt := some 0 } }) :
    s.dev.lockAt = some 0 ∧ s.dev.lockDone = false ∧ 0 + us 50000 ≤ s.elapsed + us 50000 := by
  subst h; decide

theorem witness_ReturnIsOrderedTwice : rdy.Ready ∧ rdy.lifeState = 2 ∧ rdy.serialLo = rdy.serialLo
    ∧ fld 0x4C43 15 0 = 0x4C43 ∧ fld 0x4C42 15 0 ≠ 0x4C43 ∧ rdy.dev.armed = none := by
  exact ⟨by decide, by decide, rfl, by decide, by decide, by decide⟩

theorem witness_ReturnIsOrderedTwice_commit (s t : State)
    (h : s = { rdy with dev := { rdy.dev with armed := some (.e0, 1) } })
    (k : t = { s with dev := { s.dev with returning := true, marker := 5 } }) :
    t.Ready ∧ t.lifeState = 3 ∧ t.dev.state = 1 ∧ s.Ready ∧ s.lifeState ≠ 3 ∧ s.dev.armed = some (.e0, 1) ∧ Port.e0 = ord.port ∧ Port.e0 ≠ cmdOrd.port ∧ s.epoch.active = []
      ∧ s.epoch.prep = none ∧ 1 ≤ s.elapsed + 1 ∧ s.elapsed + 0 < 1 ∧ fld 0xB3BC 15 0 = 0xB3BC ∧ fld 0 15 0 ≠ 0xB3BC
      ∧ t.dev.returning = true := by
  subst k h; decide

theorem witness_ReturnIsOrderedTwice_diag (s : State) (h : s = { rdy with dev := { rdy.dev with state := 3, marker := 5 } }) :
    s.InService ∧ s.dev.state = 3 := by
  subst h; decide

/-! ### Commands the checks refuse -/

theorem test_wf_injection : (Instr.injectionRequest 0 .a 0 .sheep 16 0 0 true).wf = false
    ∧ (Instr.injectionRequest 0 .a 0 .sheep 15 0 0 true).wf = true := by decide
theorem test_wf_calDone (l : List CalReading) (h : l.length = 4865) : (Instr.calDone 0 .a l).wf = false := by
  show decide (l.length ≤ 4864) = false; rw [h]; decide
theorem test_wf_ringCalibration (l : List RingResidual) (h : l.length = 609) : (Instr.ringCalibration 0 .a l).wf = false := by
  show decide (l.length ≤ 608) = false; rw [h]; decide
theorem test_wf_sliceEnd (l : List (CheckReading × CheckReading)) (h : l.length = 25) :
    (Instr.sliceEnd 0 .a l).wf = false := by
  show decide (l.length ≤ 24) = false; rw [h]; decide
theorem test_wf_fuseLoadDone : (Instr.fuseLoadDone 0 [3] [3]).wf = false := by decide
theorem test_wf_frameReceive (l : List Byte) (h : l.length = 65536) : (Instr.frameReceive 0 0 ⟨true, true, l⟩).wf = false := by
  show decide (l.length ≤ 65535) = false; rw [h]; decide
theorem test_wf_tempSample : (Instr.tempSample 0 none 65535 1).wf = false ∧ (Instr.bulkEvaluation 0 65536).wf = false := by decide

/-- A frame with one word more than a payload holds. -/
def long : LinkFrame := frm 0 0 (List.replicate 353 0)

theorem test_wf_frames : (Instr.read 0 .e0 long).wf = false ∧ (Instr.write 0 .e0 long).wf = false
    ∧ (Instr.writePosted 0 .e0 long).wf = false ∧ (Instr.rmw 0 .e0 long).wf = false ∧ (Instr.command 0 .e0 long).wf = false
    ∧ (Instr.frame 0 .e0 long).wf = false ∧ (Instr.ping 0 .e0 long).wf = false ∧ (Instr.forward 0 .e0 0 long).wf = false
    ∧ (Instr.enumAssign 0 .e0 long).wf = false ∧ (Instr.enumFinal 0 .e0 long).wf = false
    ∧ (Instr.invalidOpcode 0 .e0 15 long).wf = false := by decide +kernel
theorem test_wf_enum : (Instr.enumAssign 0 .e0 (frm 1 0 [0x80000000])).wf = false
    ∧ (Instr.enumFinal 0 .e0 (frm 1 0 [0x7FFFFFFF])).wf = false ∧ (Instr.enumFinal 0 .e0 (frm 0 0 [])).wf = false := by decide
theorem test_wf_invalidOpcode : (Instr.invalidOpcode 0 .e0 9 (frm 0 0 [])).wf = false
    ∧ (Instr.invalidOpcode 0 .e0 10 (frm 0 0 [])).wf = true := by decide
theorem test_wf_registers : (Instr.snapshotRead 0 .e0 2).wf = false ∧ (Instr.multiwordWrite 0 .e0 0 []).wf = false
    ∧ (Instr.multiwordWrite 0 .e0 1023 [0, 0]).wf = false ∧ (Instr.multiwordWrite 0 .e0 1023 [0]).wf = true := by decide

/-! ### Small computations -/

/-- The manual's example under R114. -/
theorem test_upstream_example : 4 * 256 + rowOf 198 4 = 1126 ∧ sideOf 198 4 = 0
    ∧ 2 * cellOf 198 3 + sideOf 198 3 = 1740 := by decide
/-- The manual's examples under Table REG-5. -/
theorem test_page_header : rdy.present 0x26000 (locate 0x26000).1 = 0x01010626
    ∧ rdy.present 0x14004 (locate 0x14004).1 = 0x28400070 := by decide
/-- The check value of CRC-32C over the digits 1 to 9 (R349). -/
theorem test_crc : ([0x31, 0x32, 0x33, 0x34, 0x35, 0x36, 0x37, 0x38, 0x39].foldl crcByte 0xFFFFFFFF) ^^^ 0xFFFFFFFF
    = 0xE3069283 := by decide +kernel
/-- The manual's example under Table BIST-5. -/
theorem test_neighbour_example : neighbour 3820 1 = some 3818 ∧ neighbourCoef [(0x1FCB1, 31)] 8 0 1 = 31 := by decide
/-- R22: S16 acts on bit 0 again; line 2j + 1 enters row j on side 1. -/
theorem test_stages : stageBit 8 = 8 ∧ stageBit 9 = 7 ∧ stageBit 16 = 0 ∧ cellOf 511 16 = 4351 ∧ sideOf 511 16 = 1 := by decide
/-- R314: COUNT stops at 0xFFFF with WRAP set. -/
theorem test_counter : bumpWord 0 = 1 ∧ bumpWord 0xFFFE = 0x8000FFFF ∧ bumpWord 0x8000FFFF = 0x8000FFFF
    ∧ bumpWord 0xFFFD = 0xFFFE := by decide
/-- R278: the least significant octet of a word lies at the lowest address; zeros are not listed. -/
theorem test_memory : Memory.writeWord [] 8 0x00120034 = [⟨8, 0x34⟩, ⟨10, 0x12⟩]
    ∧ Memory.writeWord [⟨8, 0x34⟩, ⟨10, 0x12⟩] 8 0 = [] := by decide
/-- Divisions truncate towards zero; two's complement fields. -/
theorem test_numbers : tdiv (-7) 2 = -3 ∧ sx 16 0x8000 = -32768 ∧ enc 16 (-1) = 0xFFFF ∧ clampI (-5) 5 9 = 5 := by decide
/-- EXTEST drives the output lands only while nRESET is low (R396). -/
theorem test_extest (s : State) (o : OutLands) (h : s = { rdy with tap := { rdy.tap with ir := .extest, drive := o } }) :
    s.extestDrives = false ∧ { s with pla := { s.pla with valid := true }, dev := { s.dev with nresetLow := true } }.lands
      = ⟨o.safeStat, o.thermTrip, some o.ppsOut, o.nint, o.nfault, none⟩ := by
  subst h; exact ⟨rfl, rfl⟩
/-- No row of the table gives bits. -/
theorem test_no_words : Sys2Proof.decodeTableWord 32 0 = none := rfl
/-- An empty queue idles (log 1). -/
theorem test_idle : step State.reset = .next State.reset := rfl
/-- A command at the front of the queue runs with the rest left waiting: WARM_ALL makes every cell warm (R27). -/
theorem test_front : ∃ t, step { rdy with pending := [.warmAll 3, .commit 4] } = .next t ∧ t.pending = [.commit 4] := by
  exact ⟨_, rfl, rfl⟩

end Sys2Proof.Tests
end

section
/-!
SUPPORT. Requests of opcodes 0x01 to 0x06 that R12 or R40 call bad: none is formed, and the command completes with BADARG
and changes nothing else.
-/

namespace Sys2Proof.Machine

/-- R12 for CONNECT. -/
theorem mkReq_connect_class_three {a0 a1 : Word} (hcls : fld a1 1 0 = 3) (stg : CMap) (res : Nat → Option Nat)
    (src seq : Nat) : mkReq stg res 1 a0 a1 src seq = none := if_pos hcls

/-- R12 for CONNECT_OBJ, whatever its objects are and resolve to. -/
theorem mkReq_connectObj_class_three {a0 a1 : Word} (hcls : fld a1 29 28 = 3) (stg : CMap) (res : Nat → Option Nat)
    (src seq : Nat) : mkReq stg res 2 a0 a1 src seq = none := if_pos (.inl hcls)

/-- R12 for DUPLEX, whether or not its two ports differ. -/
theorem mkReq_duplex_class_three {a0 a1 : Word} (hcls : fld a1 1 0 = 3) (stg : CMap) (res : Nat → Option Nat)
    (src seq : Nat) : mkReq stg res 4 a0 a1 src seq = none := if_pos (.inl hcls)

/-- The search for a repeat (R41) finds none exactly where no request of the order's source and sequence is listed. -/
theorem State.no_repeat_iff_unlisted (s : State) (o : Order) :
    (s.bell.list.any fun r => r.src == portSrc o.port && r.seq == o.seq.toNat) = false ↔ s.Unlisted o := by
  simp [State.Unlisted]

/-- Where requests may change the staging side and this one repeats none, one that cannot be formed only completes with
BADARG (R12, R40). -/
theorem State.request_badarg {s : State} {res : Nat → Option Nat} {op : Nat} {o : Order} {a0 a1 : Word}
    (hstg : s.Staging) (hnew : s.Unlisted o)
    (hbad : mkReq s.bell.stg res op a0 a1 (portSrc o.port) o.seq.toNat = none) :
    s.request res op o a0 a1 = s.complete 0x11 op cBADARG o := by
  obtain ⟨-, hrestore, hprep⟩ := hstg
  have hrepeat := (s.no_repeat_iff_unlisted o).2 hnew
  simp [State.request, hrepeat, hrestore, hprep, hbad]

/-- The command of such a request, dt after the one before it. -/
theorem State.runCmd_request_badarg {s : State} {dt op : Nat} {o : Order} {a0 a1 : Word}
    (hstg : (s.advance dt).Staging) (hnew : (s.advance dt).Unlisted o)
    (hbad : ∀ stg res src seq, mkReq stg res op a0 a1 src seq = none) :
    s.runCmd dt 0x11 op o (fun s => s.request s.objPort op o a0 a1)
      = .next (s.seal dt ((s.advance dt).complete 0x11 op cBADARG o)) := by
  have hready : s.Ready := (State.isReady_advance dt).1 hstg.1
  rw [State.runCmd_next _ _ _ _ _ _ hready, State.request_badarg hstg hnew (hbad _ _ _ _)]

/-- Settles O12: a class code of 3 keeps each of the three requests from being formed, whatever its other arguments. -/
theorem classThreeIsBad : Obligations.ClassThreeIsBad := by
  rintro dt o a0 a1 s _ rfl hstg hnew
  refine ⟨fun hcls => ⟨?connect, ?duplex⟩, fun hcls => ?connectObj⟩
  case connect => exact State.runCmd_request_badarg hstg hnew (mkReq_connect_class_three hcls)
  case duplex => exact State.runCmd_request_badarg hstg hnew (mkReq_duplex_class_three hcls)
  case connectObj => exact State.runCmd_request_badarg hstg hnew (mkReq_connectObj_class_three hcls)

end Sys2Proof.Machine
end

section
/-!
SUPPORT. The lines of a path bit by bit (R22, R23, R47): a stage changes bit d(s) alone, and leaves it as the route code
wants it up to stage S7 and as the output wants it from S8 on. So the low byte is the route code at S8, and the line is the
output after S16.
-/

namespace Sys2Proof.Machine

/-- The line that leaves stage s when line x meets a cell in the given state there (R23). -/
def CellState.pass (c : CellState) (x s : Nat) : Nat := if c = .cross then x ^^^ 2 ^ stageBit s else x

/-- The value R47 gives bit d(s) after stage s on the path to output o with route code mid, as a Boolean. -/
def wantedBit (o mid s : Nat) : Bool := if s < 8 then mid.testBit s else o.testBit (stageBit s)

theorem stageBit_of_le {s : Nat} (h : s ≤ 8) : stageBit s = s := if_pos h

/-- The stages from S8 on act on the bits downwards (R22). -/
theorem stageBit_of_ge {s : Nat} (h : 8 ≤ s) : stageBit s = 16 - s := by
  unfold stageBit; split <;> omega

theorem sideOf_eq_toNat (x s : Nat) : sideOf x s = (x.testBit (stageBit s)).toNat := (Nat.toNat_testBit ..).symm

theorem wantBit_eq_toNat (o mid s : Nat) : wantBit o mid s = (wantedBit o mid s).toNat := by
  unfold wantBit wantedBit
  by_cases h : s < 8
  · rw [if_pos (Nat.lt_succ_iff.mp h), if_pos h, Nat.toNat_testBit]
  · rw [if_neg (by omega), if_neg h, Nat.toNat_testBit]

/-- A line enters the side the path leaves on exactly where its bit d(s) is the one wanted already. -/
theorem sideOf_eq_wantBit_iff (x o mid s : Nat) :
    sideOf x s = wantBit o mid s ↔ x.testBit (stageBit s) = wantedBit o mid s := by
  rw [sideOf_eq_toNat, wantBit_eq_toNat]
  cases x.testBit (stageBit s) <;> cases wantedBit o mid s <;> decide

/-- A stage leaves every bit but d(s) alone (R22). -/
theorem testBit_pass_of_ne (c : CellState) (x : Nat) {s k : Nat} (h : k ≠ stageBit s) :
    (c.pass x s).testBit k = x.testBit k := by
  unfold CellState.pass
  split
  · simp [Nat.testBit_xor, h.symm]
  · rfl

/-- A cell in CROSS changes bit d(s), and no other state does (R23). -/
theorem testBit_pass_stageBit (c : CellState) (x s : Nat) :
    (c.pass x s).testBit (stageBit s) = (x.testBit (stageBit s) ^^ decide (c = .cross)) := by
  unfold CellState.pass
  split <;> simp [Nat.testBit_xor, *]

@[simp] theorem hopAt_cell (i o mid s : Nat) : (hopAt i o mid s).cell = cellOf (lineAt i o mid s) s := rfl

/-- The cell of a path is in BAR exactly where bit d(s) is the one wanted already (R47). -/
theorem hopAt_state (i o mid s : Nat) : (hopAt i o mid s).state
    = if (lineAt i o mid s).testBit (stageBit s) = wantedBit o mid s then .bar else .cross := by
  simp only [hopAt, sideOf_eq_wantBit_iff]

/-- A path leaves each stage on the line that its cell's state passes on. -/
theorem lineAt_succ (i o mid s : Nat) :
    lineAt i o mid (s + 1) = (hopAt i o mid s).state.pass (lineAt i o mid s) s := by
  simp only [lineAt, hopAt, CellState.pass]
  split <;> rfl

theorem testBit_lineAt_succ_of_ne (i o mid : Nat) {s k : Nat} (h : k ≠ stageBit s) :
    (lineAt i o mid (s + 1)).testBit k = (lineAt i o mid s).testBit k := by
  rw [lineAt_succ, testBit_pass_of_ne _ _ h]

/-- After stage s bit d(s) is the one wanted (R47). -/
theorem testBit_lineAt_succ_stageBit (i o mid s : Nat) :
    (lineAt i o mid (s + 1)).testBit (stageBit s) = wantedBit o mid s := by
  rw [lineAt_succ, testBit_pass_stageBit, hopAt_state]
  cases (lineAt i o mid s).testBit (stageBit s) <;> cases wantedBit o mid s <;> rfl

/-- Up to S8 a path takes the bits of the route code, lowest first. -/
theorem testBit_lineAt_of_le_eight (i o mid k : Nat) {s : Nat} (hs : s ≤ 8) :
    (lineAt i o mid s).testBit k = if k < s then mid.testBit k else i.testBit k := by
  induction s with
  | zero => simp [lineAt]
  | succ s ih =>
    have hd : stageBit s = s := stageBit_of_le (Nat.le_of_succ_le hs)
    by_cases hk : k = s
    · have hset := testBit_lineAt_succ_stageBit i o mid s
      rw [hd, wantedBit, if_pos (by omega)] at hset
      rw [hk, hset, if_pos (by omega)]
    · rw [testBit_lineAt_succ_of_ne _ _ _ (by rwa [hd]), ih (by omega)]
      simp only [show k < s + 1 ↔ k < s by omega]

/-- From S8 on a path takes the bits of the output, bit 8 first. -/
theorem testBit_lineAt_from_eight (i o mid k : Nat) {n : Nat} (hn : n ≤ 9) :
    (lineAt i o mid (8 + n)).testBit k = if 8 < k + n ∧ k ≤ 8 then o.testBit k else (lineAt i o mid 8).testBit k := by
  induction n with
  | zero => rw [if_neg (by omega)]
  | succ n ih =>
    have hd : stageBit (8 + n) = 8 - n := by rw [stageBit_of_ge (by omega)]; omega
    rw [← Nat.add_assoc]
    by_cases hk : k = 8 - n
    · have hset := testBit_lineAt_succ_stageBit i o mid (8 + n)
      rw [wantedBit, if_neg (by omega), hd] at hset
      rw [hk, hset, if_pos (by omega)]
    · rw [testBit_lineAt_succ_of_ne _ _ _ (by rwa [hd]), ih (by omega)]
      simp only [show 8 < k + (n + 1) ∧ k ≤ 8 ↔ 8 < k + n ∧ k ≤ 8 by omega]

/-- The low byte of the line that enters S8 is the route code (R47). -/
theorem lineAt_eight_mod {mid : Nat} (i o : Nat) (hmid : mid < 256) : lineAt i o mid 8 % 256 = mid := by
  refine Nat.eq_of_testBit_eq fun k => ?_
  rw [show 256 = 2 ^ 8 from rfl, Nat.testBit_mod_two_pow, testBit_lineAt_of_le_eight _ _ _ _ le_rfl]
  by_cases hk : k < 8
  · simp [hk]
  · have hhigh : mid < 2 ^ k := lt_of_lt_of_le hmid (Nat.pow_le_pow_right two_pos (by omega : 8 ≤ k))
    simp [hk, Nat.testBit_lt_two_pow hhigh]

/-- A path leaves S16 on its output line. -/
theorem lineAt_seventeen {i o : Nat} (mid : Nat) (hi : i < 512) (ho : o < 512) : lineAt i o mid 17 = o := by
  refine Nat.eq_of_testBit_eq fun k => ?_
  rw [testBit_lineAt_from_eight i o mid k (n := 9) le_rfl, testBit_lineAt_of_le_eight _ _ _ _ le_rfl]
  by_cases hk : k ≤ 8
  · rw [if_pos (by omega)]
  · have hpow : 512 ≤ 2 ^ k := Nat.pow_le_pow_right two_pos (by omega : 9 ≤ k)
    rw [if_neg (by omega), if_neg (by omega), Nat.testBit_lt_two_pow (by omega), Nat.testBit_lt_two_pow (by omega)]

/-- The line a path leaves a stage on, by its cell's state there (R23). -/
theorem lineAt_succ_eq_ite (i o mid s : Nat) : lineAt i o mid (s + 1)
    = if (hopAt i o mid s).state = .bar then lineAt i o mid s else Nat.xor (lineAt i o mid s) (2 ^ stageBit s) := by
  rw [lineAt_succ, hopAt_state]
  split <;> rfl

/-- Settles O8: the route code fixes the low bits up to S8 and the output fixes every bit from there. -/
theorem pathReachesItsOutput : Obligations.PathReachesItsOutput := by
  intro i o mid hi ho hmid
  exact ⟨rfl, lineAt_eight_mod i o hmid, lineAt_seventeen mid hi ho, fun s _ => ⟨rfl, lineAt_succ_eq_ite i o mid s⟩⟩

end Sys2Proof.Machine
end

section
/-!
SUPPORT. Traces through the loaded cell states (R23, R56): what a trace finds at its end tells of every stage before it
which way its line left, since each bit is last acted on at a stage of its own and the route code is noted before S8.
-/

namespace Sys2Proof.Machine

/-- The route code a trace remembers on line x at stage s. -/
def noteMid (x s mid : Nat) : Nat := if s = 8 then x % 256 else mid

/-- A trace that finds an output goes on through a cell loaded as BAR or CROSS. -/
theorem State.trace_succ {st : State} {n s x m : Nat} {r : Nat × Nat} (h : st.trace (n + 1) s x m = some r) :
    ∃ c : CellState, c ≠ .park ∧ st.loadedCell (cellOf x s) = c.code
      ∧ st.trace n (s + 1) (c.pass x s) (noteMid x s m) = some r := by
  simp only [State.trace] at h
  split at h
  · exact ⟨.bar, nofun, ‹_›, h⟩
  · exact ⟨.cross, nofun, ‹_›, h⟩
  · cases h

/-- The output found has the bits of the line traced that no later stage acts on. -/
theorem State.trace_keeps_settled_bits {st : State} {n s x m k mid o : Nat} (h : st.trace n s x m = some (mid, o))
    (hn : s + n = 17) (hk : 16 < k + s ∨ 8 < k) : o.testBit k = x.testBit k := by
  induction n generalizing s x m with
  | zero => cases h; rfl
  | succ n ih =>
    obtain ⟨c, -, -, hrest⟩ := State.trace_succ h
    have hd : k ≠ stageBit s := by unfold stageBit; split <;> omega
    rw [ih hrest (by omega) (by omega), testBit_pass_of_ne _ _ hd]

/-- Past S8 a trace keeps the route code it has noted. -/
theorem State.trace_keeps_mid {st : State} {n s x m mid o : Nat} (h : st.trace n s x m = some (mid, o)) (hs : 8 < s) :
    mid = m := by
  induction n generalizing s x m with
  | zero => cases h; rfl
  | succ n ih =>
    obtain ⟨c, -, -, hrest⟩ := State.trace_succ h
    rw [ih hrest (by omega), noteMid, if_neg (by omega)]

/-- The route code found is a byte that has the bits of the line traced up to S8 that no stage before S8 acts on. -/
theorem State.trace_mid {st : State} {n s x m mid o : Nat} (h : st.trace n s x m = some (mid, o)) (hn : s + n = 17)
    (hs : s ≤ 8) : mid < 256 ∧ ∀ k, k < s → mid.testBit k = x.testBit k := by
  induction n generalizing s x m with
  | zero => omega
  | succ n ih =>
    obtain ⟨c, -, -, hrest⟩ := State.trace_succ h
    by_cases h8 : s = 8
    · rw [State.trace_keeps_mid hrest (by omega), noteMid, if_pos h8]
      refine ⟨Nat.mod_lt _ (by decide), fun k hk => ?_⟩
      rw [show 256 = 2 ^ 8 from rfl, Nat.testBit_mod_two_pow, decide_eq_true (by omega : k < 8), Bool.true_and]
    · obtain ⟨hlt, hbits⟩ := ih hrest (by omega) (by omega)
      refine ⟨hlt, fun k hk => ?_⟩
      have hd : k ≠ stageBit s := by rw [stageBit_of_le hs]; omega
      rw [hbits k (by omega), testBit_pass_of_ne _ _ hd]

/-- A trace of all 17 stages finds an output port. -/
theorem State.trace_out_lt {st : State} {p m mid o : Nat} (h : st.trace 17 0 p m = some (mid, o)) (hp : p < 512) :
    o < 512 := by
  refine Nat.lt_pow_two_of_testBit (n := 9) o fun k hk => ?_
  have hpow : 512 ≤ 2 ^ k := Nat.pow_le_pow_right two_pos hk
  rw [State.trace_keeps_settled_bits h rfl (.inr hk), Nat.testBit_lt_two_pow (by omega)]

/-- The line that a trace takes out of a stage has the bit that R47 wants for the route code and output found. -/
theorem State.trace_wantedBit {st : State} {n s y m mid o : Nat} (h : st.trace n (s + 1) y m = some (mid, o))
    (hn : s + 1 + n = 17) : y.testBit (stageBit s) = wantedBit o mid s := by
  by_cases hs : s < 8
  · obtain ⟨-, hbits⟩ := State.trace_mid h hn hs
    rw [wantedBit, if_pos hs, stageBit_of_le hs.le, hbits s (by omega)]
  · rw [wantedBit, if_neg hs, stageBit_of_ge (by omega), State.trace_keeps_settled_bits h hn (by omega)]

/-- Where a line leaves a stage with the bit wanted, the state that passed it on is the one the path needs there. -/
theorem hopAt_state_of_pass {i o mid s : Nat} {c : CellState} (hc : c ≠ .park)
    (h : (c.pass (lineAt i o mid s) s).testBit (stageBit s) = wantedBit o mid s) : (hopAt i o mid s).state = c := by
  rw [testBit_pass_stageBit] at h
  rw [hopAt_state, ← h]
  cases c with
  | park => exact absurd rfl hc
  | bar => simp
  | cross => simp

/-- A trace that begins on a path of the route code and output it finds meets the cells of that path from there on, each
loaded with the state the path needs. -/
theorem State.trace_follows_path {st : State} {p n s m mid o : Nat}
    (h : st.trace n s (lineAt p o mid s) m = some (mid, o)) (hn : s + n = 17) {j : Nat} (hsj : s ≤ j) (hj : j < 17) :
    st.loadedCell (hopAt p o mid j).cell = (hopAt p o mid j).state.code := by
  induction n generalizing s m with
  | zero => omega
  | succ n ih =>
    obtain ⟨c, hc, hloaded, hrest⟩ := State.trace_succ h
    have hstate : (hopAt p o mid s).state = c := hopAt_state_of_pass hc (State.trace_wantedBit hrest (by omega))
    rw [← hstate, ← lineAt_succ] at hrest
    obtain rfl | hlt := hsj.eq_or_lt
    · rw [hopAt_cell, hloaded, hstate]
    · exact ih hrest (by omega) hlt

/-- Settles O17: a trace begins on the input line, where every path of that input begins, and stays on the one it finds. -/
theorem tracesAreRoutes : Obligations.TracesAreRoutes := by
  intro st p mid o hp h
  refine ⟨(State.trace_mid h rfl (by omega)).1, State.trace_out_lt h hp, fun hop hmem => ?_⟩
  obtain ⟨j, hj, rfl⟩ := List.mem_map.mp hmem
  exact State.trace_follows_path (s := 0) h rfl j.zero_le (List.mem_range.mp hj)

end Sys2Proof.Machine
end

section
/-!
SUPPORT. The state after reset (R38, R60, R86, R109, R202, R222, R306): the tables list nothing, so every record reads as
its default, and no interrupt is enabled.
-/

namespace Sys2Proof.Machine

/-- An element no table lists reads as its default. -/
theorem State.elem_reset (e : Nat) : State.reset.elem e = elemDefault e := rfl

theorem State.lane_reset (i : Nat) : State.reset.lane i = laneDefault i := rfl

/-- No port has LINK after reset (R306). -/
theorem State.link_reset (p : Port) : (State.reset.link p).link = false := by
  cases p with
  | e0 => rfl
  | e1 => rfl

/-- The header words of a page hold 0 after reset, but for the one at 0x008 (R325). -/
theorem regReset_header (n : Nat) {off : Nat} (h : off < 0x40) (h8 : off ≠ 0x008) : regReset (Reg.base n + off) = 0 := by
  have hoff : (Reg.base n + off) % 0x1000 = off := by unfold Reg.base; omega
  simp [regReset, hoff, h, headerReset, h8, w32]

/-- No page has a cause after reset (R325). -/
theorem State.pend_reset (n : Nat) : State.reset.pend n = false := by
  have hcause : State.reset.reg (Reg.base n + 0x010) = 0 := regReset_header n (by decide) (by decide)
  simp [State.pend, hcause]

/-- No cause stands after reset, so nINT is not asserted (R317). -/
theorem State.intFollows_reset : State.reset.IntFollows := by
  have hnow : State.reset.nintNow = false := by simp [State.nintNow, State.pend_reset]
  exact hnow.symm

/-- Settles O5: every table of the reset state is empty and every flag named is down. -/
theorem resetState : Obligations.ResetState :=
  ⟨State.intFollows_reset, rfl, rfl, rfl, rfl, rfl, rfl, fun e => congrArg Elem.st (State.elem_reset e), rfl,
    fun i => congrArg Lane.link (State.lane_reset i), State.link_reset, rfl, rfl⟩

end Sys2Proof.Machine
end

section
/-!
SUPPORT. Requests of opcodes 0x01 to 0x06 that are answered DONE: one that repeats a listed request changes nothing (R41), and
one that passes the checks of R40 enters the list before the first request that its key precedes (R44).
-/

namespace Sys2Proof.Machine

/-- A repeat of a listed request is answered before every other check (R41, log 120). -/
theorem State.request_repeat {s : State} {o : Order} (hrepeat : ¬ s.Unlisted o) (res : Nat → Option Nat) (op : Nat)
    (a0 a1 : Word) : s.request res op o a0 a1 = s.complete 0x11 op cDONE o := by
  rw [← s.no_repeat_iff_unlisted o, Bool.not_eq_false] at hrepeat
  simp only [State.request, hrepeat, if_true]

/-- The command of a repeat, dt after the command before it. -/
theorem State.runCmd_request_repeat {s : State} {dt : Nat} {o : Order} (hready : (s.advance dt).Ready)
    (hrepeat : ¬ (s.advance dt).Unlisted o) (op : Nat) (a0 a1 : Word) :
    s.runCmd dt 0x11 op o (fun s => s.request s.objPort op o a0 a1)
      = .next (s.seal dt ((s.advance dt).complete 0x11 op cDONE o)) := by
  rw [State.runCmd_next _ _ _ _ _ _ ((State.isReady_advance dt).1 hready), State.request_repeat hrepeat]

/-- Settles O13: each of the six requests is the same operation, and that looks for a repeat first. -/
theorem repeatsChangeNothing : Obligations.RepeatsChangeNothing := by
  rintro dt o a0 a1 s _ rfl hready hrepeat
  have hcmd := State.runCmd_request_repeat hready hrepeat
  exact ⟨hcmd 1 a0 a1, hcmd 2 a0 a1, hcmd 3 a0 0, hcmd 4 a0 a1, hcmd 5 a0 0, hcmd 6 a0 0⟩

/-- A request enters the list before the first one that its key precedes. -/
theorem Bell.enter_split (b : Bell) (r : Req) (list : List Req) : ∃ l l', list = l ++ l' ∧ b.enter r list = l ++ r :: l'
    ∧ (∀ q ∈ l, b.before r q = false) ∧ ∀ q ∈ l'.head?, b.before r q = true := by
  induction list with
  | nil => exact ⟨[], [], rfl, rfl, nofun, nofun⟩
  | cons q t ih =>
    by_cases hq : b.before r q = true
    · exact ⟨[], q :: t, rfl, if_pos hq, nofun, by simpa using hq⟩
    · obtain ⟨l, l', rfl, henter, hl, hl'⟩ := ih
      refine ⟨q :: l, l', rfl, by simp [Bell.enter, hq, henter], ?_, hl'⟩
      simpa [hq] using hl

/-- The key order looks at the first sequence of each source alone (R44). -/
theorem Bell.before_congr {b c : Bell} (h : b.first = c.first) : b.before = c.before := by
  have hoffset : b.offset = c.offset := by funext src seq; simp only [Bell.offset, Bell.firstOf, h]
  unfold Bell.before
  rw [hoffset]

/-- The first sequence of a source stays once it is noted. -/
theorem State.noteFirst_of_some {s : State} {src seq n : Nat} (h : s.bell.firstOf src = some n) : s.noteFirst src seq = s := by
  simp only [State.noteFirst, h]

/-- A source whose first sequence is not noted is noted last. -/
theorem State.noteFirst_of_none {s : State} {src : Nat} (seq : Nat) (h : s.bell.firstOf src = none) :
    s.noteFirst src seq = { s with bell := { s.bell with first := s.bell.first ++ [(src, seq)] } } := by
  simp only [State.noteFirst, h]

/-- Noting a source changes the list of first sequences alone. -/
theorem State.noteFirst_eq (s : State) (src seq : Nat) :
    s.noteFirst src seq = { s with bell := { s.bell with first := (s.noteFirst src seq).bell.first } } := by
  unfold State.noteFirst; split <;> rfl

/-- What noting a source does to the first sequences: nothing where it has one, and else it is added. -/
theorem State.noteFirst_first (s : State) (src seq : Nat) : (s.noteFirst src seq).bell.first = s.bell.first
    ∨ s.bell.firstOf src = none ∧ (s.noteFirst src seq).bell.first = s.bell.first ++ [(src, seq)] := by
  cases h : s.bell.firstOf src with
  | some n => rw [State.noteFirst_of_some h]; exact .inl rfl
  | none => rw [State.noteFirst_of_none seq h]; exact .inr ⟨rfl, rfl⟩

/-- A source that has been noted has a first sequence. -/
theorem State.firstOf_noteFirst (s : State) (src seq : Nat) : ∃ n, (s.noteFirst src seq).bell.firstOf src = some n := by
  cases h : s.bell.firstOf src with
  | some n => rw [State.noteFirst_of_some h]; exact ⟨n, h⟩
  | none =>
    rw [State.noteFirst_of_none seq h]
    have hfind : s.bell.first.find? (fun e => e.1 == src) = none := by simpa [Bell.firstOf] using h
    exact ⟨seq, by simp [Bell.firstOf, List.find?_append, hfind]⟩

/-- The state with a request entered into the list, the first of its source noted (R40, R44). -/
def State.withReq (s : State) (r : Req) : State :=
  let t := s.noteFirst r.src r.seq
  { t with bell := { t.bell with list := t.bell.enter r t.bell.list } }

/-- Entering a request is what `Entered` says of it. -/
theorem State.entered_withReq (s : State) (r : Req) : s.Entered (s.withReq r) r := by
  have hframe := s.noteFirst_eq r.src r.seq
  have hlist : (s.noteFirst r.src r.seq).bell.list = s.bell.list := by rw [hframe]
  obtain ⟨l, l', hsplit, henter, hl, hl'⟩ := (s.noteFirst r.src r.seq).bell.enter_split r s.bell.list
  have hbefore : (s.withReq r).bell.before = (s.noteFirst r.src r.seq).bell.before := Bell.before_congr rfl
  have hentered : (s.withReq r).bell.list = l ++ r :: l' := by simp only [State.withReq, hlist, henter]
  refine ⟨?frame, s.noteFirst_first r.src r.seq, s.firstOf_noteFirst r.src r.seq, l, l', hsplit, hentered, ?_⟩
  case frame => rw [State.withReq, hframe]
  rw [hbefore]
  exact ⟨hl, hl'⟩

/-- Where requests may change the staging side and this one repeats none, one that can be formed and has room enters the list
and completes with DONE (R40). -/
theorem State.request_done {s : State} {res : Nat → Option Nat} {op : Nat} {o : Order} {a0 a1 : Word} {r : Req}
    (hstg : s.Staging) (hnew : s.Unlisted o) (hroom : s.bell.list.length < 1024)
    (hreq : mkReq s.bell.stg res op a0 a1 (portSrc o.port) o.seq.toNat = some r)
    (hkey : r.src = portSrc o.port ∧ r.seq = o.seq.toNat) :
    s.request res op o a0 a1 = (s.withReq r).complete 0x11 op cDONE o := by
  obtain ⟨-, hrestore, hprep⟩ := hstg
  have hrepeat := (s.no_repeat_iff_unlisted o).2 hnew
  simp [State.request, State.withReq, hrepeat, hrestore, hprep, hreq, hroom.not_ge, hkey]

/-- The command of such a request, dt after the command before it. -/
theorem State.runCmd_request_done {s : State} {dt op inp out cls : Nat} {o : Order} {a0 a1 : Word} {src dst : Option Nat}
    (hstg : (s.advance dt).Staging) (hnew : (s.advance dt).Unlisted o) (hroom : (s.advance dt).bell.list.length < 1024)
    (hreq : mkReq (s.advance dt).bell.stg (s.advance dt).objPort op a0 a1 (portSrc o.port) o.seq.toNat
      = some (.entered o op inp out cls src dst)) :
    ∃ u : State, s.runCmd dt 0x11 op o (fun s => s.request s.objPort op o a0 a1)
        = .next (s.seal dt (u.complete 0x11 op cDONE o))
      ∧ (s.advance dt).Entered u (.entered o op inp out cls src dst) := by
  refine ⟨_, ?_, State.entered_withReq _ _⟩
  rw [State.runCmd_next _ _ _ _ _ _ ((State.isReady_advance dt).1 hstg.1),
    State.request_done hstg hnew hroom hreq ⟨rfl, rfl⟩]

/-- Settles O11: each request is formed from its arguments under its conditions, and then enters the list. -/
theorem requestsAreListed : Obligations.RequestsAreListed := by
  rintro dt o a0 a1 s _ rfl hstg hnew hroom
  refine ⟨fun hcls => ?connect, fun hcls hports => ?duplex,
    fun i q hcls hne hsrc hsrc' hdst hdst' hi hq hi512 hq512 => ?connectObj, ?release, fun hsafety => ⟨?pin, ?unpin⟩⟩
  case connect => exact State.runCmd_request_done hstg hnew hroom (if_neg hcls)
  case duplex => exact State.runCmd_request_done hstg hnew hroom (if_neg (not_or.2 ⟨hcls, hports⟩))
  case connectObj =>
    refine State.runCmd_request_done hstg hnew hroom ?_
    simp only [mkReq, hcls, hne, hsrc, hsrc', hdst, hdst', or_self, if_false, hi, hq, hi512, hq512, and_self, if_true]
    rfl
  case release => exact State.runCmd_request_done hstg hnew hroom rfl
  case pin => exact State.runCmd_request_done hstg hnew hroom (if_neg hsafety)
  case unpin => exact State.runCmd_request_done hstg hnew hroom (if_neg hsafety)

end Sys2Proof.Machine
end

section
/-!
SUPPORT. Paths that share a cell (R22, R23, R47): the cell a line meets tells every bit of the line but d(s). So two paths
that use no line in common and meet in one cell enter it on its two sides and leave it on its two sides, and need one state
of it.
-/

namespace Sys2Proof.Machine

/-- The row of a cell tells every bit of the line but the one its stage acts on (R22). -/
theorem testBit_eq_of_rowOf_eq {x y s k : Nat} (h : rowOf x s = rowOf y s) (hk : k ≠ stageBit s) :
    x.testBit k = y.testBit k := by
  unfold rowOf at h
  generalize stageBit s = d at h hk
  have hlow : x % 2 ^ d = y % 2 ^ d := by
    have hmod := congrArg (· % 2 ^ d) h
    simpa using hmod
  have hhigh : x / 2 ^ (d + 1) = y / 2 ^ (d + 1) := by
    rw [hlow] at h
    exact Nat.eq_of_mul_eq_mul_right (Nat.two_pow_pos d) (Nat.add_right_cancel h)
  obtain hlt | hgt := Nat.lt_or_gt_of_ne hk
  · have hbit := congrArg (Nat.testBit · k) hlow
    simpa [Nat.testBit_mod_two_pow, hlt] using hbit
  · have hbit := congrArg (Nat.testBit · (k - (d + 1))) hhigh
    simpa [Nat.testBit_div_two_pow, Nat.sub_add_cancel (Nat.succ_le_of_lt hgt)] using hbit

/-- The lines of a path number below 512, as its ports do. -/
theorem lineAt_lt {i o mid : Nat} (hi : i < 512) (s : Nat) : lineAt i o mid s < 512 := by
  induction s with
  | zero => exact hi
  | succ s ih =>
    have hpow : 2 ^ stageBit s < 2 ^ 9 := Nat.pow_lt_pow_right (by decide) (by unfold stageBit; split <;> omega)
    rw [lineAt_succ, CellState.pass]
    split
    · exact Nat.xor_lt_two_pow (n := 9) ih hpow
    · exact ih

/-- A stage has 256 rows (R22). -/
theorem rowOf_lt {x : Nat} (s : Nat) (hx : x < 512) : rowOf x s < 256 := by
  have hd : stageBit s ≤ 8 := by unfold stageBit; split <;> omega
  have hrem : x % 2 ^ stageBit s < 2 ^ stageBit s := Nat.mod_lt _ (Nat.two_pow_pos _)
  unfold rowOf
  generalize stageBit s = d at hd hrem ⊢
  have hquot : x / 2 ^ (d + 1) < 2 ^ (8 - d) := by
    rw [Nat.div_lt_iff_lt_mul (Nat.two_pow_pos _), ← Nat.pow_add, show 8 - d + (d + 1) = 9 by omega]
    exact hx
  calc x / 2 ^ (d + 1) * 2 ^ d + x % 2 ^ d < (x / 2 ^ (d + 1) + 1) * 2 ^ d := by
        rw [Nat.succ_mul]
        exact Nat.add_lt_add_left hrem _
    _ ≤ 2 ^ (8 - d) * 2 ^ d := Nat.mul_le_mul_right _ hquot
    _ = 256 := by rw [← Nat.pow_add, Nat.sub_add_cancel hd]

/-- A cell index tells its stage. -/
theorem cellOf_div {x : Nat} (s : Nat) (hx : x < 512) : cellOf x s / 256 = s := by
  have hrow := rowOf_lt s hx
  unfold cellOf
  omega

/-- Paths with no line in common use different lines at every stage boundary. -/
theorem lineAt_ne_of_not_shareLine {i o mid i' o' mid' s : Nat} (h : shareLine i o mid i' o' mid' = false) (hs : s < 18) :
    lineAt i o mid s ≠ lineAt i' o' mid' s := by
  simp only [shareLine, List.any_eq_false, List.mem_range, beq_iff_eq] at h
  exact h s hs

/-- Two paths with no line in common that meet in a cell need one state of it: after the stage both have the bit d(s) they
want, so they differ there as they differed before it, and either both had that bit already or neither had. -/
theorem hopAt_state_eq_of_cell_eq {i o mid i' o' mid' s : Nat} (hs : s < 17)
    (hshare : shareLine i o mid i' o' mid' = false) (hcell : (hopAt i o mid s).cell = (hopAt i' o' mid' s).cell) :
    (hopAt i o mid s).state = (hopAt i' o' mid' s).state := by
  have hrow : rowOf (lineAt i o mid s) s = rowOf (lineAt i' o' mid' s) s := Nat.add_left_cancel hcell
  have hother (k : Nat) (hk : k ≠ stageBit s) := testBit_eq_of_rowOf_eq hrow hk
  have hbefore : (lineAt i o mid s).testBit (stageBit s) ≠ (lineAt i' o' mid' s).testBit (stageBit s) := fun hbit =>
    lineAt_ne_of_not_shareLine hshare (by omega : s < 18) <| Nat.eq_of_testBit_eq fun k => by
      by_cases hk : k = stageBit s
      · rw [hk, hbit]
      · exact hother k hk
  have hafter : wantedBit o mid s ≠ wantedBit o' mid' s := fun hbit =>
    lineAt_ne_of_not_shareLine hshare (by omega : s + 1 < 18) <| Nat.eq_of_testBit_eq fun k => by
      by_cases hk : k = stageBit s
      · rw [hk, testBit_lineAt_succ_stageBit, testBit_lineAt_succ_stageBit, hbit]
      · rw [testBit_lineAt_succ_of_ne _ _ _ hk, testBit_lineAt_succ_of_ne _ _ _ hk, hother k hk]
  rw [hopAt_state, hopAt_state, Bool.eq_not_of_ne hbefore, Bool.eq_not_of_ne hafter]
  simp

end Sys2Proof.Machine
end

section
/-!
SUPPORT. What a map gives a cell (R25), and what is left of it when a circuit is removed (R48).
-/

namespace Sys2Proof.Machine

/-- The hop of a circuit at the stage of cell x. -/
def Circuit.hopTo (c : Circuit) (x : Nat) : Hop := hopAt c.inp c.out c.mid (x / 256)

/-- A circuit passes a cell exactly where its hop at the cell's stage is in that cell. -/
theorem Circuit.exists_hop_iff {c : Circuit} {x : Nat} (hc : c.inp < 512) (hx : x < 4352) :
    (∃ h ∈ c.path, h.cell = x) ↔ (c.hopTo x).cell = x := by
  constructor
  · rintro ⟨h, hmem, rfl⟩
    obtain ⟨s, -, rfl⟩ := List.mem_map.mp hmem
    have hstage : (hopAt c.inp c.out c.mid s).cell / 256 = s := cellOf_div s (lineAt_lt hc s)
    rw [Circuit.hopTo, hstage]
  · intro h
    exact ⟨_, List.mem_map.mpr ⟨x / 256, List.mem_range.mpr (by omega), rfl⟩, h⟩

/-- The first circuit of a map that passes cell x. -/
def CMap.through (m : CMap) (x : Nat) : Option Circuit := m.find? fun c => (c.hopTo x).cell == x

/-- The hop a map gives a cell is that of the first circuit through it. -/
theorem CMap.hopIn_eq (m : CMap) (x : Nat) : m.hopIn x = (m.through x).map (·.hopTo x) := by
  rw [CMap.through, ← List.findSome?_guard, List.map_findSome?]
  refine congrArg (fun f => m.findSome? f) (funext fun c => ?_)
  change (if (c.hopTo x).cell = x then some (c.hopTo x) else none) = _
  by_cases hc : (c.hopTo x).cell = x <;> simp [Option.guard, hc]

/-- A cell of a map is in the state that the first circuit through it needs. -/
theorem CMap.cell_of_through {m : CMap} {x : Nat} {c : Circuit} (h : m.through x = some c) :
    m.cell x = (c.hopTo x).state := by
  rw [CMap.cell, CMap.hopIn_eq, h]
  rfl

/-- A cell that no circuit of a map passes is in PARK. -/
theorem CMap.cell_eq_park {m : CMap} {x : Nat} (h : ∀ c ∈ m, (c.hopTo x).cell ≠ x) : m.cell x = .park := by
  have hnone : m.through x = none := List.find?_eq_none.mpr fun c hc => by simpa using h c hc
  rw [CMap.cell, CMap.hopIn_eq, hnone]
  rfl

/-- Where some circuit passes a cell, there is a first one that does. -/
theorem CMap.exists_through {m : CMap} {x : Nat} {c : Circuit} (hc : c ∈ m) (hpass : (c.hopTo x).cell = x) :
    ∃ d ∈ m, (d.hopTo x).cell = x ∧ m.through x = some d := by
  have hsome : (m.through x).isSome = true := List.find?_isSome.mpr ⟨c, hc, by simpa using hpass⟩
  obtain ⟨d, hd⟩ := Option.isSome_iff_exists.mp hsome
  exact ⟨d, List.mem_of_find?_eq_some hd, by simpa using List.find?_some hd, hd⟩

theorem CMap.mem_without {m : CMap} {q : Nat} {c : Circuit} : c ∈ m.without q ↔ c ∈ m ∧ c.out ≠ q := by
  simp [CMap.without]

/-- Removing a circuit changes no other one. -/
theorem CMap.at_without_ne (m : CMap) {q q' : Nat} (h : q' ≠ q) : (m.without q).at_ q' = m.at_ q' := by
  rw [CMap.at_, CMap.without, List.find?_filter, CMap.at_]
  congr 1
  funext c
  by_cases hc : c.out = q'
  · simp [hc, h]
  · simp [hc]

theorem CMap.at_without_self (m : CMap) (q : Nat) : (m.without q).at_ q = none :=
  List.find?_eq_none.mpr fun _ hc => by simpa using (CMap.mem_without.mp hc).2

/-- The first circuit through a cell stays the first when another one is removed. -/
theorem CMap.through_without {m : CMap} {q x : Nat} {d : Circuit} (h : m.through x = some d) (hd : d.out ≠ q) :
    (m.without q).through x = some d := by
  obtain ⟨hpass, before, after, rfl, hbefore⟩ := List.find?_eq_some_iff_append.mp h
  refine List.find?_eq_some_iff_append.mpr ⟨hpass, CMap.without before q, CMap.without after q, ?_, fun c hc =>
    hbefore c (CMap.mem_without.mp hc).1⟩
  simp [CMap.without, hd]

/-- Settles O9: the first circuit through a cell stays or is the one removed, and in that case the circuit that comes first
then shares no line with it and needs the same state. -/
theorem removalReturnsCellsToPark : Obligations.RemovalReturnsCellsToPark := by
  intro m q hports hshare
  refine ⟨fun q' => m.at_without_ne, m.at_without_self q, fun x hx => ⟨?carries, ?carriesNone⟩⟩
  case carries =>
    rintro ⟨c, hc, hout, hop⟩
    have hpass := (Circuit.exists_hop_iff (hports c hc).1 hx).mp hop
    obtain ⟨d, hd, hdx, hfirst⟩ := CMap.exists_through hc hpass
    by_cases hdq : d.out = q
    · obtain ⟨e, he, hex, hfirst'⟩ := CMap.exists_through (CMap.mem_without.mpr ⟨hc, hout⟩) hpass
      obtain ⟨hem, heq⟩ := CMap.mem_without.mp he
      rw [CMap.cell_of_through hfirst, CMap.cell_of_through hfirst']
      exact hopAt_state_eq_of_cell_eq (by omega) (hshare e hem d hd (hdq ▸ heq)) (hex.trans hdx.symm)
    · rw [CMap.cell_of_through hfirst, CMap.cell_of_through (CMap.through_without hfirst hdq)]
  case carriesNone =>
    intro hnone
    refine CMap.cell_eq_park fun c hc hpass => ?_
    obtain ⟨hmem, hout⟩ := CMap.mem_without.mp hc
    obtain ⟨h, hh, hcell⟩ := (Circuit.exists_hop_iff (hports c hmem).1 hx).mpr hpass
    exact hnone c hmem hout h hh hcell

end Sys2Proof.Machine
end

section
/-!
SUPPORT. Step A of placement (R49): of the route codes whose paths use no occupied line, in ascending order, the first that
lights the fewest PARK cells.
-/

namespace Sys2Proof.Machine

/-- The route codes of a path from i to o that uses no occupied line, ascending, each after the number of PARK cells it
lights. -/
def freeCodes (m : CMap) (i o : Nat) : List (Nat × Nat) :=
  (List.range 256).filterMap fun mid => if m.any fun c => c.meets i o mid then none else some (parkCells m i o mid, mid)

/-- Step A takes the first of the free codes that lights the fewest cells. -/
theorem freePath_eq_argmin (m : CMap) (i o : Nat) : freePath m i o = ((freeCodes m i o).argmin Prod.fst).map (·.2) := by
  have hstep : (fun (best : Option (Nat × Nat)) (k : Nat × Nat) => match best with
      | none => some k
      | some b => if k.1 < b.1 then some k else some b) = List.argAux fun k b => k.1 < b.1 := by
    funext best k
    cases best <;> rfl
  exact congrArg (fun step => (List.foldl step none (freeCodes m i o)).map (·.2)) hstep

/-- A code is free where no circuit holds a line of its path. -/
theorem mem_freeCodes {m : CMap} {i o n mid : Nat} :
    (n, mid) ∈ freeCodes m i o ↔ mid < 256 ∧ (∀ c ∈ m, c.meets i o mid = false) ∧ n = parkCells m i o mid := by
  simp only [freeCodes, List.mem_filterMap, List.mem_range, Option.ite_none_left_eq_some, Option.some.injEq, Prod.mk.injEq,
    Bool.not_eq_true, List.any_eq_false]
  constructor
  · rintro ⟨_, hlt, hfree, rfl, rfl⟩
    exact ⟨hlt, hfree, rfl⟩
  · rintro ⟨hlt, hfree, rfl⟩
    exact ⟨mid, hlt, hfree, rfl, rfl⟩

/-- The free codes are listed in ascending order. -/
theorem freeCodes_pairwise (m : CMap) (i o : Nat) : (freeCodes m i o).Pairwise fun a b => a.2 < b.2 := by
  refine List.Pairwise.filterMap _ (fun a a' hlt b hb b' hb' => ?_) List.pairwise_lt_range
  obtain ⟨-, ⟨⟩⟩ := Option.ite_none_left_eq_some.mp hb
  obtain ⟨-, ⟨⟩⟩ := Option.ite_none_left_eq_some.mp hb'
  exact hlt

/-- Of two entries of a list in ascending order, the one listed first is not the greater. -/
theorem le_of_idxOf_le {α : Type} [DecidableEq α] {f : α → Nat} {l : List α}
    (hl : l.Pairwise fun a b => f a < f b) {a b : α} (ha : a ∈ l) (hb : b ∈ l) (h : l.idxOf a ≤ l.idxOf b) : f a ≤ f b := by
  obtain hlt | heq := h.lt_or_eq
  · have hpair := List.pairwise_iff_getElem.mp hl _ _ (List.idxOf_lt_length_of_mem ha) (List.idxOf_lt_length_of_mem hb) hlt
    rw [List.getElem_idxOf, List.getElem_idxOf] at hpair
    exact hpair.le
  · rw [(List.idxOf_inj ha).mp heq]

/-- Settles O10: the code found is the first minimum of the free codes, and there is none only where no code is free. -/
theorem freePathIsBest : Obligations.FreePathIsBest := by
  intro m i o
  rw [freePath_eq_argmin]
  refine ⟨fun mid hfound => ?found, fun hnone k hk => ?none⟩
  case found =>
    obtain ⟨⟨n, _⟩, hbest, rfl⟩ := Option.map_eq_some_iff.mp hfound
    obtain ⟨hmem, hmin, hfirst⟩ := List.argmin_eq_some_iff.mp hbest
    obtain ⟨hlt, hfree, rfl⟩ := mem_freeCodes.mp hmem
    refine ⟨hlt, hfree, fun k hk hkfree => ?_⟩
    have hkmem : (parkCells m i o k, k) ∈ freeCodes m i o := mem_freeCodes.mpr ⟨hk, hkfree, rfl⟩
    obtain hless | heq := (hmin _ hkmem).lt_or_eq
    · exact .inl hless
    · exact .inr ⟨heq, le_of_idxOf_le (freeCodes_pairwise m i o) hmem hkmem (hfirst _ hkmem heq.ge)⟩
  case none =>
    have hempty : freeCodes m i o = [] := List.argmin_eq_none.mp (Option.map_eq_none_iff.mp hnone)
    by_contra hmeets
    have hkmem : (parkCells m i o k, k) ∈ freeCodes m i o :=
      mem_freeCodes.mpr ⟨hk, fun c hc => by simpa using fun hkc => hmeets ⟨c, hc, hkc⟩, rfl⟩
    simp [hempty] at hkmem

end Sys2Proof.Machine
end

section
/-!
SUPPORT. What the route solver leaves alone. Noting what became of the requests of a solve, reports and completions touch
registers, events and answers, the marks of the listed requests, the refusal log and the categories of R55. Whatever else a
solve changes lies in the solver's own record and, where contradictions are settled (R66), in the conflict log.
-/

namespace Sys2Proof.Machine

/-- A fold keeps what each of its steps keeps. -/
theorem foldl_keeps {σ α β : Type} (g : σ → β) {f : σ → α → σ} (h : ∀ s x, g (f s x) = g s) (l : List α) (s : σ) :
    g (l.foldl f s) = g s := by
  induction l generalizing s with
  | nil => rfl
  | cons x t ih => rw [List.foldl_cons, ih, h]

/-- A request without the marks that a solve leaves on it. -/
def Req.unmarked (r : Req) : Req :=
  { r with covered := false, based := false, discarded := false, refused := 0, counted := false, fellBack := false }

/-- The state without what noting the results of a solve may touch. -/
def State.unmarked (s : State) : State :=
  let r := State.reset
  { s with regs := [], stamps := [], chain := r.chain, e0 := r.e0, e1 := r.e1, sent := []
           bell := { s.bell with list := s.bell.list.map Req.unmarked, delta := [], log := [], logOvf := false } }

/-- The state without the solver's record, the conflict log, and what reports and completions may touch. -/
def State.unsolved (s : State) : State :=
  { s.unmarked with bell := State.reset.bell, epoch := { s.epoch with clog := [], clogOvf := false } }

theorem State.unsolved_of_unmarked {s t : State} (h : s.unmarked = t.unmarked) : s.unsolved = t.unsolved := by
  have hepoch : s.epoch = t.epoch := (congrArg State.epoch h :)
  unfold State.unsolved
  rw [h, hepoch]

/-- What is equal outside the solver's record and the conflict log, and what reporting touches, differs in these alone. -/
theorem State.epoch_of_unsolved {s u : State} (h : u.unsolved = s.unsolved) :
    u.epoch = { s.epoch with clog := u.epoch.clog, clogOvf := u.epoch.clogOvf } :=
  (congrArg (fun x : State => { x.epoch with clog := u.epoch.clog, clogOvf := u.epoch.clogOvf }) h :)

theorem State.bare_of_unsolved {s u : State} (h : u.unsolved = s.unsolved) :
    u.bare s = { s with bell := u.bell, epoch := u.epoch } :=
  (congrArg (fun x : State => { x.bare s with bell := u.bell, epoch := u.epoch }) h :)

theorem State.now_of_unsolved {s u : State} (h : u.unsolved = s.unsolved) : u.now = s.now := (congrArg State.now h :)

/-- A list of requests has the sources and sequences of the list without marks. -/
theorem keys_of_unmarked {l l' : List Req} (h : l.map Req.unmarked = l'.map Req.unmarked) :
    l.map (fun r => (r.src, r.seq)) = l'.map (fun r => (r.src, r.seq)) := by
  have hkeys := congrArg (List.map fun r => (r.src, r.seq)) h
  rw [List.map_map, List.map_map] at hkeys
  exact hkeys

variable (s : State)

@[simp] theorem State.setReg_unmarked (a : Nat) (v : Word) : (s.setReg a v).unmarked = s.unmarked := rfl
@[simp] theorem State.count_unmarked (a : Nat) : (s.count a).unmarked = s.unmarked := rfl
@[simp] theorem State.cause_unmarked (p i : Nat) : (s.cause p i).unmarked = s.unmarked := rfl
@[simp] theorem State.eventAt_unmarked (p c a b e : Nat) (l : List Word) :
    (s.eventAt p c a b e l).unmarked = s.unmarked := by
  unfold State.eventAt State.eventOf State.enqueue
  repeat' split
  all_goals rfl
@[simp] theorem State.transmit_unmarked (p : Port) (op : BitVec 4) (m : BitVec 48) (f : LinkFrame) :
    (s.transmit p op m f).unmarked = s.unmarked := by
  unfold State.transmit
  split
  · cases p <;> rfl
  · rfl
@[simp] theorem State.retire_unmarked (p : Port) (t : BitVec 12) : (s.retire p t).unmarked = s.unmarked := by
  cases p <;> rfl
@[simp] theorem State.answer_unmarked (o : Order) (c : Nat) (w : Word) : (s.answer o c w).unmarked = s.unmarked := by
  unfold State.answer
  split
  · rfl
  · split <;> simp [State.respond]
@[simp] theorem State.completeX_unmarked (p op c x : Nat) (o : Option Order) :
    (s.completeX p op c x o).unmarked = s.unmarked := by
  unfold State.completeX; split <;> split <;> simp
@[simp] theorem State.solveComplete_unmarked (op c r : Nat) (o : Option Order) :
    (s.solveComplete op c r o).unmarked = s.unmarked := by
  unfold State.solveComplete; split <;> simp
theorem State.mapReqs_unmarked {f : Req → Req} (h : ∀ r, (f r).unmarked = r.unmarked) :
    (s.mapReqs f).unmarked = s.unmarked := by
  have hlist : (s.bell.list.map f).map Req.unmarked = s.bell.list.map Req.unmarked := by
    rw [List.map_map]; exact List.map_congr_left fun r _ => h r
  simp only [State.unmarked, State.mapReqs, hlist]
@[simp] theorem State.log_unmarked (l : List Word) (b : Bool) :
    State.unmarked { s with bell := { s.bell with log := l, logOvf := b } } = s.unmarked := rfl
@[simp] theorem State.refusal_unmarked (a b c d : Nat) : (s.refusal a b c d).unmarked = s.unmarked := by
  unfold State.refusal
  simp only
  split <;> split <;> simp only [State.eventAt_unmarked, State.log_unmarked, State.cause_unmarked, State.count_unmarked]
@[simp] theorem State.fallback_unmarked (a b c : Nat) : (s.fallback a b c).unmarked = s.unmarked := by
  simp [State.fallback]
/-- The category of every output between two maps (R55). -/
def categories (act stg : CMap) : Tbl Nat :=
  (List.range 512).foldl (fun t q => tset (fun _ => 0) t q (category act stg q)) []

/-- The figures of a solve in DELTA and its registers, INT_CAUSE bit 0 with them: the state in which its event forms (R55). -/
def State.figured (kind : Nat) (fallback : Bool) (solved refused ns : Nat) : State :=
  let n (k : Nat) : Nat := (inCategory s.epoch.active s.bell.stg k).length
  let s := { s with bell := { s.bell with delta := categories s.epoch.active s.bell.stg } }
  let s := s.setReg Reg.BELL_SOLVE_RES (w32 (at_ 31 30 kind + flag 29 fallback + at_ 26 16 solved + at_ 10 0 refused))
  let s := s.setReg Reg.BELL_DIST_A (w32 (at_ 25 16 (n 3) + at_ 9 0 (n 2)))
  let s := s.setReg Reg.BELL_DIST_B (w32 (at_ 25 16 (n 1) + at_ 9 0 (n 5)))
  let s := s.setReg Reg.BELL_SOLVE_NS (w32 ns)
  s.cause 0x11 0

/-- A report is its figures, and with them an event where BELL.CFG asks for one. -/
theorem State.report_cases (k : Nat) (b : Bool) (n r t : Nat) : s.report k b n r t = s.figured k b n r t
    ∨ ∃ l, s.report k b n r t = (s.figured k b n r t).eventAt 0x11 0x1100 7 0 s.nextEpoch l := by
  unfold State.report
  simp only
  split
  · exact .inr ⟨_, rfl⟩
  · exact .inl rfl

theorem State.figured_unmarked (k : Nat) (b : Bool) (n r t : Nat) : (s.figured k b n r t).unmarked = s.unmarked := by
  unfold State.figured
  generalize categories s.epoch.active s.bell.stg = delta
  rfl

@[simp] theorem State.report_unmarked (k : Nat) (b : Bool) (n r t : Nat) : (s.report k b n r t).unmarked = s.unmarked := by
  obtain h | ⟨l, h⟩ := s.report_cases k b n r t
  · rw [h, State.figured_unmarked]
  · rw [h, State.eventAt_unmarked, State.figured_unmarked]

/-- What a solve found for a request, noted on it (R54). -/
def ReqOut.note (x : ReqOut) (q : Req) : Req :=
  if q.src = x.src ∧ q.seq = x.seq then
    { q with refused := x.reason, counted := q.counted || x.reason != 0, fellBack := q.fellBack || x.fellBack }
  else q

theorem ReqOut.note_unmarked (x : ReqOut) (q : Req) : (x.note q).unmarked = q.unmarked := by
  unfold ReqOut.note; split <;> rfl

@[simp] theorem State.noteOut_unmarked (x : ReqOut) : (s.noteOut x).unmarked = s.unmarked := by
  unfold State.noteOut
  split
  · rfl
  · simp only
    refine (State.mapReqs_unmarked _ x.note_unmarked).trans ?_
    split <;> split <;> simp

theorem State.noteOuts_unmarked (l : List ReqOut) : (l.foldl State.noteOut s).unmarked = s.unmarked :=
  foldl_keeps State.unmarked State.noteOut_unmarked l s

end Sys2Proof.Machine
end

section
/-!
SUPPORT. The settlement of contradictions before a solve (R65, R66): which requests are marked follows from the listed
requests, the base, the SOLVE_FULLs that led to it and the active map; beside the marks, the base and the conflict log, nothing
of the state changes but what reporting touches.
-/

namespace Sys2Proof.Machine

variable (s : State)

@[simp] theorem State.conflict_bell (k a b c d i : Nat) : (s.conflict k a b c d i).bell = s.bell := by
  unfold State.conflict
  simp only
  split <;> simp

/-- A conflict is recorded in the conflict log, and reported. -/
@[simp] theorem State.conflict_unsolved (k a b c d i : Nat) : (s.conflict k a b c d i).unsolved = s.unsolved := by
  unfold State.conflict
  simp only
  split <;> exact (State.unsolved_of_unmarked (State.eventAt_unmarked ..)).trans rfl

@[simp] theorem State.fallback_list (a b c : Nat) : (s.fallback a b c).bell.list = s.bell.list := by
  simp [State.fallback]
@[simp] theorem State.refusal_list (a b c d : Nat) : (s.refusal a b c d).bell.list = s.bell.list := by
  unfold State.refusal
  simp only
  split <;> split <;> simp

/-- What becomes of the listed requests when a result is noted. -/
theorem State.noteOut_list (x : ReqOut) : (s.noteOut x).bell.list = s.bell.list.map x.note := by
  unfold State.noteOut
  split
  case h_1 hnone =>
    have hsame : ∀ q ∈ s.bell.list, x.note q = q := fun q hq => if_neg (by simpa using List.find?_eq_none.mp hnone q hq)
    rw [List.map_congr_left hsame, List.map_id']
  case h_2 =>
    refine congrArg (List.map x.note) ?_
    split <;> split <;> simp

theorem State.noteOuts_list (l : List ReqOut) :
    (l.foldl State.noteOut s).bell.list = l.foldl (fun q x => q.map x.note) s.bell.list := by
  induction l generalizing s with
  | nil => rfl
  | cons x t ih => rw [List.foldl_cons, ih, State.noteOut_list, List.foldl_cons]

/-! ### The requests marked -/

theorem settleOut_unmarked (base : CMap) (acc : List Req × List Lost) (q : Nat) :
    (settleOut base acc q).1.map Req.unmarked = acc.1.map Req.unmarked := by
  unfold settleOut
  simp only
  split
  · rfl
  · rw [List.map_map]
    refine List.map_congr_left fun r _ => ?_
    simp only [Function.comp]
    split <;> rfl

/-- The settlement only marks requests as discarded. -/
theorem settle_unmarked (base : CMap) (l : List Req) : (settle base l).1.map Req.unmarked = l.map Req.unmarked := by
  unfold settle
  exact foldl_keeps (fun acc : List Req × List Lost => acc.1.map Req.unmarked) (settleOut_unmarked base) _ _

/-- The state with the losing requests marked and the conflicts recorded (R65). -/
def State.clashed : State :=
  (Machine.settle s.bell.base s.bell.list).2.foldl (fun s x => s.conflict 0 x.winSrc x.winSeq x.loseSrc x.loseSeq x.index)
    { s with bell := { s.bell with list := (Machine.settle s.bell.base s.bell.list).1 } }

theorem State.clashed_bell : s.clashed.bell = { s.bell with list := (Machine.settle s.bell.base s.bell.list).1 } := by
  unfold State.clashed
  generalize Machine.settle s.bell.base s.bell.list = r
  refine foldl_keeps State.bell (fun t x => ?_) _ _
  exact t.conflict_bell ..

theorem State.clashed_unsolved : s.clashed.unsolved = s.unsolved := by
  unfold State.clashed
  generalize Machine.settle s.bell.base s.bell.list = r
  refine foldl_keeps State.unsolved (fun t x => ?_) _ _
  exact t.conflict_unsolved ..

/-! ### Earlier SOLVE_FULLs redone -/

/-- What redoing the SOLVE_FULLs of an epoch works on: the state, the base, the solves redone, and what those that failed
covered. -/
abbrev Redo := State × CMap × List FullSolve × List (Nat × Nat)

/-- One SOLVE_FULL redone over the requests that survive now (R66). -/
def Redo.step (acc : Redo) (f : FullSolve) : Redo :=
  let (s, base, fulls, carry) := acc
  let reqs := carry ++ f.reqs
  let l := s.bell.list.filter fun r => !r.discarded && reqs.contains (r.src, r.seq)
  match solveFullMap f.start s.epoch.active base l with
  | .error _ => (s, base, fulls, reqs)
  | .ok (m, outs) => (outs.foldl State.noteOut s, m, fulls ++ [⟨f.start, base, reqs⟩], [])

/-- What they come to: the base and the solves that led to it, and the requests of the last that failed after the base. -/
def Redo.close (acc : Redo) : State :=
  let (s, base, fulls, carry) := acc
  let s := s.mapReqs fun r => if carry.contains (r.src, r.seq) then { r with based := false } else r
  { s with bell := { s.bell with base := base, fulls := fulls } }

theorem State.redoFulls_nil (h : s.bell.fulls = []) : s.redoFulls = s := by
  unfold State.redoFulls
  rw [h]

theorem State.redoFulls_cons {f : FullSolve} {t : List FullSolve} (h : s.bell.fulls = f :: t) :
    s.redoFulls = Redo.close ((f :: t).foldl Redo.step (s, f.base, [], [])) := by
  unfold State.redoFulls
  rw [h]
  rfl

/-- A SOLVE_FULL redone changes the state as noting its results does. -/
theorem Redo.step_unmarked (acc : Redo) (f : FullSolve) : (acc.step f).1.unmarked = acc.1.unmarked := by
  obtain ⟨t, base, fulls, carry⟩ := acc
  simp only [Redo.step]
  split
  · rfl
  · exact t.noteOuts_unmarked _

theorem Redo.close_bell (acc : Redo) : acc.close.bell.list.map Req.unmarked = acc.1.bell.list.map Req.unmarked := by
  obtain ⟨t, base, fulls, carry⟩ := acc
  simp only [Redo.close, State.mapReqs, List.map_map]
  refine List.map_congr_left fun r _ => ?_
  simp only [Function.comp]
  split <;> rfl

/-- Redoing the SOLVE_FULLs lists the same requests, keeps the staging map and changes nothing outside the solver's record. -/
theorem State.redoFulls_frame : s.redoFulls.unsolved = s.unsolved
    ∧ s.redoFulls.bell.list.map Req.unmarked = s.bell.list.map Req.unmarked ∧ s.redoFulls.bell.stg = s.bell.stg := by
  cases hfulls : s.bell.fulls with
  | nil => rw [s.redoFulls_nil hfulls]; exact ⟨rfl, rfl, rfl⟩
  | cons f t =>
    rw [s.redoFulls_cons hfulls]
    generalize hacc : (f :: t).foldl Redo.step (s, f.base, [], []) = acc
    have hfold : acc.1.unmarked = s.unmarked := by
      rw [← hacc]; exact foldl_keeps (fun acc : Redo => acc.1.unmarked) Redo.step_unmarked _ _
    refine ⟨(State.unsolved_of_unmarked hfold :), ?_, (congrArg (·.bell.stg) hfold :)⟩
    rw [Redo.close_bell]
    exact (congrArg (·.bell.list) hfold :)

/-- Two states of the redoing agree in what it works on. -/
def Redo.Agrees (a b : Redo) : Prop :=
  a.1.bell.list = b.1.bell.list ∧ a.1.epoch.active = b.1.epoch.active ∧ a.2 = b.2

theorem Redo.agrees_of_state {s t : State} (hlist : s.bell.list = t.bell.list) (hactive : s.epoch.active = t.epoch.active)
    (rest : CMap × List FullSolve × List (Nat × Nat)) : Redo.Agrees (s, rest) (t, rest) := ⟨hlist, hactive, rfl⟩

theorem Redo.agrees_step {a b : Redo} (h : a.Agrees b) (f : FullSolve) : (a.step f).Agrees (b.step f) := by
  obtain ⟨t, base, fulls, carry⟩ := a
  obtain ⟨u, base', fulls', carry'⟩ := b
  obtain ⟨hlist, hactive, hrest⟩ := h
  cases hrest
  simp only at hlist hactive
  simp only [Redo.step, hlist, hactive]
  split
  · exact ⟨hlist, hactive, rfl⟩
  · have hact (x : State) (l : List ReqOut) : (l.foldl State.noteOut x).epoch.active = x.epoch.active :=
      (congrArg (·.epoch.active) (x.noteOuts_unmarked l) :)
    exact ⟨by simp only [State.noteOuts_list, hlist], by simp only [hact, hactive], rfl⟩

theorem Redo.agrees_foldl {a b : Redo} (h : a.Agrees b) (l : List FullSolve) :
    (l.foldl Redo.step a).Agrees (l.foldl Redo.step b) := by
  induction l generalizing a b with
  | nil => exact h
  | cons f t ih => exact ih (Redo.agrees_step h f)

theorem Redo.close_list_congr {a b : Redo} (h : a.Agrees b) : a.close.bell.list = b.close.bell.list := by
  obtain ⟨t, base, fulls, carry⟩ := a
  obtain ⟨u, base', fulls', carry'⟩ := b
  obtain ⟨hlist, -, hrest⟩ := h
  cases hrest
  simp only at hlist
  simp only [Redo.close, State.mapReqs, hlist]

/-! ### The settlement -/

/-- Does the settlement discard a request that the base holds (R66)? -/
def State.basedLost : Bool :=
  (Machine.settle s.bell.base s.bell.list).2.any fun x =>
    s.bell.list.any fun r => r.based && r.src == x.loseSrc && r.seq == x.loseSeq

theorem State.settle_eq : s.settle = if s.basedLost then s.clashed.redoFulls else s.clashed := by
  unfold State.settle State.basedLost State.clashed
  generalize Machine.settle s.bell.base s.bell.list = r
  rfl

/-- The settlement lists the same requests, keeps the staging map and changes nothing outside the solver's record and the
conflict log but what reporting touches. -/
theorem State.settle_frame : s.settle.unsolved = s.unsolved
    ∧ s.settle.bell.list.map Req.unmarked = s.bell.list.map Req.unmarked ∧ s.settle.bell.stg = s.bell.stg := by
  have hlist : s.clashed.bell.list.map Req.unmarked = s.bell.list.map Req.unmarked := by
    rw [s.clashed_bell, settle_unmarked]
  have hstg : s.clashed.bell.stg = s.bell.stg := by rw [s.clashed_bell]
  rw [s.settle_eq]
  split
  · obtain ⟨hredo, hredo', hredo''⟩ := s.clashed.redoFulls_frame
    exact ⟨hredo.trans s.clashed_unsolved, hredo'.trans hlist, hredo''.trans hstg⟩
  · exact ⟨s.clashed_unsolved, hlist, hstg⟩

/-- Where the base holds no listed request, the settlement keeps it. -/
theorem State.settle_base (h : ∀ r ∈ s.bell.list, r.based = false) : s.settle.bell.base = s.bell.base := by
  have hlost : s.basedLost = false := by
    simp only [State.basedLost, List.any_eq_false]
    intro x _
    simp only [Bool.not_eq_true, List.any_eq_false]
    intro r hr
    simp [h r hr]
  rw [s.settle_eq, hlost, if_neg Bool.false_ne_true, s.clashed_bell]

/-- What the settlement lists follows from the listed requests, the base, the SOLVE_FULLs that led to it and the active map. -/
theorem State.settle_list_congr {s t : State} (hlist : s.bell.list = t.bell.list) (hbase : s.bell.base = t.bell.base)
    (hfulls : s.bell.fulls = t.bell.fulls) (hactive : s.epoch.active = t.epoch.active) :
    s.settle.bell.list = t.settle.bell.list := by
  have hclashed : s.clashed.bell.list = t.clashed.bell.list := by rw [s.clashed_bell, t.clashed_bell, hlist, hbase]
  have hlost : s.basedLost = t.basedLost := by rw [State.basedLost, State.basedLost, hlist, hbase]
  have hactive' : s.clashed.epoch.active = t.clashed.epoch.active := by
    rw [State.epoch_of_unsolved s.clashed_unsolved, State.epoch_of_unsolved t.clashed_unsolved]; exact hactive
  have hfullsS : s.clashed.bell.fulls = s.bell.fulls := by rw [s.clashed_bell]
  have hfullsT : t.clashed.bell.fulls = s.bell.fulls := by rw [t.clashed_bell, hfulls]
  rw [s.settle_eq, t.settle_eq, hlost]
  split
  · cases hf : s.bell.fulls with
    | nil => rw [State.redoFulls_nil _ (hfullsS.trans hf), State.redoFulls_nil _ (hfullsT.trans hf), hclashed]
    | cons f l =>
      rw [State.redoFulls_cons _ (hfullsS.trans hf), State.redoFulls_cons _ (hfullsT.trans hf)]
      exact Redo.close_list_congr (Redo.agrees_foldl (Redo.agrees_of_state hclashed hactive' _) _)
  · exact hclashed

end Sys2Proof.Machine
end

section
/-!
SUPPORT. The start of a solve (R46, R52): the requests that R65 discards are marked, and then every listed request is covered.
-/

namespace Sys2Proof.Machine

/-- Between s and u an order has started a solve of a kind over every listed request, settled first. -/
def State.Starts (s u : State) (kind : Nat) (o : Order) : Prop :=
  (∃ j, u.bell.job = some j ∧ j.kind = kind ∧ j.ord = some o ∧ j.start = s.now ∧ j.startMap = s.bell.stg)
    ∧ (∀ r ∈ u.bell.list, r.covered = true)
    ∧ u.bell.list = s.settle.bell.list.map (fun r => { r with covered := true })
    ∧ u.bell.list.map (fun r => (r.src, r.seq)) = s.bell.list.map (fun r => (r.src, r.seq))
    ∧ u.bell.stg = s.bell.stg ∧ ((∀ r ∈ s.bell.list, r.based = false) → u.bell.base = s.bell.base)
    ∧ u.bare s = { s with
      bell := u.bell, epoch := { s.epoch with clog := u.epoch.clog, clogOvf := u.epoch.clogOvf } }

/-- Starting a solve covers the settled list and changes nothing else than the settlement does. -/
theorem State.starts_startSolve (s : State) (kind : Nat) (o : Order) : s.Starts (s.startSolve kind (some o)) kind o := by
  obtain ⟨hframe, hlist, hstg⟩ := s.settle_frame
  have hbase := s.settle_base
  have hnow := State.now_of_unsolved hframe
  unfold State.Starts State.startSolve
  generalize s.settle = t at hframe hlist hstg hbase hnow ⊢
  refine ⟨⟨_, rfl, rfl, rfl, hnow, hstg⟩, ?covered, rfl, ?keys, hstg, hbase, ?frame⟩
  case covered =>
    intro r hr
    obtain ⟨q, -, rfl⟩ := List.mem_map.mp hr
    rfl
  case keys =>
    rw [List.map_map]
    exact keys_of_unmarked hlist
  case frame =>
    rw [← State.epoch_of_unsolved hframe]
    exact State.bare_of_unsolved hframe

/-- Noting the first sequence of a source before a solve shows in nothing else that the solve starts with. -/
theorem State.starts_of_noteFirst {s u : State} {src seq kind : Nat} {o : Order}
    (h : (s.noteFirst src seq).Starts u kind o) : s.Starts u kind o := by
  have hnote := s.noteFirst_eq src seq
  have hsettle : (s.noteFirst src seq).settle.bell.list = s.settle.bell.list := by
    rw [hnote]; exact State.settle_list_congr rfl rfl rfl rfl
  unfold State.Starts at h
  rw [hsettle, hnote] at h
  exact h

/-- SOLVE_INCR with nothing uncovered (R46). -/
theorem State.solveIncr_zero {s : State} {o : Order} (hstg : s.Staging) (hjob : s.bell.job = none)
    (hall : ∀ r ∈ s.bell.list, r.covered = true) : s.solveIncr o = s.complete 0x11 8 cZERO o := by
  obtain ⟨-, hrestore, hprep⟩ := hstg
  have hcovered : (s.bell.list.all fun r => r.covered) = true := List.all_eq_true.mpr hall
  simp only [State.solveIncr, hrestore, hprep, hjob, hcovered, Option.isSome_none, Bool.false_eq_true, if_false, if_true]

/-- SOLVE_INCR with an uncovered request starts a solve (R46). -/
theorem State.solveIncr_start {s : State} {o : Order} (hstg : s.Staging) (hjob : s.bell.job = none)
    (hsome : ∃ r ∈ s.bell.list, r.covered = false) :
    s.solveIncr o = (s.noteFirst (portSrc o.port) o.seq.toNat).startSolve 1 (some o) := by
  obtain ⟨-, hrestore, hprep⟩ := hstg
  have huncovered : (s.bell.list.all fun r => r.covered) = false := by simpa using hsome
  simp only [State.solveIncr, hrestore, hprep, hjob, huncovered, Option.isSome_none, Bool.false_eq_true, if_false]

/-- SOLVE_FULL starts a solve (R52). -/
theorem State.solveFull_start {s : State} {o : Order} (hstg : s.Staging) (hjob : s.bell.job = none) :
    s.solveFull o = (s.noteFirst (portSrc o.port) o.seq.toNat).startSolve 2 (some o) := by
  obtain ⟨-, hrestore, hprep⟩ := hstg
  simp only [State.solveFull, hrestore, hprep, hjob, Option.isSome_none, Bool.false_eq_true, if_false]

/-- Settles O15: both solver commands start a solve in the same way, and SOLVE_INCR does where some request is uncovered. -/
theorem solvesStart : Obligations.SolvesStart := by
  rintro dt o s _ rfl hstg hjob
  have hready : s.Ready := (State.isReady_advance dt).1 hstg.1
  have hstart (kind : Nat) : (s.advance dt).Starts
      (((s.advance dt).noteFirst (portSrc o.port) o.seq.toNat).startSolve kind (some o)) kind o :=
    State.starts_of_noteFirst (State.starts_startSolve _ _ _)
  refine ⟨fun hall => ?zero, fun hsome => ⟨_, ?incr, hstart 1⟩, ⟨_, ?full, hstart 2⟩⟩
  case zero => exact (State.runCmd_next _ _ _ _ _ _ hready).trans (by rw [State.solveIncr_zero hstg hjob hall])
  case incr => exact (State.runCmd_next _ _ _ _ _ _ hready).trans (by rw [State.solveIncr_start hstg hjob hsome])
  case full => exact (State.runCmd_next _ _ _ _ _ _ hready).trans (by rw [State.solveFull_start hstg hjob])

end Sys2Proof.Machine
end

section
/-!
SUPPORT. The end of a solve (R54, R55): what it found is noted on its requests, and it is reported and completed, INT_CAUSE bit
0 of page BELL with it; beside that it ends the job and writes the maps.
-/

namespace Sys2Proof.Machine

/-- An INT_CAUSE bit is set after its happening (R317). -/
theorem State.causeSet_cause (s : State) (page : Nat) {i : Nat} (hi : i < 32) : (s.cause page i).causeSet page i = true := by
  simp only [State.causeSet, State.rb, causeAt, bit, State.reg_cause_eq, BitVec.getLsbD_or, w32, BitVec.getLsbD_ofNat,
    Nat.testBit_two_pow_self, hi, decide_true, Bool.and_true, Bool.or_true]

theorem State.causeSet_congr {s t : State} {page i : Nat} (h : s.reg (causeAt page) = t.reg (causeAt page)) :
    s.causeSet page i = t.causeSet page i := by
  simp only [State.causeSet, State.rb, h]

/-- A report sets INT_CAUSE bit 0 of page BELL (R55, R59). -/
theorem State.report_cause (s : State) (k : Nat) (b : Bool) (n r t : Nat) : (s.report k b n r t).causeSet 0x11 0 = true := by
  have hfigured : (s.figured k b n r t).causeSet 0x11 0 = true := State.causeSet_cause _ _ (by decide)
  obtain h | ⟨l, h⟩ := s.report_cases k b n r t
  · rw [h, hfigured]
  · rw [h, ← hfigured]
    exact State.causeSet_congr (State.reg_eventAt_ne _ _ _ _ _ _ _ (by decide) (by decide))

/-- The completion of a solver command leaves INT_CAUSE as it is. -/
theorem State.solveComplete_cause (s : State) (op c r : Nat) (o : Option Order) :
    (s.solveComplete op c r o).causeSet 0x11 0 = s.causeSet 0x11 0 := by
  cases o with
  | none => rfl
  | some o =>
    refine State.causeSet_congr (State.reg_completeX_ne _ _ _ _ _ _ (by decide) (by decide) ?_)
    cases o.port <;> decide

/-- Between s and u a solve has ended: what it found is noted and reported, and all else is as in t (R55, R59). -/
def State.Concludes (t u : State) : Prop := u.unmarked = t.unmarked ∧ u.causeSet 0x11 0 = true

/-- The report and the completion conclude a solve. -/
theorem State.concludes {t u : State} (h : u.unmarked = t.unmarked) (k : Nat) (b : Bool) (n r ns op c x : Nat)
    (o : Option Order) : t.Concludes ((u.report k b n r ns).solveComplete op c x o) :=
  ⟨by simp [h], by rw [State.solveComplete_cause, State.report_cause]⟩

/-- An incremental solve ends with the staging map of R44 and R49. -/
theorem State.finishSolve_incr {s : State} {j : SolveJob} (hjob : s.bell.job = some j) (hkind : j.kind = 1) :
    State.Concludes { s with bell := { s.bell with
      job := none, stg := (solveIncrMap s.epoch.active s.bell.base s.bell.applied).1 } } s.finishSolve := by
  unfold State.finishSolve
  rw [hjob]
  simp only [hkind, if_true]
  generalize solveIncrMap s.epoch.active s.bell.base s.bell.applied = r
  split <;> exact State.concludes (State.noteOuts_unmarked _ _) _ _ _ _ _ _ _ _ _

/-- A full solve that succeeds makes its map staging map and base (R51, R52). -/
theorem State.finishSolve_full {s : State} {j : SolveJob} {m : CMap} {outs : List ReqOut} (hjob : s.bell.job = some j)
    (hkind : j.kind ≠ 1) (hmap : solveFullMap j.startMap s.epoch.active s.bell.base s.bell.applied = .ok (m, outs)) :
    State.Concludes { s with bell := { s.bell with
      job := none, stg := m, base := m, baseDirect := none
      fulls := s.bell.fulls ++ [⟨j.startMap, s.bell.base, s.bell.applied.map fun r => (r.src, r.seq)⟩] } } s.finishSolve := by
  unfold State.finishSolve
  rw [hjob]
  simp only [hkind, if_false, hmap]
  refine State.concludes ?_ _ _ _ _ _ _ _ _ _
  refine (State.mapReqs_unmarked _ fun r => ?_).trans (State.noteOuts_unmarked _ _)
  split <;> rfl

/-- A full solve that fails leaves both maps (R52). -/
theorem State.finishSolve_full_error {s : State} {j : SolveJob} {q : Nat} (hjob : s.bell.job = some j)
    (hkind : j.kind ≠ 1) (hmap : solveFullMap j.startMap s.epoch.active s.bell.base s.bell.applied = .error q) :
    State.Concludes { s with bell := { s.bell with job := none } } s.finishSolve := by
  unfold State.finishSolve
  rw [hjob]
  simp only [hkind, if_false, hmap]
  refine State.concludes ?_ _ _ _ _ _ _ _ _ _
  split
  · exact (State.refusal_unmarked ..).trans (State.mapReqs_unmarked _ fun r => rfl)
  · exact State.mapReqs_unmarked _ fun r => rfl

/-- Where no PREPARE waits for it, the end of a solve is the end of a solve command's (R46). -/
theorem State.solveEnd_eq {s : State} {j : SolveJob} (hjob : s.bell.job = some j) (hprep : s.epoch.job = none)
    (hepoch : s.finishSolve.epoch = s.epoch) : s.solveEnd = s.finishSolve := by
  simp only [State.solveEnd, hjob, hepoch, hprep]

/-- A solve that concludes from a state that differs from s in its maps and solves alone ends its job and keeps epochs, memory
and the listed requests. -/
theorem State.Concludes.keeps {s u : State} {b : Bell} (h : State.Concludes { s with bell := b } u)
    (hlist : b.list = s.bell.list) : u.bell.job = b.job ∧ u.epoch = s.epoch ∧ u.mem = s.mem
      ∧ u.bell.list.map (fun r => (r.src, r.seq)) = s.bell.list.map (fun r => (r.src, r.seq))
      ∧ u.bell.stg = b.stg ∧ u.bell.base = b.base ∧ u.causeSet 0x11 0 = true := by
  obtain ⟨hframe, hcause⟩ := h
  have hmarks := congrArg (·.bell.list) hframe
  refine ⟨(congrArg (·.bell.job) hframe :), (congrArg State.epoch hframe :), (congrArg State.mem hframe :),
    hlist ▸ keys_of_unmarked hmarks, (congrArg (·.bell.stg) hframe :), (congrArg (·.bell.base) hframe :), hcause⟩

/-- Settles O16: a solve ends in one of three ways, by its kind and by whether the full solve finds a map. -/
theorem solvesEnd : Obligations.SolvesEnd := by
  rintro dt s _ j rfl hserved hjob hprep
  have hend (hepoch : (s.advance dt).finishSolve.epoch = (s.advance dt).epoch) :
      exec (.solveDone dt) s = .next (s.seal dt (s.advance dt).finishSolve) := by
    rw [← State.solveEnd_eq hjob hprep hepoch]
    exact State.run_next _ _ _ ((State.inService_advance dt).1 hserved)
  by_cases hkind : j.kind = 1
  · obtain ⟨hjob', hepoch, hmem, hkeys, hstg, hbase, hcause⟩ := (State.finishSolve_incr hjob hkind).keeps rfl
    exact ⟨_, hend hepoch, hjob', hepoch, hmem, hkeys, fun _ => ⟨hbase, hstg, hcause⟩, by omega, by omega⟩
  · cases hmap : solveFullMap j.startMap (s.advance dt).epoch.active (s.advance dt).bell.base (s.advance dt).bell.applied with
    | ok r =>
      obtain ⟨m, outs⟩ := r
      obtain ⟨hjob', hepoch, hmem, hkeys, hstg, hbase, hcause⟩ := (State.finishSolve_full hjob hkind hmap).keeps rfl
      refine ⟨_, hend hepoch, hjob', hepoch, hmem, hkeys, fun h => absurd h hkind, fun _ m' outs' h => ?_, fun _ q => nofun⟩
      cases h
      exact ⟨hstg, hbase, hcause⟩
    | error q =>
      obtain ⟨hjob', hepoch, hmem, hkeys, hstg, hbase, hcause⟩ := (State.finishSolve_full_error hjob hkind hmap).keeps rfl
      exact ⟨_, hend hepoch, hjob', hepoch, hmem, hkeys, fun h => absurd h hkind, fun _ _ _ => nofun,
        fun _ _ _ => ⟨hstg, hbase, hcause⟩⟩

end Sys2Proof.Machine
end

section
/-!
SUPPORT. What conflicts (R66) and reports (R55) do to registers, events and the conflict log.
-/

namespace Sys2Proof.Machine

/-! ### Events -/

theorem mem_queueEvent {x e : Event} {l : List Event} : x ∈ queueEvent e l ↔ x = e ∨ x ∈ l := by
  induction l with
  | nil => simp [queueEvent]
  | cons y t ih =>
    simp only [queueEvent]
    split
    · simp
    · simp only [List.mem_cons, ih]
      tauto

/-- An event that finds room stands in the queue (R286). -/
theorem State.mem_enqueue_self {s : State} (e : Event) (h : s.chain.queue.length < 1024) : e ∈ (s.enqueue e).chain.queue := by
  rw [State.enqueue, if_pos h]
  exact mem_queueEvent.mpr (.inl rfl)

/-- No event leaves the queue when another forms. -/
theorem State.mem_enqueue_of_mem {s : State} {x : Event} (e : Event) (h : x ∈ s.chain.queue) :
    x ∈ (s.enqueue e).chain.queue := by
  unfold State.enqueue
  split
  · exact mem_queueEvent.mpr (.inr h)
  · exact h

theorem State.mem_eventAt_of_mem {s : State} {x : Event} (page code src seq epoch : Nat) (l : List Word)
    (h : x ∈ s.chain.queue) : x ∈ (s.eventAt page code src seq epoch l).chain.queue := by
  unfold State.eventAt State.eventOf
  split
  · exact State.mem_enqueue_of_mem _ h
  · exact h

/-- An event of a page is reported (R286, R323). -/
theorem State.reported_eventAt (s : State) (page code src seq epoch : Nat) (l : List Word) :
    s.Reported (s.eventAt page code src seq epoch l) page code src seq epoch l := by
  intro hformed hroom
  rw [State.eventAt, State.eventOf, if_pos hformed]
  exact State.mem_enqueue_self _ hroom

/-! ### Conflicts -/

/-- The registers that recording a conflict may write. -/
def conflictRegs : List Nat := Reg.EPOCH_CONFLICT_CNT :: reportRegs 0x13

variable (s : State)

/-- A conflict counted and its cause set, and the log entry made: the state in which its event forms (R66). -/
def State.conflictLogged (kind winSrc winSeq loseSrc loseSeq index : Nat) : State :=
  let s := (s.count Reg.EPOCH_CONFLICT_CNT).cause 0x13 1
  { s with epoch :=
    if s.epoch.clog.length < 64 then
      { s.epoch with clog := s.epoch.clog ++ [(w32 (at_ 31 29 winSrc + at_ 28 26 loseSrc + at_ 25 24 kind + at_ 12 0 index),
        w32 (at_ 31 16 winSeq + at_ 15 0 loseSeq))] }
    else { s.epoch with clogOvf := true } }

theorem State.conflict_eq (k ws wq ls lq x : Nat) : s.conflict k ws wq ls lq x
    = (s.conflictLogged k ws wq ls lq x).eventAt 0x13 0x1201 ls lq s.nextEpoch (pay [ws, wq, k, x]) := by
  unfold State.conflict State.conflictLogged
  simp only
  split <;> rfl

/-- Recording a conflict writes its counter and what reporting on page EPOCH writes. -/
theorem State.conflict_regs (k ws wq ls lq x : Nat) : s.RegsBut (s.conflict k ws wq ls lq x) conflictRegs := by
  intro a ha
  simp only [conflictRegs, reportRegs, List.mem_cons, List.not_mem_nil, or_false, not_or] at ha
  obtain ⟨hcount, hcause, hevent, hdrop⟩ := ha
  rw [State.conflict_eq, State.reg_eventAt_ne _ _ _ _ _ _ _ hevent hdrop]
  exact (State.reg_cause_ne _ _ _ hcause).trans (State.reg_count_ne _ hcount)

theorem State.reg_conflictLogged_count (k ws wq ls lq x : Nat) :
    (s.conflictLogged k ws wq ls lq x).reg Reg.EPOCH_CONFLICT_CNT = bumpWord (s.reg Reg.EPOCH_CONFLICT_CNT) :=
  (State.reg_cause_ne _ _ _ (by decide)).trans (State.reg_count_eq _ _)

/-- An event of page EPOCH is formed or not as before the conflict was counted. -/
theorem State.formed_conflictLogged (k ws wq ls lq x code : Nat) :
    (s.conflictLogged k ws wq ls lq x).formed 0x13 code = s.formed 0x13 code := by
  have hreg (a : Nat) (hcause : a ≠ Reg.base 0x13 + 0x010) (hcount : a ≠ Reg.EPOCH_CONFLICT_CNT) :
      (s.conflictLogged k ws wq ls lq x).reg a = s.reg a :=
    (State.reg_cause_ne _ _ _ hcause).trans (State.reg_count_ne _ hcount)
  simp only [State.formed, State.rb, hreg (Reg.base 0x13 + 0x008) (by decide) (by decide),
    hreg Reg.INTR_EVT_MASK (by decide) (by decide)]

theorem State.conflict_epoch (k ws wq ls lq x : Nat) :
    (s.conflict k ws wq ls lq x).epoch = (s.conflictLogged k ws wq ls lq x).epoch := by
  rw [State.conflict_eq, State.eventAt_epoch]

/-- A conflict of kind CELL is recorded as R66 says. -/
theorem State.clashes_conflict (ws wq ls lq x : Nat) : s.Clashes (s.conflict 1 ws wq ls lq x) ws wq ls lq x := by
  refine ⟨?counted, ?cause, ?reported, fun hroom => ?logged, fun hfull => ?overflow⟩
  case counted =>
    rw [State.Counted, State.conflict_eq, State.reg_eventAt_ne _ _ _ _ _ _ _ (by decide) (by decide),
      State.reg_conflictLogged_count]
  case cause =>
    rw [State.conflict_eq]
    exact (State.causeSet_congr (State.reg_eventAt_ne _ _ _ _ _ _ _ (by decide) (by decide))).trans
      (State.causeSet_cause _ _ (by decide))
  case reported =>
    intro hformed hroom
    rw [State.conflict_eq]
    exact State.reported_eventAt _ _ _ _ _ _ _ ((s.formed_conflictLogged ..).trans hformed) hroom
  case logged =>
    rw [State.conflict_epoch]
    exact if_pos hroom
  case overflow =>
    rw [State.conflict_epoch]
    exact if_neg hfull.not_gt

/-- A conflict stays recorded where no register of its record is written, no event leaves the queue and the conflict log
stays. -/
theorem State.Clashes.mono {s u v : State} {ws wq ls lq x : Nat} {l : List Nat} (h : s.Clashes u ws wq ls lq x)
    (hregs : u.RegsBut v l) (hcount : Reg.EPOCH_CONFLICT_CNT ∉ l) (hcause : causeAt 0x13 ∉ l)
    (hqueue : ∀ e ∈ u.chain.queue, e ∈ v.chain.queue) (hepoch : v.epoch = u.epoch) : s.Clashes v ws wq ls lq x := by
  obtain ⟨hcounted, hset, hreported, hlogged, hoverflow⟩ := h
  rw [← hepoch] at hlogged hoverflow
  exact ⟨(hregs _ hcount).trans hcounted, (State.causeSet_congr (hregs _ hcause)).trans hset,
    fun hformed hroom => hqueue _ (hreported hformed hroom), hlogged, hoverflow⟩

/-! ### Reports -/

/-- The registers that a report of the route solver may write. -/
def figureRegs : List Nat :=
  Reg.BELL_SOLVE_RES :: Reg.BELL_DIST_A :: Reg.BELL_DIST_B :: Reg.BELL_SOLVE_NS :: reportRegs 0x11

theorem State.report_regs (k : Nat) (b : Bool) (n r t : Nat) : s.RegsBut (s.report k b n r t) figureRegs := by
  intro a ha
  simp only [figureRegs, reportRegs, List.mem_cons, List.not_mem_nil, or_false, not_or] at ha
  obtain ⟨hres, hdista, hdistb, hns, hcause, hevent, hdrop⟩ := ha
  have hfigured : (s.figured k b n r t).reg a = s.reg a := by
    unfold State.figured
    generalize categories s.epoch.active s.bell.stg = delta
    simp only
    rw [State.reg_cause_ne _ _ _ hcause, State.reg_setReg_ne _ _ hns, State.reg_setReg_ne _ _ hdistb,
      State.reg_setReg_ne _ _ hdista, State.reg_setReg_ne _ _ hres]
    rfl
  obtain h | ⟨l, h⟩ := s.report_cases k b n r t
  · rw [h, hfigured]
  · rw [h, State.reg_eventAt_ne _ _ _ _ _ _ _ hevent hdrop, hfigured]

theorem State.mem_report_of_mem {s : State} {e : Event} (k : Nat) (b : Bool) (n r t : Nat) (he : e ∈ s.chain.queue) :
    e ∈ (s.report k b n r t).chain.queue := by
  obtain h | ⟨l, h⟩ := s.report_cases k b n r t
  · rw [h]; exact he
  · rw [h]; exact State.mem_eventAt_of_mem _ _ _ _ _ _ he

/-- A report writes the category of every output into DELTA, and no other part of the solver's record. -/
theorem State.report_bell (k : Nat) (b : Bool) (n r t : Nat) :
    (s.report k b n r t).bell = { s.bell with delta := categories s.epoch.active s.bell.stg } := by
  obtain h | ⟨l, h⟩ := s.report_cases k b n r t
  · rw [h]; rfl
  · rw [h, State.eventAt_bell]; rfl

/-- DELTA reads as the category of each output (R55). -/
theorem tget_categories (act stg : CMap) {q : Nat} (hq : q < 512) :
    tget (fun _ => 0) (categories act stg) q = category act stg q := by
  unfold categories
  generalize 512 = n at hq
  induction n with
  | zero => exact absurd hq (Nat.not_lt_zero q)
  | succ n ih =>
    rw [List.range_succ, List.foldl_append, List.foldl_cons, List.foldl_nil]
    obtain hlt | rfl := Nat.lt_succ_iff_lt_or_eq.mp hq
    · rw [tget_tset_ne _ _ _ hlt.ne, ih hlt]
    · exact tget_tset_eq ..

end Sys2Proof.Machine
end

section
/-!
SUPPORT. DIRECT_MAP and CLEAR_STAGE (R56, R57, R68): a load that passes the checks of R56 is settled by the load that set the
base before it.
-/

namespace Sys2Proof.Machine

/-- Registers that a longer list leaves alone, a shorter one does. -/
theorem State.RegsBut.mono {s u : State} {l l' : List Nat} (h : s.RegsBut u l) (hl : ∀ a ∈ l, a ∈ l') : s.RegsBut u l' :=
  fun a ha => h a fun hmem => ha (hl a hmem)

theorem State.RegsBut.trans {s u v : State} {l l' : List Nat} (h : s.RegsBut u l) (h' : u.RegsBut v l') :
    s.RegsBut v (l ++ l') := by
  intro a ha
  rw [List.mem_append, not_or] at ha
  exact (h' a ha.2).trans (h a ha.1)

/-! ### The checks of DIRECT_MAP -/

/-- What becomes of a load that passes every check of R56 (R68). -/
def State.settleLoad (s : State) (o : Order) (m : CMap) : State :=
  let src := portSrc o.port
  let seq := o.seq.toNat
  if m.sameAs s.bell.base then (s.noteFirst src seq).complete 0x11 10 cDONE o
  else match s.bell.baseDirect with
    | some (bs, bq) =>
      let idx := lowestDiff s.bell.directLoad m
      let s := { s with bell := { s.bell with cellLost := true } }
      if bs < src then (s.conflict 1 bs bq src seq idx).complete 0x11 10 cCONFLICT o
      else ((s.conflict 1 src seq bs bq idx).loadMap src seq m).complete 0x11 10 cDONE o
    | none => (s.loadMap src seq m).complete 0x11 10 cDONE o

/-- A DIRECT_MAP that may act and passes the checks of R56 is settled by R68. -/
theorem State.directMap_eq {s : State} {o : Order} {m : CMap} (hstg : s.Staging) (hjob : s.bell.job = none)
    (hload : s.Loads o m) : s.directMap o = s.settleLoad o m := by
  obtain ⟨-, hrestore, hprep⟩ := hstg
  obtain ⟨halone, ⟨p, hp, hin⟩, hcodes, htraced, hused, hpins⟩ := hload
  have hins : (List.range 512).filter s.loadedInput ≠ [] :=
    List.ne_nil_of_mem (List.mem_filter.mpr ⟨List.mem_range.mpr hp, hin⟩)
  have hno3 : ((List.range 4352).any fun c => s.loadedCell c == 3) = false := by
    simpa only [List.any_eq_false, List.mem_range, beq_iff_eq] using hcodes
  have hnoUnused : ((List.range 4352).any fun c => s.loadedCell c != 0 && (m.hopIn c).isNone) = false := by
    simp only [List.any_eq_false, List.mem_range, Bool.and_eq_true, bne_iff_ne, not_and]
    intro c hc hne
    obtain ⟨h, hh⟩ := hused c hc hne
    simp [hh]
  have hnoPinned : (s.bell.stg.any fun k => k.pinned && !(m.any fun c => c.out == k.out && c.inp == k.inp && c.mid == k.mid))
      = false := by
    refine List.any_eq_false.mpr fun k hk => ?_
    rw [Bool.and_eq_true, Bool.not_eq_true', not_and, Bool.not_eq_false, List.any_eq_true]
    intro hpinned
    obtain ⟨c, hc, hout, hinp, hmid⟩ := hpins k hk hpinned
    exact ⟨c, hc, by simp [hout, hinp, hmid]⟩
  obtain hbase | ⟨⟨bs, bq⟩, hbase⟩ := Option.eq_none_or_eq_some s.bell.baseDirect
  all_goals simp only [State.directMap, State.settleLoad, hrestore, hprep, hjob, halone, hins, hno3, htraced, hnoUnused,
    hnoPinned, hbase, Option.isSome_none, Bool.false_eq_true, if_false, ne_eq, not_true_eq_false]

/-- The index of a lost load is the lowest cell whose state differs between the two loads (R68). -/
theorem State.Parts.lowestDiff_eq {s : State} {m : CMap} {x : Nat} (h : s.Parts m x) :
    lowestDiff s.bell.directLoad m = x := by
  obtain ⟨hx, hdiff, hsame⟩ := h
  have hfind : (List.range 4352).find? (fun c => s.bell.directLoad.cell c != m.cell c) = some x :=
    List.find?_range_eq_some.mpr ⟨by simpa using hdiff, List.mem_range.mpr hx, fun y hy => by simpa using hsame y hy⟩
  rw [lowestDiff, hfind, Option.getD_some]

/-! ### The load -/

variable (s : State)

/-- Noting a source looks at the first sequences alone. -/
theorem State.noteFirst_first_congr {s t : State} (h : s.bell.first = t.bell.first) (src seq : Nat) :
    (s.noteFirst src seq).bell.first = (t.noteFirst src seq).bell.first := by
  have hfirst : s.bell.firstOf src = t.bell.firstOf src := by rw [Bell.firstOf, Bell.firstOf, h]
  cases hs : s.bell.firstOf src with
  | some n => rw [State.noteFirst_of_some hs, State.noteFirst_of_some (hfirst.symm.trans hs), h]
  | none => rw [State.noteFirst_of_none seq hs, State.noteFirst_of_none seq (hfirst.symm.trans hs), h]

/-- The loaded map written into the solver's record. -/
def State.loadedAs (src seq : Nat) (m : CMap) : State :=
  { s with bell := { s.bell with
    stg := m, base := m, baseDirect := some (src, seq), fulls := [], directLoad := m
    first := (s.noteFirst src seq).bell.first } }

theorem State.loadMap_eq (src seq : Nat) (m : CMap) : s.loadMap src seq m = (s.loadedAs src seq m).report 3 false 0 0 0 := by
  rw [State.loadMap, State.noteFirst_eq]
  rfl

theorem State.loadMap_bell (src seq : Nat) (m : CMap) : (s.loadMap src seq m).bell = { s.bell with
    stg := m, base := m, baseDirect := some (src, seq), fulls := [], delta := categories s.epoch.active m, directLoad := m
    first := (s.noteFirst src seq).bell.first } := by
  rw [State.loadMap_eq, State.report_bell]
  rfl

theorem State.loadMap_unsolved (src seq : Nat) (m : CMap) : (s.loadMap src seq m).unsolved = s.unsolved := by
  rw [State.loadMap_eq]
  exact (State.unsolved_of_unmarked (State.report_unmarked ..)).trans rfl

theorem State.loadMap_epoch (src seq : Nat) (m : CMap) : (s.loadMap src seq m).epoch = s.epoch := by
  rw [State.loadMap_eq]
  exact (congrArg State.epoch (State.report_unmarked ..) :)

theorem State.loadMap_regs (src seq : Nat) (m : CMap) : s.RegsBut (s.loadMap src seq m) figureRegs := by
  rw [State.loadMap_eq]
  exact (s.loadedAs src seq m).report_regs _ _ _ _ _

theorem State.loadMap_cause (src seq : Nat) (m : CMap) : (s.loadMap src seq m).causeSet 0x11 0 = true := by
  rw [State.loadMap_eq, State.report_cause]

theorem State.mem_loadMap_of_mem {s : State} {e : Event} (src seq : Nat) (m : CMap) (he : e ∈ s.chain.queue) :
    e ∈ (s.loadMap src seq m).chain.queue := by
  rw [State.loadMap_eq]
  exact State.mem_report_of_mem _ _ _ _ _ he

/-- What a load that takes the base does to the solver's record, to DELTA and to everything else, whether or not it has first
been recorded as the winner over the one before it (R56, R68). -/
theorem State.loadMap_takes {s v : State} {lost : Bool} (hbell : v.bell = { s.bell with cellLost := lost })
    (hlost : lost = (s.bell.cellLost || s.bell.baseDirect.isSome)) (hframe : v.unsolved = s.unsolved) (src seq : Nat)
    (m : CMap) :
    (v.loadMap src seq m).bell = { s.bell with
        stg := m, base := m, baseDirect := some (src, seq), fulls := [], delta := (v.loadMap src seq m).bell.delta
        directLoad := m, first := (s.noteFirst src seq).bell.first
        cellLost := s.bell.cellLost || s.bell.baseDirect.isSome }
      ∧ (v.loadMap src seq m).bare s = { s with bell := (v.loadMap src seq m).bell, epoch := (v.loadMap src seq m).epoch }
      ∧ (∀ q, q < 512 → tget (fun _ => 0) (v.loadMap src seq m).bell.delta q = category s.epoch.active m q)
      ∧ (v.loadMap src seq m).causeSet 0x11 0 = true := by
  have hactive : v.epoch.active = s.epoch.active := by rw [State.epoch_of_unsolved hframe]
  have hfirst := State.noteFirst_first_congr (s := v) (t := s) (by rw [hbell]) src seq
  have hunsolved := (v.loadMap_unsolved src seq m).trans hframe
  refine ⟨?bell, State.bare_of_unsolved hunsolved, fun q hq => ?delta, v.loadMap_cause src seq m⟩
  case bell => rw [State.loadMap_bell, hfirst, hbell, hlost]
  case delta => rw [State.loadMap_bell, tget_categories _ _ hq, hactive]

/-! ### The outcomes of R68 -/

/-- The first DIRECT_MAP of an epoch that changes the base takes it. -/
theorem State.settleLoad_first {s : State} {o : Order} {m : CMap} (hdiff : m.sameAs s.bell.base = false)
    (hbase : s.bell.baseDirect = none) :
    s.settleLoad o m = (s.loadMap (portSrc o.port) o.seq.toNat m).complete 0x11 10 cDONE o := by
  simp only [State.settleLoad, hdiff, hbase, Bool.false_eq_true, if_false]

/-- The state with a load of R68 lost, and recorded between a winner and a loser. -/
def State.loadLost (win winSeq lose loseSeq : Nat) (m : CMap) : State :=
  State.conflict { s with bell := { s.bell with cellLost := true } } 1 win winSeq lose loseSeq (lowestDiff s.bell.directLoad m)

/-- A later DIRECT_MAP takes the base from one that it outranks or repeats. -/
theorem State.settleLoad_wins {s : State} {o : Order} {m : CMap} {bs bq : Nat} (hdiff : m.sameAs s.bell.base = false)
    (hbase : s.bell.baseDirect = some (bs, bq)) (hrank : portSrc o.port ≤ bs) :
    s.settleLoad o m = ((s.loadLost (portSrc o.port) o.seq.toNat bs bq m).loadMap (portSrc o.port) o.seq.toNat m).complete
      0x11 10 cDONE o := by
  simp only [State.settleLoad, State.loadLost, hdiff, hbase, hrank.not_gt, Bool.false_eq_true, if_false]

/-- A later DIRECT_MAP loses against one of higher rank. -/
theorem State.settleLoad_loses {s : State} {o : Order} {m : CMap} {bs bq : Nat} (hdiff : m.sameAs s.bell.base = false)
    (hbase : s.bell.baseDirect = some (bs, bq)) (hrank : bs < portSrc o.port) :
    s.settleLoad o m = (s.loadLost bs bq (portSrc o.port) o.seq.toNat m).complete 0x11 10 cCONFLICT o := by
  simp only [State.settleLoad, State.loadLost, hdiff, hbase, hrank, Bool.false_eq_true, if_false, if_true]

theorem State.loadLost_bell (ws wq ls lq : Nat) (m : CMap) :
    (s.loadLost ws wq ls lq m).bell = { s.bell with cellLost := true } := State.conflict_bell ..

theorem State.loadLost_unsolved (ws wq ls lq : Nat) (m : CMap) : (s.loadLost ws wq ls lq m).unsolved = s.unsolved :=
  State.conflict_unsolved ..

theorem State.loadLost_regs (ws wq ls lq : Nat) (m : CMap) : s.RegsBut (s.loadLost ws wq ls lq m) conflictRegs :=
  State.conflict_regs { s with bell := { s.bell with cellLost := true } } _ _ _ _ _ _

/-- The load lost is recorded under the lowest cell whose state differs. -/
theorem State.clashes_loadLost {s : State} {m : CMap} {x : Nat} (h : s.Parts m x) (ws wq ls lq : Nat) :
    s.Clashes (s.loadLost ws wq ls lq m) ws wq ls lq x := by
  rw [State.loadLost, h.lowestDiff_eq]
  exact State.clashes_conflict { s with bell := { s.bell with cellLost := true } } ..

/-- CLEAR_STAGE where it may act (R57). -/
theorem State.clearStage_eq {s : State} {o : Order} (hstg : s.Staging) (hjob : s.bell.job = none) :
    s.clearStage o = (s.noteFirst (portSrc o.port) o.seq.toNat).clearStaging.complete 0x11 11
      (if s.bell.list = [] ∧ s.bell.stg.sameAs s.epoch.active = true then cZERO else cDONE) o := by
  obtain ⟨-, hrestore, hprep⟩ := hstg
  simp only [State.clearStage, hrestore, hprep, hjob, Option.isSome_none, Bool.false_eq_true, if_false]

/-- A DIRECT_MAP that passes the checks of R56, dt after the command before it. -/
theorem State.exec_directMap {s : State} {dt : Nat} {o : Order} {m : CMap} (hstg : (s.advance dt).Staging)
    (hjob : (s.advance dt).bell.job = none) (hload : (s.advance dt).Loads o m) :
    exec (.directMap dt o) s = .next (s.seal dt ((s.advance dt).settleLoad o m)) := by
  rw [← State.directMap_eq hstg hjob hload]
  exact State.runCmd_next _ _ _ _ _ _ ((State.isReady_advance dt).1 hstg.1)

/-- CLEAR_STAGE where it may act, dt after the command before it. -/
theorem State.exec_clearStage {s : State} {dt : Nat} {o : Order} (hstg : (s.advance dt).Staging)
    (hjob : (s.advance dt).bell.job = none) : exec (.clearStage dt o) s = .next (s.seal dt
      (((s.advance dt).noteFirst (portSrc o.port) o.seq.toNat).clearStaging.complete 0x11 11
        (if (s.advance dt).bell.list = [] ∧ (s.advance dt).bell.stg.sameAs (s.advance dt).epoch.active = true
          then cZERO else cDONE) o)) := by
  rw [← State.clearStage_eq hstg hjob]
  exact State.runCmd_next _ _ _ _ _ _ ((State.isReady_advance dt).1 hstg.1)

/-- Settles O18: the loads of R56 are settled by the load before them, and CLEAR_STAGE writes the whole staging side. -/
theorem stagingIsReplacedWhole : Obligations.StagingIsReplacedWhole := by
  rintro dt o s _ rfl hstg hjob
  have hclear := State.exec_clearStage (o := o) hstg hjob
  refine ⟨fun m hload => ?load, ⟨_, hclear, by rw [State.noteFirst_eq]; rfl⟩⟩
  have hexec := State.exec_directMap hstg hjob hload
  generalize s.advance dt = t at *
  refine ⟨fun hsame => ?same, fun hdiff hrank => ?takes, fun bs bq hdiff hbase hrank => ?loses⟩
  case same => rw [hexec, State.settleLoad, if_pos hsame]
  case takes =>
    obtain hbase | ⟨⟨bs, bq⟩, hbase⟩ := Option.eq_none_or_eq_some t.bell.baseDirect
    · rw [State.settleLoad_first hdiff hbase] at hexec
      obtain ⟨hbell, hbare, hdelta, hcause⟩ :=
        State.loadMap_takes (s := t) (v := t) rfl (by simp [hbase]) rfl (portSrc o.port) o.seq.toNat m
      have hregs := t.loadMap_regs (portSrc o.port) o.seq.toNat m
      exact ⟨_, hexec, hbell, hbare, hdelta, hcause, fun _ => ⟨State.loadMap_epoch .., hregs⟩,
        fun _ _ _ hbase' => by simp [hbase] at hbase', hregs.mono (by decide)⟩
    · rw [State.settleLoad_wins hdiff hbase (hrank bs bq hbase)] at hexec
      obtain ⟨hbell, hbare, hdelta, hcause⟩ := State.loadMap_takes (t.loadLost_bell ..) (by simp [hbase])
        (t.loadLost_unsolved (portSrc o.port) o.seq.toNat bs bq m) (portSrc o.port) o.seq.toNat m
      have hregs := State.loadMap_regs (t.loadLost (portSrc o.port) o.seq.toNat bs bq m) (portSrc o.port) o.seq.toNat m
      refine ⟨_, hexec, hbell, hbare, hdelta, hcause, fun hnone => by simp [hbase] at hnone, fun bs' bq' x hbase' hx => ?_,
        ((t.loadLost_regs _ _ _ _ m).trans hregs).mono (by decide)⟩
      cases hbase.symm.trans hbase'
      exact (State.clashes_loadLost hx ..).mono hregs (by decide) (by decide) (fun e => State.mem_loadMap_of_mem _ _ _)
        (State.loadMap_epoch ..)
  case loses =>
    rw [State.settleLoad_loses hdiff hbase hrank] at hexec
    refine ⟨_, hexec, ?_, fun x hx => State.clashes_loadLost hx .., t.loadLost_regs _ _ _ _ m⟩
    rw [State.bare_of_unsolved (t.loadLost_unsolved ..), State.loadLost_bell]

end Sys2Proof.Machine
end

section
/-!
SUPPORT. What the transition sequencer does to one element that it hands over: later steps of KICK_END, which begin the next
wave, unblank circuits and end the transition, drive other elements, the VOAs of circuits among them.
-/

namespace Sys2Proof.Machine

/-! ### One element and the lists of kicks and offsets -/

/-- What a plane drives an element for, and the sequencer's lists of kicking and compensated elements. -/
def State.handed (s : State) (pl : Plane) (e : Nat) : ElSt × Option Nat × List Nat × List Nat :=
  ((s.elem e).st, (s.lp pl e).code, s.trans.kicking, s.trans.comp)

/-- Element k has no record, on either plane, in common with the loop of element e on a plane. -/
def Apart (pl : Plane) (e k : Nat) : Prop := ∀ p, lpKey p k ≠ lpKey pl e

theorem Apart.ne {pl : Plane} {e k : Nat} (h : Apart pl e k) : e ≠ k := fun hek => h pl (by rw [hek])

theorem State.elem_updElem_ne (s : State) {e k : Nat} (f : Elem → Elem) (h : e ≠ k) : (s.updElem k f).elem e = s.elem e :=
  tget_tset_ne _ _ _ h
theorem State.lp_updLp_eq (s : State) (pl : Plane) (e : Nat) (f : Lp → Lp) : (s.updLp pl e f).lp pl e = f (s.lp pl e) :=
  tget_tset_eq ..
theorem State.lp_updLp_ne (s : State) {pl p : Plane} {e k : Nat} (f : Lp → Lp) (h : lpKey p k ≠ lpKey pl e) :
    (s.updLp p k f).lp pl e = s.lp pl e := tget_tset_ne _ _ _ h.symm

/-- A change of a loop that keeps its code keeps the code of every loop. -/
theorem State.code_updLp (s : State) (pl p : Plane) (e k : Nat) (f : Lp → Lp) (hf : ∀ l, (f l).code = l.code) :
    ((s.updLp p k f).lp pl e).code = (s.lp pl e).code := by
  by_cases h : lpKey p k = lpKey pl e
  · have hwrite : (s.updLp p k f).lp pl e = f (s.lp p k) := by
      rw [State.lp, ← h]
      exact tget_tset_eq ..
    have hread : s.lp pl e = s.lp p k := by rw [State.lp, State.lp, h]
    rw [hwrite, hf, hread]
  · rw [State.lp_updLp_ne s f h]

theorem State.handed_congr {s t : State} (he : s.elems = t.elems) (hl : s.lps = t.lps)
    (hk : s.trans.kicking = t.trans.kicking) (hc : s.trans.comp = t.trans.comp) (pl : Plane) (e : Nat) :
    s.handed pl e = t.handed pl e := by
  simp only [State.handed, State.elem, State.lp, he, hl, hk, hc]

@[simp] theorem State.elem_updTrans (s : State) (f : Trans → Trans) (e : Nat) : (s.updTrans f).elem e = s.elem e := rfl
@[simp] theorem State.lp_updTrans (s : State) (f : Trans → Trans) (pl : Plane) (e : Nat) :
    (s.updTrans f).lp pl e = s.lp pl e := rfl

/-- What else the sequencer notes drives no element. -/
theorem State.handed_updTrans (s : State) (f : Trans → Trans) (hk : (f s.trans).kicking = s.trans.kicking)
    (hc : (f s.trans).comp = s.trans.comp) (pl : Plane) (e : Nat) : (s.updTrans f).handed pl e = s.handed pl e := by
  rw [State.handed, State.elem_updTrans, State.lp_updTrans, State.updTrans, hk, hc, ← State.handed]

theorem State.handed_updLp (s : State) (pl p : Plane) (e k : Nat) (f : Lp → Lp) (hf : ∀ l, (f l).code = l.code) :
    (s.updLp p k f).handed pl e = s.handed pl e := by
  simp only [State.handed, s.code_updLp pl p e k f hf]
  rfl

theorem State.handed_updLp_of_apart (s : State) {pl : Plane} {e k : Nat} (h : Apart pl e k) (p : Plane) (f : Lp → Lp) :
    (s.updLp p k f).handed pl e = s.handed pl e := by
  simp only [State.handed, s.lp_updLp_ne f (h p)]
  rfl

theorem State.handed_updElem_of_apart (s : State) {pl : Plane} {e k : Nat} (h : Apart pl e k) (f : Elem → Elem) :
    (s.updElem k f).handed pl e = s.handed pl e := by
  simp only [State.handed, s.elem_updElem_ne f h.ne]
  rfl

theorem State.handed_updLps_of_apart (s : State) {pl : Plane} {e k : Nat} (h : Apart pl e k) (f : Lp → Lp) :
    (s.updLps k f).handed pl e = s.handed pl e :=
  (State.handed_updLp_of_apart _ h .b f).trans (s.handed_updLp_of_apart h .a f)

theorem State.handed_freshOn (s : State) (pl p : Plane) (e k : Nat) : (s.freshOn p k).handed pl e = s.handed pl e :=
  s.handed_updLp pl p e k _ fun _ => rfl

/-- A fresh window moves no code. -/
theorem State.handed_fresh (s : State) (pl : Plane) (e k : Nat) : (s.fresh k).handed pl e = s.handed pl e :=
  (State.handed_freshOn _ pl .b e k).trans (s.handed_freshOn pl .a e k)

theorem State.handed_setSt_of_apart (s : State) {pl : Plane} {e k : Nat} (h : Apart pl e k) (st : ElSt) :
    (s.setSt k st).handed pl e = s.handed pl e := by
  unfold State.setSt
  simp only
  split
  · rw [State.handed_fresh, State.handed_updLps_of_apart _ h, State.handed_updElem_of_apart _ h]
  · rw [State.handed_updLps_of_apart _ h, State.handed_updElem_of_apart _ h]

/-! ### Circuits unblanked, and the end of the transition -/

theorem State.handed_unblank_of_apart (s : State) {pl : Plane} {e k : Nat} (h : Apart pl e k) :
    (s.unblank k).handed pl e = s.handed pl e := by
  unfold State.unblank
  split
  · rfl
  · rw [State.handed_fresh, State.handed_updElem_of_apart _ h, State.handed_updLps_of_apart _ h, State.setCode,
      State.handed_updLps_of_apart _ h, State.handed_setSt_of_apart _ h]

/-- No VOA of a circuit of the active map shares a record with the loop of element e on a plane. -/
def State.VoasApart (s : State) (pl : Plane) (e : Nat) : Prop :=
  ∀ c ∈ s.epoch.active, Apart pl e (ovoaOf c.out) ∧ Apart pl e (ivoaOf c.inp)

theorem State.VoasApart.congr {s t : State} {pl : Plane} {e : Nat} (h : s.VoasApart pl e) (ht : t.epoch = s.epoch) :
    t.VoasApart pl e := by
  rwa [State.VoasApart, ht]

theorem State.handed_unblankCircuit (s : State) {pl : Plane} {e : Nat} (h : s.VoasApart pl e) (q : Nat) :
    (s.unblankCircuit q).handed pl e = s.handed pl e := by
  unfold State.unblankCircuit
  split
  · rfl
  · rename_i c hc
    obtain ⟨hout, hinp⟩ := h c (List.mem_of_find?_eq_some hc)
    have hq : c.out = q := by simpa using List.find?_some hc
    rw [hq] at hout
    simp only
    rw [State.handed_updTrans _ _ rfl rfl, State.handed_unblank_of_apart _ hinp, State.handed_unblank_of_apart _ hout]

theorem State.handed_lateUnblank (s : State) {pl : Plane} {e : Nat} (h : s.VoasApart pl e) (q : Nat) :
    (s.lateUnblank q).handed pl e = s.handed pl e := by
  refine Eq.trans (State.handed_congr ?_ ?_ ?_ ?_ pl e) (s.handed_unblankCircuit h q)
  all_goals simp [State.lateUnblank, State.outputEvent, State.updTrans]

theorem State.handed_endTransition (s : State) (pl : Plane) (e : Nat) (h : s.trans.comp = []) :
    s.endTransition.handed pl e = s.handed pl e := by
  unfold State.endTransition
  simp only
  split
  all_goals
    refine State.handed_congr ?_ ?_ ?_ ?_ pl e
    all_goals simp [State.foldOffsets, State.sheepEvent, State.updTrans, h]

theorem State.handed_checkEnd (s : State) (pl : Plane) (e : Nat) (h : s.trans.comp = []) :
    s.checkEnd.handed pl e = s.handed pl e := by
  unfold State.checkEnd
  simp only
  repeat' split
  case isFalse.isTrue.isTrue => exact s.handed_endTransition pl e h
  all_goals rfl

theorem State.epoch_of_outer {s t : State} (h : s.outer = t.outer) : s.epoch = t.epoch := (State.of_outer h).2.2.2.2.2.1

/-- A fold over outputs of which each step touches the element level alone keeps what it keeps where the VOAs of circuits stand
apart from the element. -/
theorem State.handed_each {s : State} {pl : Plane} {e : Nat} (h : s.VoasApart pl e) (l : List Nat) {f : State → Nat → State}
    (houter : ∀ s q, (f s q).outer = s.outer) (hf : ∀ s q, s.VoasApart pl e → (f s q).handed pl e = s.handed pl e) :
    (s.each l f).handed pl e = s.handed pl e := by
  induction l generalizing s with
  | nil => rfl
  | cons q l ih =>
    have hstep : (f s q).VoasApart pl e := h.congr (State.epoch_of_outer (houter s q))
    exact (ih hstep).trans (hf s q h)

/-- A waiting circuit whose settle set has settled leaves the list and unblanks, reported where R108 recovers it. -/
def State.unblankWaiting (s : State) (abandon q : Nat) : State :=
  let s := s.updTrans fun t => { t with waiting := t.waiting.filter fun x => x.1 != q }
  if 2 ≤ abandon then s.lateUnblank q else s.unblankCircuit q

@[simp] theorem State.unblankWaiting_outer (s : State) (n q : Nat) : (s.unblankWaiting n q).outer = s.outer := by
  unfold State.unblankWaiting
  simp only
  split <;> simp

theorem State.handed_unblankWaiting (s : State) {pl : Plane} {e : Nat} (h : s.VoasApart pl e) (n q : Nat) :
    (s.unblankWaiting n q).handed pl e = s.handed pl e := by
  unfold State.unblankWaiting
  simp only
  split
  · exact (State.handed_lateUnblank (s.updTrans _) (h.congr rfl) q).trans (s.handed_updTrans _ rfl rfl pl e)
  · exact (State.handed_unblankCircuit (s.updTrans _) (h.congr rfl) q).trans (s.handed_updTrans _ rfl rfl pl e)

/-- Outside clear, CHECK_SETTLED unblanks the waiting and the late circuits that have settled, and may end the transition. -/
theorem State.checkSettled_eq {s : State} (h : s.drv.clearing = false) : ∃ now late : List Nat, s.checkSettled
    = ((s.each now fun x q => x.unblankWaiting s.trans.abandon q).each late fun x q => x.lateUnblank q).checkEnd := by
  rw [State.checkSettled, if_neg (by simp [h])]
  exact ⟨_, _, rfl⟩

/-- Circuits that have settled unblank their VOAs, and the transition may end: no other element is driven otherwise. -/
theorem State.handed_checkSettled {s : State} {pl : Plane} {e : Nat} (h : s.VoasApart pl e) (hcomp : s.trans.comp = []) :
    s.checkSettled.handed pl e = s.handed pl e := by
  cases hclear : s.drv.clearing with
  | true => rw [State.checkSettled, if_pos hclear]
  | false =>
    obtain ⟨now, late, heq⟩ := State.checkSettled_eq hclear
    have hnow : (s.each now fun x q => x.unblankWaiting s.trans.abandon q).handed pl e = s.handed pl e :=
      State.handed_each h now (fun x q => x.unblankWaiting_outer _ q) fun x q hx => x.handed_unblankWaiting hx _ q
    have houter : (s.each now fun x q => x.unblankWaiting s.trans.abandon q).outer = s.outer :=
      State.each_outer _ _ _ fun x q => x.unblankWaiting_outer _ q
    have hlate := (State.handed_each (h.congr (State.epoch_of_outer houter)) late (f := fun x q => x.lateUnblank q)
      (fun x q => x.lateUnblank_outer q) fun x q hx => x.handed_lateUnblank hx q).trans hnow
    have hcomp' := congrArg (fun v => v.2.2.2) hlate
    rw [heq, State.handed_checkEnd _ _ _ (hcomp'.trans hcomp), hlate]

/-! ### The hand-over itself -/

@[simp] theorem State.beginIdle_elems (s : State) (pl : Plane) (t : Nat) : (s.beginIdle pl t).elems = s.elems := by
  unfold State.beginIdle State.beginRounds
  simp only
  repeat' split
  all_goals rfl
@[simp] theorem State.beginIdle_lps (s : State) (pl : Plane) (t : Nat) : (s.beginIdle pl t).lps = s.lps := by
  unfold State.beginIdle State.beginRounds
  simp only
  repeat' split
  all_goals rfl
@[simp] theorem State.beginIdle_trans (s : State) (pl : Plane) (t : Nat) : (s.beginIdle pl t).trans = s.trans := by
  unfold State.beginIdle State.beginRounds
  simp only
  repeat' split
  all_goals rfl

/-- The sequencer's hold on a tile moves no code. -/
theorem State.handed_holdTile (s : State) (t : Nat) (pl : Plane) (e : Nat) : (s.holdTile t).handed pl e = s.handed pl e := by
  unfold State.holdTile
  simp only
  split
  all_goals
    refine State.handed_congr ?_ ?_ ?_ ?_ pl e
    all_goals simp

theorem lpKey_ne_other (e : Nat) : lpKey .a e ≠ lpKey .b e := by simp [lpKey, planeIdx]

/-- A loop change on both planes changes the loop of each. -/
theorem State.lp_updLps_eq (s : State) (pl : Plane) (e : Nat) (f : Lp → Lp) : (s.updLps e f).lp pl e = f (s.lp pl e) := by
  cases pl with
  | a => rw [State.updLps, State.lp_updLp_ne _ _ (lpKey_ne_other e).symm, State.lp_updLp_eq]
  | b => rw [State.updLps, State.lp_updLp_eq, State.lp_updLp_ne _ _ (lpKey_ne_other e)]

theorem State.st_setSt (s : State) (e : Nat) (st : ElSt) : ((s.setSt e st).elem e).st = st := by
  have helems : (s.setSt e st).elems
      = (s.updElem e fun x => { x with st := st, wrote := x.wrote && st == .lock, recheck := false }).elems := by
    unfold State.setSt
    simp only
    split <;> rfl
  rw [State.elem, helems, State.updElem, tget_tset_eq]

@[simp] theorem State.updLps_elems (s : State) (e : Nat) (f : Lp → Lp) : (s.updLps e f).elems = s.elems := rfl
@[simp] theorem State.updLps_trans (s : State) (e : Nat) (f : Lp → Lp) : (s.updLps e f).trans = s.trans := rfl
@[simp] theorem State.fresh_trans (s : State) (e : Nat) : (s.fresh e).trans = s.trans := rfl

@[simp] theorem State.setSt_trans (s : State) (e : Nat) (st : ElSt) : (s.setSt e st).trans = s.trans := by
  unfold State.setSt
  simp only
  split
  · rw [State.fresh_trans, State.updLps_trans, State.updElem_trans]
  · rw [State.updLps_trans, State.updElem_trans]

/-- Of the sequencer's record a hold on a tile writes the tiles held. -/
theorem State.holdTile_trans (s : State) (t : Nat) : (s.holdTile t).trans = { s.trans with held := insN t s.trans.held } := by
  unfold State.holdTile
  simp only [State.beginIdle_trans]
  split <;> rfl

theorem State.handOver_trans (s : State) (e : Nat) :
    (s.handOver e).trans = { s.trans with held := insN (tileOf e) s.trans.held } := by
  rw [State.handOver, State.holdTile_trans, State.fresh_trans, State.updLps_trans, State.setCode, State.updLps_trans,
    State.setSt_trans]

/-- At the end of its kick an element is in SETTLE at its target code on both planes (R91, R94). -/
theorem State.handed_handOver (s : State) (pl : Plane) (e : Nat) :
    (s.handOver e).handed pl e = (.settle, some (s.elem e).kickTo, s.trans.kicking, s.trans.comp) := by
  rw [State.handOver, State.handed_holdTile, State.handed_fresh]
  simp only [State.handed, State.lp_updLps_eq, State.setCode, State.updLps_trans, State.setSt_trans]
  rw [State.elem, State.updLps_elems, State.updLps_elems, ← State.elem, s.st_setSt e .settle]

/-- No wave begins while a kick is in progress, or none is left: the lists of kicks and offsets and every element stay. -/
theorem State.handed_nextWaves (s : State) (pl : Plane) (e : Nat) {w : List (List Nat)} (h : w = [] ∨ s.trans.kicking ≠ []) :
    (s.nextWaves w).handed pl e = s.handed pl e := by
  cases w with
  | nil => exact State.handed_congr rfl rfl rfl rfl pl e
  | cons x t =>
    rw [State.nextWaves, if_pos (.inl (h.resolve_left (List.cons_ne_nil _ _)))]
    exact State.handed_congr rfl rfl rfl rfl pl e

@[simp] theorem State.kickEnd_outer (s : State) (e : Nat) : (s.kickEnd e).outer = s.outer := by
  unfold State.kickEnd
  split
  · rfl
  · simp

/-- The element handed over is out of the list of kicks in progress. -/
def State.kicked (s : State) (e : Nat) : State :=
  (s.handOver e).updTrans fun t => { t with kicking := t.kicking.filter (· != e) }

@[simp] theorem State.kicked_outer (s : State) (e : Nat) : (s.kicked e).outer = s.outer := by
  rw [State.kicked, State.updTrans_outer, State.handOver_outer]

theorem State.kicked_trans (s : State) (e : Nat) : (s.kicked e).trans = { s.trans with
    kicking := s.trans.kicking.filter (· != e), held := insN (tileOf e) s.trans.held } := by
  rw [State.kicked, State.updTrans, State.handOver_trans]

theorem State.handed_kicked (s : State) (pl : Plane) (e : Nat) : (s.kicked e).handed pl e
    = (.settle, some (s.elem e).kickTo, s.trans.kicking.filter (· != e), s.trans.comp) := by
  have hover := s.handed_handOver pl e
  rw [State.handed, Prod.mk.injEq, Prod.mk.injEq] at hover
  obtain ⟨hst, hcode, -⟩ := hover
  rw [State.handed, State.kicked_trans, State.kicked, State.elem_updTrans, State.lp_updTrans, hst, hcode]

/-- KICK_END hands its element over and takes it from the kicks in progress. -/
theorem State.handed_kickEnd {s : State} {pl : Plane} {e : Nat} (hst : (s.elem e).st = .kick)
    (hend : (s.elem e).kickEnd ≤ s.elapsed) (hwaves : s.trans.waves = [] ∨ ∃ k ∈ s.trans.kicking, k ≠ e)
    (hcomp : s.trans.comp = []) (hvoas : s.VoasApart pl e) :
    (s.kickEnd e).handed pl e = (.settle, some (s.elem e).kickTo, s.trans.kicking.filter (· != e), []) := by
  have heq : s.kickEnd e = ((s.kicked e).nextWaves (s.kicked e).trans.waves).checkSettled := by
    rw [State.kickEnd, if_neg (by simp [hst, hend])]
    rfl
  have hkicks : (s.kicked e).trans.waves = [] ∨ (s.kicked e).trans.kicking ≠ [] := by
    simp only [State.kicked_trans]
    exact hwaves.imp_right fun ⟨k, hk, hne⟩ => List.ne_nil_of_mem (List.mem_filter.mpr ⟨hk, by simpa using hne⟩)
  have hnext := (State.handed_nextWaves _ pl e hkicks).trans (s.handed_kicked pl e)
  rw [heq, State.handed_checkSettled _ ((congrArg (fun v => v.2.2.2) hnext).trans hcomp), hnext, hcomp]
  have houter : ((s.kicked e).nextWaves (s.kicked e).trans.waves).outer = s.outer := by
    rw [State.nextWaves_outer, State.kicked_outer]
  exact hvoas.congr (State.epoch_of_outer houter)

theorem apart_lead {e k : Nat} (he : e < 8704) (hk : 8704 ≤ k) : Apart .a e k := by
  intro p
  cases p <;> simp only [lpKey, planeIdx] <;> omega

theorem apart_standby {e k : Nat} (he : e < 8704) (hk : 8704 ≤ k) (hk' : k < 9728) : Apart .b e k := by
  intro p
  cases p <;> simp only [lpKey, planeIdx] <;> omega

/-- KICK_END leaves its element in SETTLE at its target code on every plane whose loop of the element no VOA shares. -/
theorem State.loopCode_kickEnd {s : State} {pl : Plane} {e : Nat} (hst : (s.elem e).st = .kick)
    (hend : (s.elem e).kickEnd ≤ s.elapsed) (hwaves : s.trans.waves = [] ∨ ∃ k ∈ s.trans.kicking, k ≠ e)
    (hcomp : s.trans.comp = []) (hvoas : s.VoasApart pl e) :
    ((s.kickEnd e).elem e).st = .settle ∧ (s.kickEnd e).loopCode pl e = (s.elem e).kickTo
      ∧ e ∉ (s.kickEnd e).trans.kicking := by
  have h := State.handed_kickEnd hst hend hwaves hcomp hvoas
  rw [State.handed, Prod.mk.injEq, Prod.mk.injEq, Prod.mk.injEq] at h
  obtain ⟨hsettle, hcode, hkicks, -⟩ := h
  refine ⟨hsettle, by rw [State.loopCode, hcode, Option.getD_some], ?_⟩
  rw [hkicks]
  simp

end Sys2Proof.Machine
end

section
/-!
SUPPORT. The settle timeout (R103) and the end of the transition that may follow it: what they leave of elements, lists, events
and registers.
-/

namespace Sys2Proof.Machine

/-- The registers that the end of a transition writes beside what reporting on page SHEEP may write (R102). -/
def lastRegs : List Nat :=
  [Reg.SHEEP_LAST_MOVE, Reg.SHEEP_LAST_PORTS, Reg.SHEEP_LAST_WAVES, Reg.SHEEP_LAST_NS, Reg.SHEEP_LAST_EPOCH]

/-- Between s and u a transition may have ended: elements, circuits that wait and events in the queue stay, and registers but
for those of its report. -/
def State.MayEnd (s u : State) : Prop :=
  (u.elems = s.elems ∧ u.trans.waiting = s.trans.waiting ∧ u.trans.unsettled = s.trans.unsettled)
    ∧ (∀ x ∈ s.chain.queue, x ∈ u.chain.queue) ∧ s.RegsBut u (lastRegs ++ reportRegs 0x12)
    ∧ ∀ i, s.causeSet 0x12 i = true → u.causeSet 0x12 i = true

theorem State.mayEnd_of_lists {s u : State} (h : u.elems = s.elems ∧ u.trans.waiting = s.trans.waiting
    ∧ u.trans.unsettled = s.trans.unsettled) (hregs : u.regs = s.regs) (hchain : u.chain = s.chain) : s.MayEnd u :=
  ⟨h, by rw [hchain]; exact fun _ hx => hx, fun _ _ => State.reg_congr hregs _, fun i hi => by
    rwa [State.causeSet_congr (State.reg_congr hregs _)]⟩

theorem State.MayEnd.refl (s : State) : s.MayEnd s := State.mayEnd_of_lists ⟨rfl, rfl, rfl⟩ rfl rfl

theorem State.MayEnd.trans {s u v : State} (h : s.MayEnd u) (k : u.MayEnd v) : s.MayEnd v := by
  obtain ⟨⟨he, hw, hu⟩, hq, hr, hc⟩ := h
  obtain ⟨⟨ke, kw, ku⟩, kq, kr, kc⟩ := k
  exact ⟨⟨ke.trans he, kw.trans hw, ku.trans hu⟩, fun x hx => kq x (hq x hx), fun a ha => (kr a ha).trans (hr a ha),
    fun i hi => kc i (hc i hi)⟩

theorem State.mayEnd_setReg (s : State) {a : Nat} (v : Word) (h : a ∈ lastRegs) : s.MayEnd (s.setReg a v) := by
  refine ⟨⟨rfl, rfl, rfl⟩, fun _ hx => hx, fun b hb => s.reg_setReg_ne v fun hba => hb (List.mem_append_left _ (hba ▸ h)),
    fun i hi => ?_⟩
  rwa [State.causeSet_congr (s.reg_setReg_ne v _)]
  rintro rfl
  revert h
  decide

theorem State.mayEnd_updTrans (s : State) (f : Trans → Trans) (hw : (f s.trans).waiting = s.trans.waiting)
    (hu : (f s.trans).unsettled = s.trans.unsettled) : s.MayEnd (s.updTrans f) :=
  State.mayEnd_of_lists ⟨rfl, hw, hu⟩ rfl rfl

theorem State.mayEnd_updLp (s : State) (pl : Plane) (e : Nat) (f : Lp → Lp) : s.MayEnd (s.updLp pl e f) :=
  State.mayEnd_of_lists ⟨rfl, rfl, rfl⟩ rfl rfl

/-- INT_CAUSE bits that are set stay set as another one is. -/
theorem State.causeSet_cause_of (s : State) (page i j : Nat) (h : s.causeSet page j = true) :
    (s.cause page i).causeSet page j = true := by
  simp only [State.causeSet, State.rb, causeAt, bit, State.reg_cause_eq, BitVec.getLsbD_or] at h ⊢
  rw [h, Bool.true_or]

theorem State.mayEnd_cause (s : State) (i : Nat) : s.MayEnd (s.cause 0x12 i) :=
  ⟨⟨rfl, rfl, rfl⟩, fun _ hx => hx, fun _ hb => s.reg_cause_ne 0x12 i fun hba => hb (by subst hba; decide),
    fun j hj => s.causeSet_cause_of 0x12 i j hj⟩

theorem State.mayEnd_sheepEvent (s : State) (code : Nat) (l : List Word) : s.MayEnd (s.sheepEvent code l) := by
  refine ⟨⟨s.eventAt_elems .., ?_, ?_⟩, fun _ hx => State.mem_eventAt_of_mem _ _ _ _ _ _ hx, fun b hb =>
    s.reg_eventAt_ne _ _ _ _ _ _ (fun hba => hb (by subst hba; decide)) fun hba => hb (by subst hba; decide), fun i hi => ?_⟩
  · rw [State.sheepEvent, State.eventAt_trans]
  · rw [State.sheepEvent, State.eventAt_trans]
  · rwa [State.sheepEvent, State.causeSet_congr (s.reg_eventAt_ne _ _ _ _ _ _ (by decide) (by decide))]

/-- Folding the offsets of compensated elements changes loop codes alone (R96). -/
theorem State.mayEnd_foldOffsets (s : State) : s.MayEnd s.foldOffsets := by
  have hfold (l : List (Nat × Nat × Nat)) (x : State) (h : s.MayEnd x) : s.MayEnd (l.foldl (fun s x =>
      (s.updLp .a x.1 fun l => { l with code := some x.2.1 }).updLp .b x.1 fun l => { l with code := some x.2.2 }) x) := by
    induction l generalizing x with
    | nil => exact h
    | cons y l ih => exact ih _ ((h.trans (x.mayEnd_updLp ..)).trans (State.mayEnd_updLp ..))
  unfold State.foldOffsets
  exact (hfold _ s (.refl s)).trans (State.mayEnd_updTrans _ _ rfl rfl)

theorem State.MayEnd.setReg {s u : State} (h : s.MayEnd u) {a : Nat} (v : Word) (ha : a ∈ lastRegs) :
    s.MayEnd (u.setReg a v) := h.trans (u.mayEnd_setReg v ha)

theorem State.MayEnd.sheepEvent {s u : State} (h : s.MayEnd u) (b : Bool) (code : Nat) (l : List Word) :
    s.MayEnd (if b then u.sheepEvent code l else u) := by
  split
  · exact h.trans (u.mayEnd_sheepEvent code l)
  · exact h

theorem State.mayEnd_endTransition (s : State) : s.MayEnd s.endTransition := by
  unfold State.endTransition
  refine .sheepEvent (.trans (.trans ?last (State.mayEnd_updTrans _ _ rfl rfl)) (State.mayEnd_cause _ 0)) _ _ _
  refine .setReg (.setReg (.setReg (.setReg (.setReg s.mayEnd_foldOffsets _ ?_) _ ?_) _ ?_) _ ?_) _ ?_
  all_goals decide

theorem State.mayEnd_checkEnd (s : State) : s.MayEnd s.checkEnd := by
  unfold State.checkEnd
  simp only
  repeat' split
  case isFalse.isTrue.isTrue => exact s.mayEnd_endTransition
  case isFalse.isFalse.isTrue => exact s.mayEnd_updTrans _ rfl rfl
  all_goals exact .refl s

/-- The circuit of output q has waited the settle timeout: it waits on as UNSETTLED, counted, its cause set (R103). -/
def State.timedOut (s : State) (q : Nat) (l : List Nat) : State :=
  ((s.updTrans fun t => { t with
    waiting := t.waiting.filter fun x => x.1 != q, unsettled := t.unsettled ++ [(q, l)] }).count Reg.SHEEP_TIMEOUT_CNT).cause
    0x12 1

theorem State.settleTimeout_eq {s : State} {q : Nat} {l : List Nat}
    (hfind : s.trans.waiting.find? (fun x => x.1 == q) = some (q, l)) (hdue : s.trans.start + us s.trans.to_ ≤ s.elapsed)
    (hclear : s.trans.abandon < 2 ∨ s.trans.recovered = true) :
    s.settleTimeout q = ((s.timedOut q l).outputEvent 0x1301 q).checkEnd := by
  have hwaits : ¬ (s.elapsed < s.trans.start + us s.trans.to_ ∨ (2 ≤ s.trans.abandon ∧ s.trans.recovered = false)) := by
    rintro (hearly | ⟨habandon, hrec⟩)
    · exact absurd hdue (Nat.not_le.mpr hearly)
    · obtain h | h := hclear
      · exact absurd habandon (Nat.not_le.mpr h)
      · exact Bool.noConfusion (h.symm.trans hrec)
  simp only [State.settleTimeout, hfind, if_neg hwaits]
  rfl

theorem State.timedOut_reg (s : State) (q : Nat) (l : List Nat) {a : Nat} (hcause : a ≠ Reg.base 0x12 + 0x010)
    (hcount : a ≠ Reg.SHEEP_TIMEOUT_CNT) : (s.timedOut q l).reg a = s.reg a :=
  (State.reg_cause_ne _ _ _ hcause).trans (State.reg_count_ne _ hcount)

/-- An event of page SHEEP is formed or not as before the timeout was counted. -/
theorem State.formed_timedOut (s : State) (q : Nat) (l : List Nat) (code : Nat) :
    (s.timedOut q l).formed 0x12 code = s.formed 0x12 code := by
  simp only [State.formed, State.rb, s.timedOut_reg q l (a := Reg.base 0x12 + 0x008) (by decide) (by decide),
    s.timedOut_reg q l (a := Reg.INTR_EVT_MASK) (by decide) (by decide)]

theorem State.timedOut_counted (s : State) (q : Nat) (l : List Nat) : s.Counted (s.timedOut q l) Reg.SHEEP_TIMEOUT_CNT :=
  (State.reg_cause_ne _ _ _ (by decide)).trans (State.reg_count_eq _ _)

/-- What the timeout reports is not among the registers of a transition's end. -/
theorem State.outputEvent_reg (s : State) (code q : Nat) {a : Nat} (h : a ≠ Reg.base 0x12 + 0x020)
    (hdrop : a ≠ Reg.CHAIN_EVT_DROP_CNT) : (s.outputEvent code q).reg a = s.reg a := s.reg_eventAt_ne _ _ _ _ _ _ h hdrop

/-- The timeout's event carries the epoch of the transition that last affected its output, which the timeout leaves (R103). -/
theorem State.reported_timedOut (s : State) (q : Nat) (l : List Nat) :
    s.Reported ((s.timedOut q l).outputEvent 0x1301 q) 0x12 0x1301 7 0 (tget (fun _ => 0) s.trans.epochs q) (pay [q]) :=
  fun hformed hroom => State.reported_eventAt (s.timedOut q l) _ _ _ _ _ _ ((s.formed_timedOut q l _).trans hformed) hroom

/-- The lists of circuits, elements, counter, cause and event as the timeout leaves them. -/
theorem State.settleTimeout_spec {s : State} {q : Nat} {l : List Nat}
    (hfind : s.trans.waiting.find? (fun x => x.1 == q) = some (q, l)) (hdue : s.trans.start + us s.trans.to_ ≤ s.elapsed)
    (hclear : s.trans.abandon < 2 ∨ s.trans.recovered = true) :
    (s.settleTimeout q).trans.unsettled = s.trans.unsettled ++ [(q, l)]
      ∧ (s.settleTimeout q).trans.waiting = s.trans.waiting.filter (fun x => x.1 != q)
      ∧ s.Counted (s.settleTimeout q) Reg.SHEEP_TIMEOUT_CNT ∧ (s.settleTimeout q).causeSet 0x12 1 = true
      ∧ s.Reported (s.settleTimeout q) 0x12 0x1301 7 0 (tget (fun _ => 0) s.trans.epochs q) (pay [q])
      ∧ (s.settleTimeout q).elems = s.elems ∧ (s.settleTimeout q).outer = s.outer := by
  obtain ⟨⟨helems, hwaiting, hunsettled⟩, hqueue, hregs, hcauses⟩ := ((s.timedOut q l).outputEvent 0x1301 q).mayEnd_checkEnd
  have htrans : ((s.timedOut q l).outputEvent 0x1301 q).trans = (s.timedOut q l).trans := State.eventAt_trans ..
  have hreg {a : Nat} := (s.timedOut q l).outputEvent_reg 0x1301 q (a := a)
  have hcause : ((s.timedOut q l).outputEvent 0x1301 q).causeSet 0x12 1 = true := by
    rw [State.causeSet_congr (hreg (by decide) (by decide))]
    exact State.causeSet_cause _ _ (by decide)
  rw [State.settleTimeout_eq hfind hdue hclear]
  refine ⟨?unsettled, ?waiting, ?counted, hcauses 1 hcause,
    fun hformed hroom => hqueue _ (s.reported_timedOut q l hformed hroom), ?elems, ?outer⟩
  case unsettled => rw [hunsettled, htrans]; rfl
  case waiting => rw [hwaiting, htrans]; rfl
  case counted =>
    exact (hregs _ (by decide)).trans ((hreg (by decide) (by decide)).trans (s.timedOut_counted q l))
  case elems => exact helems.trans (State.eventAt_elems ..)
  case outer =>
    rw [State.checkEnd_outer, State.outputEvent_outer, State.timedOut, State.cause_outer, State.count_outer,
      State.updTrans_outer]

end Sys2Proof.Machine
end

section
/-!
SUPPORT. An arrival injection (R104) that stands alone at its instant: it starts or waits, and nothing is dropped.
-/

namespace Sys2Proof.Machine

/-- A request alone at its instant finds room in a pair that nobody waits for (R147, R148). -/
theorem Pair.place_of_queue_nil {p : Pair} (i : Inj) (acquiring : Bool) (hqueue : p.queue = [])
    (hcur : ∀ c, p.cur = some c → c.at_ ≠ i.at_) : p.place i acquiring
      = (if p.cur = none ∧ acquiring = true then { p with cur := some i } else { p with queue := [i] }, none) := by
  cases hc : p.cur with
  | none =>
    simp only [Pair.place, hc, hqueue, true_and]
    split <;> rfl
  | some c =>
    have hne : ¬ (c.at_ = i.at_ ∧ i.who < c.who) := fun h => hcur c hc h.1
    simp only [Pair.place, hc, if_neg hne, hqueue, reduceCtorEq, false_and, if_false]
    rfl

/-- A pair that nobody waits for, and that converts for another requester or for none, holds no request of this one. -/
theorem Pair.own_eq_zero {p : Pair} {who : Nat} (hqueue : p.queue = []) (hcur : ∀ c, p.cur = some c → c.who ≠ who) :
    p.own who = 0 := by
  cases hc : p.cur with
  | none => simp [Pair.own, hc, hqueue]
  | some c => simp [Pair.own, hc, hqueue, hcur c hc]

/-- A pair with a request that stands alone: it starts where the pair is free and acquires, else it waits. -/
def Pair.asked (p : Pair) (i : Inj) (acquiring : Bool) : Pair :=
  if p.cur = none ∧ acquiring = true then { p with cur := some i } else { p with queue := [i] }

theorem State.injectionRequest_eq {s : State} {pl : Plane} {t : Nat} {i : Inj} (acquiring : Bool)
    (hcal : s.calibrates pl = false) (hqueue : (s.pair pl t).queue = [])
    (hcur : ∀ c, (s.pair pl t).cur = some c → c.at_ ≠ i.at_) :
    s.injectionRequest pl t i acquiring = s.updPair pl t fun p => p.asked i acquiring := by
  have hplace := Pair.place_of_queue_nil i acquiring hqueue hcur
  simp only [State.injectionRequest, State.tryInject, hcal, Bool.false_eq_true, if_false, hplace]
  rfl

/-- The sequencer's arrival request for an output (R104). -/
def arrivalInj (q instant : Nat) : Inj := ⟨1, slotOf (ovoaOf q), 3, 0, q, instant⟩

/-- The state in which the arrival check of an output is no longer due. -/
def State.arrivalTaken (s : State) (q : Nat) : State :=
  s.updTrans fun x => { x with arrivalDue := x.arrivalDue.filter fun y => y.1 != q }

/-- The state with the arrival request of an output taken and put to its pair. -/
def State.arrivalAsked (s : State) (q : Nat) : State :=
  (s.arrivalTaken q).updPair s.lead (tileOf (ovoaOf q)) fun p =>
    p.asked (arrivalInj q s.elapsed) (s.acquiring s.lead (tileOf (ovoaOf q)))

/-- An arrival injection that is due and stands alone is taken and placed. -/
theorem State.arrivalInjection_eq {s : State} {q : Nat} (hdue : s.arrivalIsDue q = true)
    (hcal : s.calibrates s.lead = false) (hqueue : (s.pair s.lead (tileOf (ovoaOf q))).queue = [])
    (hcur : ∀ i, (s.pair s.lead (tileOf (ovoaOf q))).cur = some i → i.who ≠ 1 ∧ i.at_ ≠ s.elapsed) :
    s.arrivalInjection q = s.arrivalAsked q := by
  have hown := Pair.own_eq_zero hqueue fun i hi => (hcur i hi).1
  have hnot : ¬ (s.arrivalIsDue q = false ∨ 2 ≤ (s.pair s.lead (tileOf (ovoaOf q))).own 1) := by
    rw [hdue, hown]
    simp
  rw [State.arrivalInjection, State.arrivalFor]
  simp only [if_neg hnot]
  exact State.injectionRequest_eq (s := s.arrivalTaken q) (i := arrivalInj q s.elapsed) _ hcal hqueue
    fun i hi => (hcur i hi).2

variable (s : State) (q : Nat)

theorem State.arrivalAsked_eq : s.arrivalAsked q = { s with
    pairs := (s.arrivalAsked q).pairs
    trans := { s.trans with arrivalDue := (s.arrivalAsked q).trans.arrivalDue } } := rfl

theorem State.arrivalIsDue_asked : (s.arrivalAsked q).arrivalIsDue q = false := by
  refine List.any_eq_false.mpr fun y hy => ?_
  have hne := (List.mem_filter.mp hy).2
  simp only [bne_iff_ne] at hne
  simp [hne]

theorem State.pair_arrivalAsked : (s.arrivalAsked q).pair s.lead (tileOf (ovoaOf q))
    = (s.pair s.lead (tileOf (ovoaOf q))).asked (arrivalInj q s.elapsed) (s.acquiring s.lead (tileOf (ovoaOf q))) :=
  tget_tset_eq ..

end Sys2Proof.Machine
end

section
/-! SUPPORT. The transition's three autonomous steps, carried out: O23. -/

namespace Sys2Proof.Machine

theorem State.exec_kickEnd {s : State} (hs : s.InService) (dt : Nat) (e : Fin 9728) :
    exec (.kickEnd dt e) s = .next (s.seal dt ((s.advance dt).kickEnd e)) := s.run_next dt (fun x => x.kickEnd e) hs

theorem State.exec_settleTimeout {s : State} (hs : s.InService) (dt : Nat) (q : Fin 512) :
    exec (.settleTimeout dt q) s = .next (s.seal dt ((s.advance dt).settleTimeout q)) :=
  s.run_next dt (fun x => x.settleTimeout q) hs

theorem State.exec_arrivalInjection {s : State} (hs : s.InService) (dt : Nat) (q : Fin 512) :
    exec (.arrivalInjection dt q) s = .next (s.seal dt ((s.advance dt).arrivalInjection q)) :=
  s.run_next dt (fun x => x.arrivalInjection q) hs

/-- The VOAs of circuits are no SW or TR elements: on plane A none shares a loop record with one, on plane B none of a circuit
between ports of the device. -/
theorem State.voasApart_lead (s : State) {e : Nat} (he : e < 8704) : s.VoasApart .a e := fun c _ =>
  ⟨apart_lead he (by simp only [ovoaOf]; omega), apart_lead he (by simp only [ivoaOf]; omega)⟩

theorem State.voasApart_standby {s : State} {e : Nat} (he : e < 8704)
    (h : ∀ c ∈ s.epoch.active, c.inp < 512 ∧ c.out < 512) : s.VoasApart .b e := by
  intro c hc
  obtain ⟨hinp, hout⟩ := h c hc
  constructor
  · exact apart_standby he (by simp only [ovoaOf]; omega) (by simp only [ovoaOf]; omega)
  · exact apart_standby he (by simp only [ivoaOf]; omega) (by simp only [ivoaOf]; omega)

/-- Settles O23: the hand-over at a kick's end, the settle timeout and the arrival request, each carried out as it falls due. -/
theorem transitionsMoveOn : Obligations.TransitionsMoveOn := by
  rintro dt s _ rfl hserved
  have hs := (State.inService_advance dt).1 hserved
  have hkick := State.exec_kickEnd hs dt
  have htimeout := State.exec_settleTimeout hs dt
  have harrival := State.exec_arrivalInjection hs dt
  generalize s.advance dt = x at *
  refine ⟨fun e he hst hend hwaves hcomp => ?kick, fun q l hfind hdue hclear => ?timeout,
    fun q hdue hcal hqueue hcur => ?arrival⟩
  case kick =>
    obtain ⟨hsettle, hcode, hkicks⟩ := State.loopCode_kickEnd hst hend hwaves hcomp (x.voasApart_lead he)
    obtain ⟨hmem, -, -, -, hbell, hepoch, -⟩ := State.of_outer (x.kickEnd_outer e)
    refine ⟨_, hkick e, hsettle, hcode, fun hmap => ?_, hkicks, hepoch, hbell, hmem⟩
    exact (State.loopCode_kickEnd hst hend hwaves hcomp (State.voasApart_standby he hmap)).2.1
  case timeout =>
    obtain ⟨hunsettled, hwaiting, hcount, hcause, hevent, helems, houter⟩ := State.settleTimeout_spec hfind hdue hclear
    obtain ⟨hmem, -, -, -, -, hepoch, -⟩ := State.of_outer houter
    exact ⟨_, htimeout q, hunsettled, hwaiting, hcount, hcause, hevent, helems, hepoch, hmem⟩
  case arrival =>
    have heq := State.arrivalInjection_eq hdue hcal hqueue hcur
    refine ⟨x.arrivalAsked q, heq ▸ harrival q, x.arrivalAsked_eq q, x.arrivalIsDue_asked q, ?_⟩
    rw [x.pair_arrivalAsked q]
    rfl

end Sys2Proof.Machine
end

section
/-!
SUPPORT. Folds over the records of a list of keys, and the LOOP commands that act on a range of elements or on a type of them
(R126, R131).
-/

namespace Sys2Proof.Machine

/-! ### Folds over a list of keys -/

/-- A fold that acts on the records of a list's keys, each by itself: a record of the list is changed once, no other is. -/
theorem State.get_each {α : Type} {get : State → Nat → α} {f : State → Nat → State} {g : Nat → α → α} {I : State → Prop}
    (hkeep : ∀ s k, I s → I (f s k)) (hstep : ∀ s k j, I s → get (f s k) j = if j = k then g k (get s k) else get s j)
    {l : List Nat} (hl : l.Nodup) {p : Nat → Prop} [DecidablePred p] (hp : ∀ j, j ∈ l ↔ p j) {s : State} (hs : I s) (j : Nat) :
    get (s.each l f) j = if p j then g j (get s j) else get s j := by
  refine Eq.trans ?_ (if_congr (hp j) rfl rfl)
  clear hp
  induction l generalizing s with
  | nil => rfl
  | cons k l ih =>
    obtain ⟨hk, hl⟩ := List.nodup_cons.mp hl
    rw [State.each, List.foldl_cons, ← State.each, ih hl (hkeep s k hs), hstep s k j hs]
    by_cases hjk : j = k
    · subst hjk
      rw [if_pos rfl, if_neg hk, if_pos List.mem_cons_self]
    · simp only [hjk, if_false, List.mem_cons, false_or]

theorem tget_tset_ite {α : Type} [DecidableEq α] (d : Nat → α) (t : Tbl α) (k j : Nat) (v : α) :
    tget d (tset d t k v) j = if j = k then v else tget d t j := by
  by_cases h : j = k
  · rw [if_pos h, h, tget_tset_eq]
  · rw [if_neg h, tget_tset_ne d t v h]

theorem State.elem_updElem (s : State) (k e : Nat) (f : Elem → Elem) :
    (s.updElem k f).elem e = if e = k then f (s.elem k) else s.elem e := tget_tset_ite ..

/-- A fold of element updates changes the element records alone. -/
theorem State.each_updElem_frame (s : State) (l : List Nat) (f : Elem → Elem) :
    (s.each l fun s e => s.updElem e f) = { s with elems := (s.each l fun s e => s.updElem e f).elems } := by
  have hkeep := foldl_keeps (fun x : State => { x with elems := [] }) (f := fun s e => s.updElem e f) (fun _ _ => rfl) l s
  exact (congrArg (fun x : State => { x with elems := (s.each l fun s e => s.updElem e f).elems }) hkeep :)

/-- What a list of element updates leaves of each record. -/
theorem State.elem_each_updElem (s : State) {l : List Nat} (hl : l.Nodup) {p : Nat → Prop} [DecidablePred p]
    (hp : ∀ e, e ∈ l ↔ p e) (f : Elem → Elem) (e : Nat) :
    (s.each l fun s e => s.updElem e f).elem e = if p e then f (s.elem e) else s.elem e :=
  State.get_each (get := State.elem) (g := fun _ => f) (I := fun _ => True) (fun _ _ h => h)
    (fun s k j _ => s.elem_updElem k j f) hl hp trivial e

/-- The elements that a LOOP command names, if it names a range. -/
theorem loopRange_ok {a0 a1 : Word} (hn : fld a1 13 0 ≠ 0) (hfit : fld a0 13 0 + fld a1 13 0 ≤ 9728) :
    ∃ l : List Nat, loopRange a0 a1 = .ok l ∧ l.Nodup ∧ ∀ e, e ∈ l ↔ fld a0 13 0 ≤ e ∧ e < fld a0 13 0 + fld a1 13 0 := by
  refine ⟨_, (if_neg hn).trans (if_neg hfit.not_gt), List.nodup_range.map fun _ _ h => Nat.add_left_cancel h, fun e => ?_⟩
  rw [List.mem_map]
  exact ⟨fun ⟨k, hk, h⟩ => h ▸ ⟨Nat.le_add_right .., Nat.add_lt_add_left (List.mem_range.mp hk) _⟩,
    fun ⟨hle, hlt⟩ => ⟨e - _, List.mem_range.mpr (Nat.sub_lt_left_of_lt_add hle hlt), Nat.add_sub_cancel' hle⟩⟩

/-! ### CLEAR_FAULT -/

/-- The state with other loops. -/
def State.withLps (s : State) (lps : Tbl Lp) : State := { s with lps := lps }

/-- u differs from s in the loops alone. -/
def State.Relooped (s u : State) : Prop := ∃ lps, u = s.withLps lps

theorem State.relooped_trans {s u x : State} (h : s.Relooped u) (k : u.Relooped x) : s.Relooped x := by
  obtain ⟨_, rfl⟩ := h
  obtain ⟨lps, rfl⟩ := k
  exact ⟨lps, rfl⟩

theorem State.relooped_updLp (s : State) (pl : Plane) (e : Nat) (f : Lp → Lp) : s.Relooped (s.updLp pl e f) := ⟨_, rfl⟩

theorem State.relooped_updLps (s : State) (e : Nat) (f : Lp → Lp) : s.Relooped (s.updLps e f) :=
  State.relooped_trans (s.relooped_updLp ..) (State.relooped_updLp ..)

theorem State.relooped_fresh (s : State) (e : Nat) : s.Relooped (s.fresh e) := by
  unfold State.fresh State.freshOn
  exact State.relooped_trans (s.relooped_updLp ..) (State.relooped_updLp ..)

theorem State.relooped_setSt (s : State) (e : Nat) (st : ElSt) :
    (s.updElem e fun x => { x with st := st, wrote := x.wrote && st == .lock, recheck := false }).Relooped (s.setSt e st) := by
  have hlps := State.relooped_updLps
    (s.updElem e fun x => { x with st := st, wrote := x.wrote && st == .lock, recheck := false }) e fun l => { l with dac := none }
  unfold State.setSt
  dsimp only
  split
  · exact State.relooped_trans hlps (State.relooped_fresh ..)
  · exact hlps

/-- An element's record as it enters RAMP (R123). -/
def State.ramped (s : State) (e : Nat) : State := s.updElem e fun x => { x with st := .ramp, wrote := false, recheck := false }

theorem State.relooped_enterRamp (s : State) (e : Nat) : (s.ramped e).Relooped (s.enterRamp e) := by
  have hst := s.relooped_setSt e .ramp
  rw [show (ElSt.ramp == ElSt.lock) = false from rfl] at hst
  simp only [Bool.and_false] at hst
  exact State.relooped_trans (State.relooped_trans hst (State.relooped_updLps ..)) (State.relooped_fresh ..)

/-- One element leaves FAULT for RAMP, its runs of misses and of updates on a rail afresh (R126). -/
def State.leaveFault (s : State) (e : Nat) : State :=
  (((s.enterRamp e).updLps e fun l => { l with miss := 0, rail := 0 }).updElem e fun x => { x with recheck := true }).event
    0x14 0x2102 (pay [e])

/-- CLEAR_FAULT on one element (R126). -/
def State.clearElem (s : State) (e : Nat) : State := if (s.elem e).st.code = 7 then s.leaveFault e else s

/-- An element that leaves FAULT enters RAMP and is to be judged anew, with its loops changed, and reports it (R126). -/
theorem State.leaveFault_eq (s : State) (k : Nat) : ∃ lps, s.leaveFault k
    = (((s.ramped k).withLps lps).updElem k fun x => { x with recheck := true }).event 0x14 0x2102 (pay [k]) := by
  obtain ⟨lps, hramp⟩ := State.relooped_trans (s.relooped_enterRamp k)
    (State.relooped_updLps _ k fun l => { l with miss := 0, rail := 0 })
  exact ⟨lps, by rw [State.leaveFault, hramp]⟩

theorem State.elem_clearElem (s : State) (k e : Nat) : (s.clearElem k).elem e
    = if e = k then
        (if (s.elem k).st.code = 7 then { s.elem k with st := .ramp, wrote := false, recheck := true } else s.elem k)
      else s.elem e := by
  by_cases h : (s.elem k).st.code = 7
  · obtain ⟨lps, heq⟩ := s.leaveFault_eq k
    have hramp (j : Nat) : ((s.ramped k).withLps lps).elem j
        = if j = k then { s.elem k with st := .ramp, wrote := false, recheck := false } else s.elem j :=
      s.elem_updElem k j fun x => { x with st := .ramp, wrote := false, recheck := false }
    rw [if_pos h, State.clearElem, if_pos h, heq, State.elem, State.event_elems, ← State.elem, State.elem_updElem, hramp, hramp,
      if_pos rfl]
    by_cases hek : e = k
    · rw [if_pos hek, if_pos hek]
    · rw [if_neg hek, if_neg hek, if_neg hek]
  · rw [if_neg h, State.clearElem, if_neg h, ite_eq_right_iff.mpr fun hek => by rw [hek]]

/-- A state without its element records and loops, and what reporting touches. -/
def State.unlooped (s : State) : State := { s.bare State.reset with elems := [], lps := [] }

theorem State.event_unlooped (s : State) (page code : Nat) (l : List Word) : (s.event page code l).unlooped = s.unlooped := by
  have hqueue (x : State) (e : Event) : (x.enqueue e).unlooped = x.unlooped := by
    unfold State.enqueue
    split <;> rfl
  unfold State.event State.eventAt State.eventOf
  split
  · exact hqueue ..
  · rfl

theorem State.updElem_unlooped (s : State) (e : Nat) (f : Elem → Elem) : (s.updElem e f).unlooped = s.unlooped := rfl
theorem State.withLps_unlooped (s : State) (lps : Tbl Lp) : (s.withLps lps).unlooped = s.unlooped := rfl

/-- CLEAR_FAULT on an element writes element records and loops, and reports. -/
theorem State.clearElem_frame (s : State) (k : Nat) :
    (s.clearElem k).unlooped = s.unlooped ∧ s.RegsBut (s.clearElem k) (reportRegs 0x14) := by
  by_cases h : (s.elem k).st.code = 7
  · obtain ⟨lps, heq⟩ := s.leaveFault_eq k
    rw [State.clearElem, if_pos h, heq]
    refine ⟨by rw [State.event_unlooped, State.updElem_unlooped, State.withLps_unlooped, State.ramped, State.updElem_unlooped],
      fun a ha => ?_⟩
    simp only [reportRegs, List.mem_cons, List.not_mem_nil, or_false, not_or] at ha
    obtain ⟨-, hevent, hdrop⟩ := ha
    rw [State.reg_event_ne _ _ _ _ hevent hdrop]
    exact State.reg_congr rfl a
  · rw [State.clearElem, if_neg h]
    exact ⟨rfl, fun _ _ => rfl⟩

theorem State.each_clearElem_frame (s : State) (l : List Nat) :
    (s.each l State.clearElem).bare s
        = { s with elems := (s.each l State.clearElem).elems, lps := (s.each l State.clearElem).lps }
      ∧ s.RegsBut (s.each l State.clearElem) (reportRegs 0x14) := by
  have hkeep := foldl_keeps State.unlooped (fun x k => (x.clearElem_frame k).1) l s
  exact ⟨(congrArg (fun x : State => { x.bare s with
      elems := (s.each l State.clearElem).elems, lps := (s.each l State.clearElem).lps }) hkeep :),
    fun a ha => foldl_keeps (fun x : State => x.reg a) (fun x k => (x.clearElem_frame k).2 a ha) l s⟩

theorem State.clearFault_eq {s : State} {a0 a1 : Word} {l : List Nat} (h : loopRange a0 a1 = .ok l) (o : Order) :
    s.clearFault o a0 a1 = (s.each l State.clearElem).complete 0x14 3 cDONE o := by
  simp only [State.clearFault, h]
  congr 2
  funext s e
  delta State.clearElem State.leaveFault
  cases (s.elem e).st <;> rfl

/-! ### The commands -/

theorem State.hostHold_eq {s : State} {a0 a1 : Word} {l : List Nat} (h : loopRange a0 a1 = .ok l) (v : Bool) (o : Order) :
    s.hostHold v o a0 a1 = (s.each l fun s e => s.updElem e fun x => { x with hh := v }).complete 0x14
      (if v then 1 else 2) cDONE o := by
  simp only [State.hostHold, h]

theorem clampPer_eq (v : Nat) : clampPer v = max 2 (min 1024 v) := by
  unfold clampPer
  rcases Nat.lt_or_ge v 2 with h | h
  · rw [if_pos h, max_eq_left ((min_le_right ..).trans h.le)]
  · rw [if_neg h.not_gt, max_eq_right (le_min (by decide) h)]
    split
    case isTrue k => exact (min_eq_left k.le).symm
    case isFalse k => exact (min_eq_right (Nat.not_lt.mp k)).symm

/-- SET_PER of a type and a period that it takes (R131). -/
theorem State.setPer_eq {s : State} {a0 a1 : Word} (hty : fld a0 1 0 ≠ 3) (hper : fld a1 10 0 ≠ 0) (o : Order) :
    s.setPer o a0 a1 = (s.each ((List.range 9728).filter fun e => min (elType e) 2 == fld a0 1 0) fun s e =>
      s.updElem e fun x => { x with per := some (max 2 (min 1024 (fld a1 10 0))) }).complete 0x14 4 cDONE o := by
  rw [← clampPer_eq]
  exact (if_neg hty).trans (if_neg hper)

/-- Settles O26: each command acts on every element of its list by itself, and no element stands in the list twice. -/
theorem loopCommandsActOnTheirRange : Obligations.LoopCommandsActOnTheirRange := by
  rintro dt o a0 a1 s _ rfl hready
  have hs : s.Ready := (State.isReady_advance dt).1 hready
  refine ⟨fun hn hfit => ?range, fun hty hper => ⟨_, (State.runCmd_next _ _ _ _ _ _ hs).trans (by rw [State.setPer_eq hty hper]),
    State.each_updElem_frame .., State.elem_each_updElem _ (List.nodup_range.filter _) (fun e => ?type) _⟩⟩
  case type => rw [List.mem_filter, List.mem_range, beq_iff_eq]
  case range =>
    obtain ⟨l, hl, hnodup, hmem⟩ := loopRange_ok hn hfit
    refine ⟨⟨_, (State.runCmd_next _ _ _ _ _ _ hs).trans (by rw [State.hostHold_eq hl]; rfl), State.each_updElem_frame ..,
      State.elem_each_updElem _ hnodup hmem _⟩, ⟨_, (State.runCmd_next _ _ _ _ _ _ hs).trans (by rw [State.hostHold_eq hl]; rfl),
      State.each_updElem_frame .., State.elem_each_updElem _ hnodup hmem _⟩, ⟨_, (State.runCmd_next _ _ _ _ _ _ hs).trans
      (by rw [State.clearFault_eq hl]), (State.each_clearElem_frame _ l).1, (State.each_clearElem_frame _ l).2, fun e => ?_⟩⟩
    have hget := State.get_each (get := State.elem) (I := fun _ => True)
      (g := fun _ x => if x.st.code = 7 then { x with st := .ramp, wrote := false, recheck := true } else x)
      (fun _ _ h => h) (fun s k j _ => s.elem_clearElem k j) hnodup hmem (s := s.advance dt) trivial e
    rw [hget, ← ite_and]
    simp only [and_assoc]

end Sys2Proof.Machine
end

section
/-!
SUPPORT. What a command leaves of the memory where the device has lost its power by it: a power-on reset begins at once (R364),
it takes every waiting request from the ports, and nothing else follows.
-/

namespace Sys2Proof.Machine

/-! ### What follows from a command that leaves the device without power -/

/-- No feed is valid, and the reset that this begins is still to come (R364); no journal record or wipe is in progress. -/
def State.Unfed (s : State) : Prop :=
  (s.pla.valid = false ∧ s.plb.valid = false) ∧ s.dev.unpowered = false ∧ (s.jrnl.rec_ = none ∧ s.jrnl.wiping = false) ∧
    s.dev.returning = false

/-- Where a state agrees with one that is without power in what `Unfed` speaks of, so is it. -/
theorem State.unfed_of_eq {s t : State} (h : s.Unfed) (hpla : t.pla = s.pla) (hplb : t.plb = s.plb) (hdev : t.dev = s.dev)
    (hjrnl : t.jrnl = s.jrnl) : t.Unfed := by
  rwa [State.Unfed, hpla, hplb, hdev, hjrnl]

/-- A completed command leaves the power as it is. -/
theorem State.unfed_complete {s : State} (h : s.Unfed) (page op c : Nat) (o : Order) : (s.complete page op c o).Unfed :=
  State.unfed_of_eq h (State.complete_pla ..) (State.complete_plb ..) (State.complete_dev ..) (State.complete_jrnl ..)

/-- A power-on reset as it begins. -/
def State.poweredOff (s : State) : State := (s.updDev fun d => { d with unpowered := true }).beginReset 1

/-- A power-on reset takes every request from the ports, and nothing else follows in a device in reset (R364, R365). -/
theorem State.finish_unfed {s : State} (h : s.Unfed) (old : State) : State.finish old s = s.poweredOff.noteInt := by
  obtain ⟨⟨ha, hb⟩, hbegins, -, -⟩ := h
  have hpower : s.powerCheck = s.poweredOff := by
    simp only [State.powerCheck, ha, hb, hbegins]
    rfl
  have hreset : s.poweredOff.dev.inReset = some 1 := rfl
  have hdrain : s.poweredOff.drain = s.poweredOff := State.drain_eq _ ⟨rfl, rfl, rfl, rfl⟩
  simp only [State.finish, hpower, hreset, Option.isNone_some, Bool.false_and, Bool.false_eq_true, if_false, hdrain,
    State.noteDrives]

theorem State.poweredOff_mem {s : State} (h : s.Unfed) : s.poweredOff.mem = s.mem := by
  obtain ⟨-, -, ⟨hrec, hwiping⟩, hreturning⟩ := h
  have hcut : (s.updDev fun d => { d with unpowered := true }).cutJournal = s.updDev fun d => { d with unpowered := true } := by
    simp only [State.cutJournal, hrec, hwiping, State.returnWiping, State.updDev, hreturning]
    rfl
  simp only [State.poweredOff, State.beginReset, hcut]
  rfl

/-- Of the memories a device that loses its power keeps every byte. -/
theorem State.seal_mem_unfed {s u : State} (h : u.Unfed) (dt : Nat) : (s.seal dt u).mem = u.mem := by
  have hfuses (old x : State) : (State.keepFuses old x).mem = x.mem := rfl
  have hint (x : State) : x.noteInt.mem = x.mem := (congrArg State.mem x.noteInt_calm :)
  rw [State.seal, hfuses, State.finish_unfed h, hint, State.poweredOff_mem h]

/-! ### CLEAR over a memory that is not in canonical form -/

/-- CLEAR on one channel (R132). -/
def State.clearTrace (s : State) (k : Nat) : State :=
  { s.updTrace k fun _ => traceDefault k with mem := Memory.wipe s.mem (traceBase k) (traceBase (k + 1)) }

theorem State.exec_clear {s : State} (hs : s.Ready) (dt : Nat) (o : Order) {a0 : Word} (h : traceNamed a0 ≠ []) :
    exec (.clear dt o a0) s = .next (s.seal dt
      ((((s.advance dt).each (traceNamed a0) State.clearTrace).masterReset 8
        (((s.advance dt).each (traceNamed a0) State.clearTrace).burstAt 8)).complete 0x17 4 cDONE o)) := by
  refine (State.runCmd_next _ _ _ _ _ _ hs).trans ?_
  rw [State.traceClear, if_neg h]
  rfl

theorem State.masterReset_outer (s : State) (m : Nat) (b : Option Nat) : (s.masterReset m b).outer = s.outer := by
  unfold State.masterReset State.burstCut
  split
  · rfl
  · rw [State.event_outer, State.cause_outer, State.latest_outer, State.count_outer]

/-- A READY device without power, whose memory lists a byte of channel 0's trace memory before one at address 0: a read goes no
further than the first address that is higher, and finds no byte at 0. -/
def State.misordered : State :=
  { State.reset with
    mem := [(traceBase 0, 1), (0, 1)]
    dev := { State.reset.dev with state := 1 }
    pla := { State.reset.pla with valid := false }
    plb := { State.reset.plb with valid := false } }

theorem State.unfed_misordered : State.misordered.Unfed := ⟨⟨rfl, rfl⟩, rfl, ⟨rfl, rfl⟩, rfl⟩

theorem State.ready_misordered : State.misordered.Ready := ⟨⟨by decide, rfl⟩, rfl⟩

/-- CLEAR of channel 0 carried out on that device drops the byte listed first. -/
theorem State.exec_clear_misordered (o : Order) : ∃ v : State,
    exec (.clear 0 o 1) .misordered = .next (State.seal .misordered 0 v) ∧ v.mem = [(0, 1)] ∧ v.Unfed := by
  have hexec := State.exec_clear State.ready_misordered 0 o (a0 := 1) (by decide)
  rw [State.advance_zero] at hexec
  have houter (b : Option Nat) := State.masterReset_outer (State.each .misordered (traceNamed 1) State.clearTrace) 8 b
  have hmem : (State.each .misordered (traceNamed 1) State.clearTrace).mem = [(0, 1)] := by decide
  refine ⟨_, hexec, ?mem, State.unfed_complete (State.unfed_of_eq State.unfed_misordered ?_ ?_ ?_ ?_) _ _ _ _⟩
  case mem => rw [State.complete_mem, (State.of_outer (houter _)).1, hmem]
  · exact (congrArg State.pla (houter _) :)
  · exact (congrArg State.plb (houter _) :)
  · exact (congrArg State.dev (houter _) :)
  · exact (congrArg State.jrnl (houter _) :)

/-- Refutes O27: the statement does not ask that the memory lists its bytes by rising addresses (`Memory.wf`), and of a list that
does not, CLEAR uncovers a byte outside the channel's trace memory as it drops one inside. -/
theorem not_traceCommandsActOnTheirChannels : ¬ Obligations.TraceCommandsActOnTheirChannels := by
  intro h
  obtain ⟨-, -, -, u, hexec, hframe, -, -, hmem⟩ :=
    h 0 ⟨.e0, 0, none⟩ 1 .misordered .misordered (State.advance_zero _).symm State.ready_misordered ⟨0, by decide⟩
  obtain ⟨v, hcleared, hv, hunfed⟩ := State.exec_clear_misordered ⟨.e0, 0, none⟩
  have hunfed' : u.Unfed := State.unfed_of_eq State.unfed_misordered (congrArg State.pla hframe :) (congrArg State.plb hframe :)
    (congrArg State.dev hframe :) (congrArg State.jrnl hframe :)
  have hsealed := congrArg State.mem (Host.Outcome.next.inj (hexec.symm.trans hcleared))
  rw [State.seal_mem_unfed (State.unfed_complete hunfed' _ _ _ _), State.seal_mem_unfed hunfed, hv, State.complete_mem] at hsealed
  have hoff := (hmem 0).2 (by decide)
  rw [hsealed] at hoff
  exact absurd hoff (by decide)

end Sys2Proof.Machine
end

section
/-!
SUPPORT. Writes of the words of the Element, Cell and Tile Tables, each by the record it writes (R27, R35, R127, R153).
-/

namespace Sys2Proof.Machine

/-! ### A device that serves requests takes the write -/

theorem State.reqGate_ready {s : State} (h : s.Ready) (op : Nat) (t : Target) : s.reqGate op t = .serve := by
  obtain ⟨⟨-, hreset⟩, hstate⟩ := h
  simp only [State.reqGate, hreset, hstate, true_or, if_true]

theorem State.run_tableWrite {s : State} {dt : Nat} (hs : s.Ready) (t : Target) (k : State → State × Nat) :
    (s.run dt fun x => x.tableWrite t k) = .next (s.seal dt (k (s.advance dt)).1) := by
  rw [State.run_next _ _ _ hs.1, State.tableWrite, State.reqGate_ready ((State.isReady_advance dt).2 hs)]

theorem State.ownWrite_ready {s : State} (h : s.Ready) (f : State → State) : (s.ownWrite 0x10 fun x => (f x, cDONE)) = f s := by
  have hpage : pageInfo 0x10 = some _ := rfl
  simp only [State.ownWrite, hpage, State.reqGate_ready h]
  rfl

theorem State.exec_warmAll {s : State} {dt : Nat} (hs : s.Ready) :
    exec (.warmAll dt) s = .next (s.seal dt (s.advance dt).warmAll) :=
  (s.run_next dt (fun x => x.ownWrite 0x10 fun y => (y.warmAll, cDONE)) hs.1).trans
    (by rw [State.ownWrite_ready ((State.isReady_advance dt).2 hs)])

/-! ### Cells -/

/-- A cell's record once its WARM is written (R27). -/
def State.warmed (s : State) (c : Nat) (v : Bool) (r : CellRec) : CellRec :=
  { r with warm := v, inForce := if s.actCell c = .park ∧ s.moves c = false then v else r.inForce }

theorem State.writeWarm_eq (s : State) (c : Nat) (v : Bool) : s.writeWarm c v = s.updCell c (s.warmed c v) := by
  simp only [State.writeWarm, Bool.and_eq_true, beq_iff_eq, Bool.not_eq_true']
  rfl

theorem State.cell_writeWarm (s : State) (c j : Nat) (v : Bool) :
    (s.writeWarm c v).cell j = if j = c then s.warmed c v (s.cell c) else s.cell j :=
  s.writeWarm_eq c v ▸ tget_tset_ite ..

/-- Where WARM comes into force depends on the active map and on the transition alone. -/
theorem State.warmed_congr {s t : State} (hepoch : s.epoch = t.epoch) (htrans : s.trans = t.trans) : s.warmed = t.warmed := by
  funext c v r
  have hact : s.actCell c = t.actCell c := by rw [State.actCell, hepoch, ← State.actCell]
  have hmoves : s.moves c = t.moves c := by rw [State.moves, htrans, hact, ← State.moves]
  rw [State.warmed, hact, hmoves, ← State.warmed]

theorem State.each_writeWarm_frame (s : State) (l : List Nat) (v : Bool) :
    (s.each l fun x c => x.writeWarm c v) = { s with cells := (s.each l fun x c => x.writeWarm c v).cells } := by
  have hkeep := foldl_keeps (fun x : State => { x with cells := [] }) (f := fun x c => x.writeWarm c v) (fun _ _ => rfl) l s
  exact (congrArg (fun x : State => { x with cells := (s.each l fun x c => x.writeWarm c v).cells }) hkeep :)

/-- WARM_ALL writes WARM of every cell, and nothing else (R27). -/
theorem State.warmAll_eq (s : State) : s.warmAll = { s with cells := s.warmAll.cells }
    ∧ ∀ c, c < 4352 → s.warmAll.cell c = s.warmed c true (s.cell c) := by
  have hall : s.warmAll = s.each (List.range 4352) fun x c => x.writeWarm c true := rfl
  rw [hall]
  refine ⟨s.each_writeWarm_frame _ true, fun c hc => ?_⟩
  have hget := State.get_each (get := State.cell) (f := fun x k => x.writeWarm k true) (g := fun k => s.warmed k true)
    (I := fun x => x.epoch = s.epoch ∧ x.trans = s.trans) (fun _ _ h => h)
    (fun x k j ⟨hepoch, htrans⟩ => by rw [State.cell_writeWarm, State.warmed_congr hepoch htrans])
    (l := List.range 4352) List.nodup_range (fun _ => List.mem_range) (s := s) ⟨rfl, rfl⟩ c
  rw [hget, if_pos hc]

/-- A write of a Cell Table word: WARM, PARK_LIT, or no field (R27, R35). -/
theorem State.cellWrite_eq (s : State) (c w : Nat) (v : Word) :
    s.cellWrite c w v = { s with cells := (s.cellWrite c w v).cells }
      ∧ ∀ j, (s.cellWrite c w v).cell j = if j = c then
          (if w = 0 then s.warmed c (bit v 24) (s.cell c)
            else if w = 4 then { s.cell c with parkLit := (s.cell c).parkLit && !(bit v 1) } else s.cell c)
        else s.cell j := by
  unfold State.cellWrite
  split
  · exact ⟨rfl, fun j => s.cell_writeWarm c j _⟩
  · exact ⟨rfl, fun j => tget_tset_ite ..⟩
  case _ h0 h4 =>
    rw [if_neg h0, if_neg h4]
    exact ⟨rfl, fun j => (ite_eq_right_iff.mpr fun h => by rw [h]).symm⟩

/-! ### Tiles -/

theorem State.keepMode_frame (s : State) (t : Nat) (v : Bool) : s.keepMode t v = { s with pairs := (s.keepMode t v).pairs } := by
  unfold State.keepMode
  dsimp only
  split <;> rfl

/-- One pair of a tile takes a new sequence at once if it converts no entry (R138). -/
def State.wakePair (s : State) (t : Nat) (pl : Plane) : State :=
  if (s.pair pl t).rounds = false ∧ ((s.pair pl t).inForce t).2 = [] then
    (s.updPair pl t fun p => { p with slotAt := s.elapsed }).newPass pl t
  else s

theorem State.wakePair_frame (s : State) (t : Nat) (pl : Plane) :
    s.wakePair t pl = { s with pairs := (s.wakePair t pl).pairs } := by
  unfold State.wakePair State.newPass
  split <;> rfl

theorem State.wakePairs_frame (s : State) (t : Nat) : s.wakePairs t = { s with pairs := (s.wakePairs t).pairs } := by
  have hboth : s.wakePairs t = (s.wakePair t .a).wakePair t .b := rfl
  rw [hboth]
  exact ((s.wakePair t .a).wakePair_frame t .b).trans
    (congrArg (fun x : State => { x with pairs := ((s.wakePair t .a).wakePair t .b).pairs }) (s.wakePair_frame t .a))

/-- Word 0 of a tile's record: mode and length are stored, and of the rest the pairs alone may change (R138, R153). -/
theorem State.tileWrite_mode (s : State) (t : Nat) {v : Word} (h : fld v 20 16 ≤ 16) : ∃ pairs, (s.tileWrite t 0 v).1
    = { s with
        tiles := tset tileDefault s.tiles t { s.tile t with mode := bit v 31, len := fld v 20 16 }
        pairs := pairs } := by
  delta State.tileWrite
  rw [if_pos rfl, if_neg h.not_gt, State.keepMode_frame]
  exact ⟨_, State.wakePairs_frame ..⟩

/-- A sequence entry of a tile's record: stored, or refused if its channel is 20 or above (R153). -/
theorem State.tileWrite_entry (s : State) (t : Nat) {i : Nat} (hi : i < 16) (v : Word) : (s.tileWrite t (16 + i) v).1
    = if 19 < fld v 20 16 then s
      else s.updTile t fun x => { x with seq := tset (fun _ => none) x.seq i (some (v &&& 0x001F3307#32)) } := by
  delta State.tileWrite
  obtain ⟨h0, h1, h2, h3, hseq⟩ : 16 + i ≠ 0 ∧ 16 + i ≠ 1 ∧ 16 + i ≠ 2 ∧ 16 + i ≠ 3 ∧ 16 ≤ 16 + i ∧ 16 + i < 32 := by omega
  rw [if_neg h0, if_neg h1, if_neg h2, if_neg h3, if_pos hseq, Nat.add_sub_cancel_left]
  exact apply_ite ..

/-- A length above 16 is refused, and a word with no field to write stores nothing (R153). -/
theorem State.tileWrite_nothing (s : State) (t : Nat) {w : Nat} {v : Word}
    (h : w = 0 ∧ 16 < fld v 20 16 ∨ 4 ≤ w ∧ (w < 16 ∨ 32 ≤ w)) : (s.tileWrite t w v).1 = s := by
  delta State.tileWrite
  rcases h with ⟨hw, hlen⟩ | ⟨hlow, hw⟩
  · rw [if_pos hw, if_pos hlen]
  · obtain ⟨h0, h1, h2, h3, hseq⟩ : w ≠ 0 ∧ w ≠ 1 ∧ w ≠ 2 ∧ w ≠ 3 ∧ ¬ (16 ≤ w ∧ w < 32) := by omega
    rw [if_neg h0, if_neg h1, if_neg h2, if_neg h3, if_neg hseq]

theorem State.seqWord_updTile (s : State) (t i j : Nat) (w : Word) :
    (s.updTile t fun x => { x with seq := tset (fun _ => none) x.seq i (some w) }).seqWord t j
      = if j = i then w else s.seqWord t j := by
  rw [State.seqWord, State.tile, State.updTile, tget_tset_eq, tget_tset_ite, apply_ite (Option.getD · _), Option.getD_some]
  rfl

/-- Settles O25: each write acts on the record it names, and WARM_ALL on every cell by itself. -/
theorem tableWritesStoreTheirFields : Obligations.TableWritesStoreTheirFields := by
  rintro dt v s _ rfl hready
  have hs : s.Ready := (State.isReady_advance dt).1 hready
  refine ⟨fun e w => ⟨_, State.run_tableWrite hs _ _, rfl, fun j hj => State.elem_updElem_ne _ _ hj, ?_, ?_, ?period, ?_, ?_, ?_,
    ?none⟩, fun c w => ?cell, ⟨_, State.exec_warmAll hs, State.warmAll_eq _⟩, fun t => ?tile⟩
  case period => rintro rfl; rw [← clampPer_eq]; exact tget_tset_eq ..
  case none => rintro (rfl | rfl) <;> exact tget_tset_eq ..
  case cell =>
    obtain ⟨hframe, hcell⟩ := (s.advance dt).cellWrite_eq c w v
    refine ⟨_, State.run_tableWrite hs _ _, hframe, fun j hj => (hcell j).trans (if_neg hj), ?_, ?_, fun h0 h4 =>
      (hcell c).trans ((if_pos rfl).trans ((if_neg (Fin.val_ne_of_ne h0)).trans (if_neg (Fin.val_ne_of_ne h4))))⟩
    all_goals rintro rfl; exact (hcell c).trans (if_pos rfl)
  case tile =>
    have htile (w : Fin 64) {u : State} (hu : ((s.advance dt).tileWrite t w v).1 = u) :
        exec (.tileTableWrite dt t w v) s = .next (s.seal dt u) := by rw [← hu]; exact State.run_tableWrite hs _ _
    refine ⟨fun hlen => htile 0 (State.tileWrite_nothing _ t (.inl ⟨rfl, hlen⟩)), fun hlen => ?mode, fun i hchan => ?entry,
      fun i hchan => htile _ ((State.tileWrite_entry _ t i.isLt v).trans (if_pos hchan)), fun w hw => ?counts,
      fun w hlow hw => htile w (State.tileWrite_nothing _ t (.inr ⟨hlow, hw⟩))⟩
    case mode =>
      obtain ⟨pairs, hmode⟩ := (s.advance dt).tileWrite_mode t hlen
      exact ⟨_, htile 0 hmode, rfl, tget_tset_eq .., fun j hj => tget_tset_ne _ _ _ hj⟩
    case entry =>
      have hword (j : Nat) := (s.advance dt).seqWord_updTile t i j (v &&& 0x001F3307#32)
      exact ⟨_, htile _ ((State.tileWrite_entry _ t i.isLt v).trans (if_neg hchan.not_gt)), rfl, (hword i).trans (if_pos rfl),
        fun j hj => (hword j).trans (if_neg hj), fun j hj => tget_tset_ne _ _ _ hj⟩
    case counts =>
      rcases hw with rfl | rfl | rfl
      all_goals exact ⟨_, htile _ rfl, rfl, fun j hj => tget_tset_ne _ _ _ hj, tget_tset_eq ..⟩
  all_goals rintro rfl; exact tget_tset_eq ..

end Sys2Proof.Machine
end
